-- ==== Sys2Proof/Word.lean ====
section
/-! DEFINITION. The byte, the smallest thing the cabin bus and the option memory carry (R197). -/

namespace Sys2Proof

/-- One byte; bit 0 is its least significant bit (R197). -/
abbrev Byte := BitVec 8

/-- The code of an unknown temperature (R199). -/
def Byte.unknown : Byte := 0x80#8

end Sys2Proof
end

