-- ==== Sys2Proof/Syntax.lean ====
section
/-! DEFINITION. The commands: one constructor for each row of spec/opcode_table.json. A command is one event at the
station: a frame that completes on the cabin bus, a bus event, a timer that runs out, a pin that changes, or a step of
the start-up. -/

namespace Sys2Proof

/-- The temperature codes that the front end gives at an event (R66, R101, R110): an evaluation that the event causes
reads these (entry 3). -/
structure Sensors where
  air0 : Byte
  air1 : Byte
  air2 : Byte
  outdoor : Byte
  screen : Byte
  deriving DecidableEq, Repr

/-- Every input open: the code "unknown" (R66). -/
def Sensors.unknown : Sensors :=
  ⟨Byte.unknown, Byte.unknown, Byte.unknown, Byte.unknown, Byte.unknown⟩

/-- The twelve payload bytes of a STATUS, byte 0 first (R200). -/
structure StatusPayload where
  /-- Bits 2–0 membership state; bit 3 SHED; bit 4 pending; bit 5 sensor fault; bit 6 defrost active. -/
  flags : Byte
  tag : Byte
  borrowed : Byte
  safety : Byte
  owed : Byte
  waiting : Byte
  /-- Bits 7–6 waiting rank; bits 5–0 the attention flags. -/
  rankAttention : Byte
  standing : Byte
  leaseTagSeen : Byte
  zoneTemp : Byte
  demand : Byte
  outdoor : Byte
  deriving DecidableEq, Repr

/-- How the option memory read failed (R190). -/
inductive ReadFailure where
  | noAcknowledge
  | badRosterCount
  | stoppedAnswering
  deriving DecidableEq, Repr

/-- The six override kinds (R128). -/
inductive OverrideKind where
  | setpointOffset
  | fanForce
  | zoneOff
  | boostInhibit
  | economy
  | defrostMode
  deriving DecidableEq, Repr

/-- The commands. `codes` are the front-end codes at the event; `address` is the address the frame bears; the other
operands of a completed frame are its payload bytes (R200, R201). -/
inductive Instr where
  | allowance (codes : Sensors) (address : BitVec 4) (units leaseTime fallback tag : Byte)
  | lapse (codes : Sensors) (address : BitVec 4) (tag : Byte)
  | expel (codes : Sensors) (address : BitVec 4) (station : Byte)
  | join (codes : Sensors) (address : BitVec 4) (tag : Byte)
  | status (codes : Sensors) (address : BitVec 4) (payload : StatusPayload)
  | claim (codes : Sensors) (address : BitVec 4) (units rank : Byte)
  | ret (codes : Sensors) (address : BitVec 4) (units safetyUnits : Byte)
  | draft (codes : Sensors) (address : BitVec 4) (active : Byte)
  | override (codes : Sensors) (address : BitVec 4) (kind mask value duration : Byte)
  | cancel (codes : Sensors) (address : BitVec 4) (kind mask : Byte)
  | snapshot (codes : Sensors) (address : BitVec 4)
  | query (codes : Sensors) (address : BitVec 4) (target item flags : Byte)
  | report (codes : Sensors) (address : BitVec 4) (data : List Byte)
  | unknownKindFrame (codes : Sensors) (address : BitVec 4) (kind : BitVec 4)
  /-- `heard`: the bits heard from the start bit to where the error was found; true is recessive (R161). -/
  | frameError (heard : List Bool)
  /-- `heard`: the bits that the sender reads back of its own frame, from the start bit to the one that decides (R166). -/
  | ownFrameVoid (heard : List Bool)
  | ownFrameLost
  | frameStart
  | busIdle
  | busIdle2ms
  | muteTimerExpiry
  | censusTimerExpiry (codes : Sensors)
  | catchUpTimerExpiry (codes : Sensors)
  | statusPeriodExpiry
  | silenceAgeLimit (station : Fin 8)
  | leaseTimerExpiry
  | claimSpacingExpiry
  | returnTimerExpiry
  | settleTimerExpiry (codes : Sensors)
  | rideThroughExpiry (codes : Sensors)
  | qualifyTimerExpiry (codes : Sensors)
  /-- `high`: the raw LINE level after the change; high is good (R204). -/
  | lineRawChange (high : Bool)
  | lineLevelChange (codes : Sensors)
  | periodicEvaluation (codes : Sensors)
  /-- `stage`: 0 for stage 1 up to 3 for stage 4. -/
  | stageMinimumTimerExpiry (codes : Sensors) (stage : Fin 4)
  /-- `apart`: the raw level after the change; high reads APART (R204). -/
  | doorRawChange (door : Fin 2) (apart : Bool)
  | doorLevelChange (codes : Sensors) (door : Fin 2)
  | longOpenExpiry (codes : Sensors) (door : Fin 2)
  | tailTimerExpiry (codes : Sensors)
  | spillTimerExpiry (codes : Sensors) (station : Fin 8)
  | outdoorAgeExpiry (codes : Sensors)
  /-- `active`: the raw FOG level after the change; high is active (R204). -/
  | fogRawChange (active : Bool)
  | fogLevelChange (codes : Sensors)
  | rampTimerExpiry (codes : Sensors)
  | holdTimerExpiry (codes : Sensors)
  | trimTimerExpiry (codes : Sensors)
  | slotExpiry (codes : Sensors) (kind : OverrideKind)
  | panelSilenceExpiry (codes : Sensors)
  | statisticsSecond
  | powerOnReset
  | externalReset
  | resetRelease (straps : BitVec 3)
  /-- `bytes`: the bytes read from address 0 of the option memory, in read order (R190). -/
  | optionReadDone (codes : Sensors) (bytes : List Byte)
  | optionReadFailed (cause : ReadFailure)
  | startBit
  deriving DecidableEq, Repr

end Sys2Proof
end

