-- ==== Sys2Proof/Config.lean ====
section
/-! DEFINITION. What is fixed from the completion of the option load until the next reset: the values of the
vehicle table (R191). The manual leaves no result open, so there is no free value here. -/

namespace Sys2Proof

/-- The role of a station (R191). -/
inductive Role where
  | cab
  | saloon
  deriving DecidableEq, Repr

/-- One roster entry of the vehicle table (R191). -/
structure RosterEntry where
  /-- Station number, 0 to 7. -/
  station : Nat
  role : Role
  /-- Dedicated units, 0 to 31. -/
  dedicated : Nat
  /-- 0, 1, 2, 4 or 8. -/
  weight : Nat
  /-- 0 to 2 station numbers. -/
  neighbours : List Nat
  /-- Base setpoint, half-degrees. -/
  baseSetpoint : Int
  /-- The four stage sizes, stage 1 first, 0 to 15 units each. -/
  sizes : List Nat
  /-- Units per half-degree, 1 to 4. -/
  gain : Nat
  /-- 0, 1 or 2. -/
  doorCount : Nat
  /-- Door boost units, 0 to 15. -/
  doorBoost : Nat
  deriving DecidableEq, Repr

/-- What stands for the own entry while no table is in force: it owns nothing (entry 5). -/
def RosterEntry.blank : RosterEntry :=
  { station := 0, role := .saloon, dedicated := 0, weight := 0, neighbours := [], baseSetpoint := 0,
    sizes := [0, 0, 0, 0], gain := 1, doorCount := 0, doorBoost := 0 }

/-- The vehicle table's values (R191). Times are in milliseconds. -/
structure VehicleTable where
  check : BitVec 16
  rideThrough : Nat
  returnBatch : Nat
  returnTimer : Nat
  claimSpacing : Nat
  stageMinimum : Nat
  debounce : Nat
  longOpen : Nat
  tailBase : Nat
  spillLimit : Nat
  defrostUnits : Nat
  trimUnits : Nat
  /-- Half-degrees. -/
  clearTemp : Int
  /-- Half-degrees. -/
  autoThreshold : Int
  rampLimit : Nat
  holdTime : Nat
  trimTime : Nat
  counterFreeze : Bool
  /-- One bit for each counter, bit 0 for ENERGY up to bit 8 for DOOR1_SECONDS (R203). -/
  attentionMask : BitVec 9
  roster : List RosterEntry
  deriving DecidableEq, Repr

/-- What stands for the table while none is in force (R195; entry 5). -/
def VehicleTable.blank : VehicleTable :=
  { check := 0, rideThrough := 0, returnBatch := 0, returnTimer := 0, claimSpacing := 0, stageMinimum := 0,
    debounce := 0, longOpen := 0, tailBase := 0, spillLimit := 0, defrostUnits := 0, trimUnits := 0,
    clearTemp := 0, autoThreshold := 0, rampLimit := 0, holdTime := 0, trimTime := 0, counterFreeze := false,
    attentionMask := 0, roster := [] }

end Sys2Proof
end

