-- ==== Sys2Proof/Machine/State.lean ====
section
/-! DEFINITION. The station's state: every item the manual gives it, as plain data, block by block, and its value right
after a power-on reset. Items the manual derives from others (pool size, spendable, defrost load, …) are functions of
these in the files beside this one. -/

namespace Sys2Proof.Machine

/-- A timer: `none` is stopped, `some n` is running with n milliseconds left (entry 2). -/
abbrev Timer := Option Nat

/-! ## Bulletins -/

/-- A bulletin by kind, with its payload bytes as R200 and R201 lay them out. -/
inductive Bulletin where
  | allowance (units leaseTime fallback tag : Byte)
  | lapse (tag : Byte)
  | expel (station : Byte)
  | join (tag : Byte)
  | status (payload : StatusPayload)
  | claim (units rank : Byte)
  | ret (units safetyUnits : Byte)
  | draft (active : Byte)
  | override (kind mask value duration : Byte)
  | cancel (kind mask : Byte)
  | snapshot
  | query (target item flags : Byte)
  | report (data : List Byte)
  | unknown (kind : BitVec 4)
  deriving DecidableEq, Repr

/-- The eight kinds that stations send and that may wait in the transmit queue (R171). -/
inductive TxKind where
  | join
  | status
  | claim
  | ret
  | draft
  | lapse
  | expel
  | report
  deriving DecidableEq, Repr

/-! ## Option loader -/

/-- Where the loader stands (R190); `inReset` is the reset not yet released (R196). -/
inductive Phase where
  | inReset
  | reading
  | checking
  | loaded
  | failed
  deriving DecidableEq, Repr

structure Loader where
  phase : Phase
  /-- The strap number sampled at the release of the reset (R190). -/
  strap : BitVec 3
  /-- The vehicle table image, as read (R190). -/
  image : List Byte
  /-- The values in force (R191, R193); the blank table while none is. -/
  vt : VehicleTable
  deriving DecidableEq, Repr

/-! ## Share table -/

/-- R2. -/
inductive RowState where
  | absent
  | present
  | mismatched
  deriving DecidableEq, Repr

/-- One row (R1). -/
structure Row where
  station : Nat
  role : Role
  dedicated : Nat
  weight : Nat
  state : RowState
  borrowed : Nat
  safety : Nat
  owed : Nat
  deriving DecidableEq, Repr

/-- What stands for the own row where there is none: it holds nothing. -/
def Row.blank : Row :=
  { station := 0, role := .saloon, dedicated := 0, weight := 0, state := .absent, borrowed := 0, safety := 0, owed := 0 }

/-- The rank of a claim (R27). -/
inductive Rank where
  | safety
  | draft
  | normal
  deriving DecidableEq, Repr

/-- One claim queue entry (R27). -/
structure Entry where
  station : Nat
  units : Nat
  rank : Rank
  standing : Nat
  deriving DecidableEq, Repr

/-- R4; `noLease` is NONE. -/
inductive LeaseState where
  | noLease
  | current
  | lapsed
  deriving DecidableEq, Repr

/-- The share table (R1, R4). Rows are kept in the recall order of R40, the claim queue in the order of R28. -/
structure ShareTable where
  rows : List Row
  allowance : Nat
  fallback : Nat
  leaseTag : Byte
  leaseState : LeaseState
  overdrawn : Bool
  queue : List Entry
  deriving DecidableEq, Repr

/-- R25, before the load has built the rows. -/
def ShareTable.empty : ShareTable :=
  { rows := [], allowance := 0, fallback := 0, leaseTag := 0, leaseState := .noLease, overdrawn := false, queue := [] }

/-! ## Share unit -/

/-- R47, R57: on expiry the timer stays expired. -/
inductive ReturnTimer where
  | stopped
  | running (left : Nat)
  | expired
  deriving DecidableEq, Repr

/-- R47. The in-flight units are read from the own frame in flight. -/
structure ShareUnit where
  aside : Nat
  /-- The shed commitment. -/
  commit : Nat
  leaseExpired : Bool
  leaseTimer : Timer
  spacingTimer : Timer
  returnTimer : ReturnTimer
  wishUnits : Nat
  wishRank : Rank
  deriving DecidableEq, Repr

/-! ## Supply monitor -/

/-- R61. -/
inductive SupplyState where
  | settling
  | live
  | rideThrough
  | shed
  deriving DecidableEq, Repr

/-- R61. `good` is the debounced level. -/
structure Supply where
  state : SupplyState
  good : Bool
  debounce : Timer
  settle : Timer
  rideThrough : Timer
  qualify : Timer
  deriving DecidableEq, Repr

/-! ## Zone controller -/

/-- R67. -/
inductive Validity where
  | undecided
  | valid
  | invalid
  deriving DecidableEq, Repr

/-- One air sensor as the zone controller knows it (R67). -/
structure AirSensor where
  validity : Validity
  recovery : Nat
  deriving DecidableEq, Repr

/-- R74. -/
inductive ZoneMode where
  | active
  | heldOff
  | limp
  deriving DecidableEq, Repr

/-- A stage's minimum timer (R78). -/
inductive MinTimer where
  | clear
  | afterOn (left : Nat)
  | afterOff (left : Nat)
  deriving DecidableEq, Repr

/-- One heater stage (R78). -/
structure Stage where
  size : Nat
  on : Bool
  timer : MinTimer
  deriving DecidableEq, Repr

structure Zone where
  air0 : AirSensor
  air1 : AirSensor
  air2 : AirSensor
  /-- Half-degrees; `none` is unknown (R68). -/
  temp : Option Int
  /-- The sensor fault flag (R68). -/
  fault : Bool
  /-- The effective setpoint, half-degrees; none until the option load completes (R69, R87). -/
  setpoint : Option Int
  /-- The pending flag (R70). -/
  pendingFlag : Bool
  base : Nat
  total : Nat
  mode : ZoneMode
  /-- Stage 1 first. -/
  stages : List Stage
  fan : Nat
  /-- The 1 s evaluation period (R71). -/
  period : Timer
  deriving DecidableEq, Repr

/-! ## Door unit -/

/-- R89. -/
inductive DoorState where
  | unsampled
  | closed
  | opened
  | longOpen
  deriving DecidableEq, Repr

/-- R89, R90. -/
inductive DoorLevel where
  | shut
  | apart
  deriving DecidableEq, Repr

/-- One door machine (R89). -/
structure Door where
  state : DoorState
  /-- The debounced level; none before the first sample. -/
  level : Option DoorLevel
  debounce : Timer
  longOpen : Timer
  deriving DecidableEq, Repr

/-- R93. -/
inductive OneShot where
  | idle
  | held
  | tail
  deriving DecidableEq, Repr

/-- One spill set entry (R106). -/
structure SpillEntry where
  station : Nat
  timer : Timer
  deriving DecidableEq, Repr

structure DoorUnit where
  door0 : Door
  door1 : Door
  oneShot : OneShot
  tail : Timer
  /-- The activity carried by the last own DRAFT taken (R104). -/
  lastStated : Bool
  spill : List SpillEntry
  /-- The outdoor reading, half-degrees; `none` is unknown (R101, R102). -/
  outdoor : Option Int
  outdoorAge : Timer
  deriving DecidableEq, Repr

/-! ## Defrost unit -/

/-- R111. -/
inductive DefrostState where
  | off
  | waiting
  | ramp
  | hold
  | trim
  | paused
  deriving DecidableEq, Repr

/-- R110. -/
inductive DefrostMode where
  | off
  | auto
  | max
  deriving DecidableEq, Repr

structure Defrost where
  state : DefrostState
  /-- Runs as the ramp, hold or trim timer by the state (R112). -/
  phase : Timer
  pausedKept : Nat
  /-- The debounced fog level; true is ACTIVE. -/
  fog : Bool
  fogDebounce : Timer
  /-- The screen reading, half-degrees; `none` is unknown. -/
  screen : Option Int
  deriving DecidableEq, Repr

/-! ## Override table -/

/-- An active slot (R128); an expiry of `none` holds until cancelled or panel silence. -/
structure Slot (α : Type) where
  value : α
  expiry : Timer
  deriving DecidableEq, Repr

/-- The six slots and the panel silence timer (R128); `none` is an empty slot. -/
structure Overrides where
  setpointOffset : Option (Slot Int)
  fanForce : Option (Slot Nat)
  zoneOff : Option (Slot Unit)
  boostInhibit : Option (Slot Unit)
  economy : Option (Slot Unit)
  defrostMode : Option (Slot DefrostMode)
  panelSilence : Timer
  deriving DecidableEq, Repr

/-! ## Membership unit -/

/-- R144; `undecided` from a reset until the load ends. -/
inductive MemberState where
  | undecided
  | unconfigured
  | listen
  | joining
  | catchingUp
  | inStep
  | mismatched
  | clash
  deriving DecidableEq, Repr

/-- One station of the heard set; `tagZero` notes that its latest STATUS carried a lease tag seen of 0 (R148). -/
structure Heard where
  station : Nat
  tagZero : Bool
  deriving DecidableEq, Repr

/-- The silence age of one row (R154), as the time left until it reaches 12 s: 0 once it has, and `none` from its
SILENCE_AGE_LIMIT on. The row is silent either way (entry 23). -/
structure Age where
  station : Nat
  left : Timer
  deriving DecidableEq, Repr

structure Membership where
  state : MemberState
  census : Timer
  catchUp : Timer
  statusPeriod : Timer
  heard : List Heard
  leaseNews : Bool
  ages : List Age
  /-- The pending expulsion (R155). -/
  expulsion : Option Nat
  deriving DecidableEq, Repr

/-! ## Bus interface -/

/-- One transmit queue entry (R171); its age is the number of the command that created it (entry 20). -/
structure TxEntry where
  kind : TxKind
  age : Nat
  deriving DecidableEq, Repr

/-- The own frame in flight: what was fixed at its frame start (R165), and the renewal (R173), which is the number of the
command that first asked for one. -/
structure OwnFrame where
  kind : TxKind
  bulletin : Bulletin
  cls : Nat
  renewal : Option Nat
  deriving DecidableEq, Repr

/-- R174. -/
inductive Standing where
  | active
  | mute
  deriving DecidableEq, Repr

/-- What the station drives on the bus, or drove last before the bus became IDLE (R165 to R167, R177). -/
inductive Drive where
  | released
  | frame
  | objection
  | errorSignal
  | abort
  deriving DecidableEq, Repr

structure Bus where
  queue : List TxEntry
  inFlight : Option OwnFrame
  standing : Standing
  failures : Nat
  mute : Timer
  /-- The bus-idle detector; true is IDLE (R164). -/
  idle : Bool
  /-- The 2 ms wait of the opportunistic RETURN (R57, R164). -/
  idleWait : Timer
  drive : Drive
  deriving DecidableEq, Repr

/-! ## Statistics and snapshot -/

/-- The nine counters (R178). -/
inductive Counter where
  | energy
  | waitSeconds
  | recalls
  | linkFails
  | repairs
  | door0Opens
  | door0Seconds
  | door1Opens
  | door1Seconds
  deriving DecidableEq, Repr

/-- The counters' values at their widths (R178). -/
structure Counters where
  energy : BitVec 32
  waitSeconds : BitVec 16
  recalls : BitVec 16
  linkFails : BitVec 8
  repairs : BitVec 8
  door0Opens : BitVec 16
  door0Seconds : BitVec 24
  door1Opens : BitVec 16
  door1Seconds : BitVec 24
  deriving DecidableEq, Repr

def Counters.zero : Counters := ⟨0, 0, 0, 0, 0, 0, 0, 0, 0⟩

/-- The six attention flags (R181). -/
structure Attention where
  half0 : Bool
  full0 : Bool
  half1 : Bool
  full1 : Bool
  config : Bool
  rampTimeout : Bool
  deriving DecidableEq, Repr

def Attention.clear : Attention := ⟨false, false, false, false, false, false⟩

/-- R182. -/
inductive ReportItem where
  | zone
  | page0
  | page1
  | snapshot
  | row
  | queue
  deriving DecidableEq, Repr

/-- The report request (R182): `row` for ROW, `part` for SNAPSHOT (R187). -/
structure ReportRequest where
  item : ReportItem
  row : Nat
  clear : Bool
  part : Nat
  deriving DecidableEq, Repr

/-- The report in flight (R183): the request it was built from, the snapshot part it carries, the counters as carried,
the marks reached since its frame start (R185), and whether a QUERY has replaced the request since (R184). -/
structure ReportInFlight where
  request : ReportRequest
  part : Nat
  counters : Counters
  since : Attention
  replaced : Bool
  deriving DecidableEq, Repr

/-- The zone record (R183). It holds the fan level, which R86 has the ZONE report carry and the fields of R183 leave out
(DESIGN CHOICE, entry 33). -/
structure ZoneRecord where
  temp : Option Int
  outdoor : Option Int
  spendable : Nat
  aside : Nat
  setpoint : Option Int
  mode : ZoneMode
  fan : Nat
  demand : Nat
  supply : SupplyState
  boost : Nat
  factor : Nat
  load : Nat
  pendingFlag : Bool
  usable : Nat
  defrost : DefrostState
  spill : Nat
  spillEntries : Nat
  door0 : DoorState
  door1 : DoorState
  oneShot : OneShot
  setpointOffset : Bool
  fanForce : Bool
  zoneOff : Bool
  boostInhibit : Bool
  economy : Bool
  defrostMode : Bool
  deriving DecidableEq, Repr

/-- The latched picture (R186). -/
structure Picture where
  record : ZoneRecord
  counters : Counters
  deriving DecidableEq, Repr

structure Stats where
  counters : Counters
  flags : Attention
  /-- The statistics second (R178). -/
  second : Timer
  request : Option ReportRequest
  inFlight : Option ReportInFlight
  /-- The snapshot buffer; `none` is EMPTY (R186). -/
  snapshot : Option Picture
  deriving DecidableEq, Repr

/-! ## Pins and the whole station -/

/-- The input pins (R204): the front end's latest codes and the raw levels. -/
structure Pins where
  sensors : Sensors
  line : Bool
  fog : Bool
  door0 : Bool
  door1 : Bool
  deriving DecidableEq, Repr

/-- The station. -/
structure State where
  /-- The waiting commands, first in, first out. -/
  pending : List Instr
  /-- The number of the present command (entry 20). -/
  moment : Nat
  pins : Pins
  loader : Loader
  table : ShareTable
  share : ShareUnit
  supply : Supply
  zone : Zone
  doors : DoorUnit
  defrost : Defrost
  overrides : Overrides
  member : Membership
  bus : Bus
  stats : Stats
  deriving DecidableEq, Repr

/-- Why the station could stop with a fault. The manual gives no condition that stops the station: every error it
describes leads to a state (UNCONFIGURED, MISMATCHED, CLASH, MUTE, LIMP), so there is none. Safe. -/
inductive Fault where
  deriving DecidableEq, Repr

/-- Why a command could have no meaning. -/
inductive Refusal where
  /-- Raised by an arm of exec whose command has no meaning yet, with the command's mnemonic. Safe: the machine stops.
  No arm raises it. -/
  | notModelled (mnemonic : String)
  deriving DecidableEq, Repr

/-! ## Reset values -/

def AirSensor.reset : AirSensor := { validity := .undecided, recovery := 0 }

/-- R78, R87: OFF with its timer clear; the size comes with the load. -/
def Stage.reset : Stage := { size := 0, on := false, timer := .clear }

/-- R89. -/
def Door.reset : Door := { state := .unsampled, level := none, debounce := none, longOpen := none }

/-- R190, R196: held in reset; the strap number and the table are the model's stand-ins (entry 5). -/
def Loader.reset : Loader := { phase := .inReset, strap := 0, image := [], vt := VehicleTable.blank }

/-- R47. -/
def ShareUnit.reset : ShareUnit :=
  { aside := 0, commit := 0, leaseExpired := false, leaseTimer := none, spacingTimer := none, returnTimer := .stopped,
    wishUnits := 0, wishRank := .normal }

/-- R61. -/
def Supply.reset : Supply :=
  { state := .settling, good := false, debounce := none, settle := none, rideThrough := none, qualify := none }

/-- R87. -/
def Zone.reset : Zone :=
  { air0 := AirSensor.reset, air1 := AirSensor.reset, air2 := AirSensor.reset, temp := none, fault := false,
    setpoint := none, pendingFlag := false, base := 0, total := 0, mode := .active,
    stages := [Stage.reset, Stage.reset, Stage.reset, Stage.reset], fan := 0, period := none }

/-- R89, R93, R101, R102, R104, R106. -/
def DoorUnit.reset : DoorUnit :=
  { door0 := Door.reset, door1 := Door.reset, oneShot := .idle, tail := none, lastStated := false, spill := [],
    outdoor := none, outdoorAge := none }

/-- R111, R126. -/
def Defrost.reset : Defrost :=
  { state := .off, phase := none, pausedKept := 0, fog := false, fogDebounce := none, screen := none }

/-- R128. -/
def Overrides.reset : Overrides :=
  { setpointOffset := none, fanForce := none, zoneOff := none, boostInhibit := none, economy := none,
    defrostMode := none, panelSilence := none }

/-- R144. -/
def Membership.reset : Membership :=
  { state := .undecided, census := none, catchUp := none, statusPeriod := none, heard := [], leaseNews := false,
    ages := [], expulsion := none }

/-- R175. -/
def Bus.reset : Bus :=
  { queue := [], inFlight := none, standing := .active, failures := 0, mute := none, idle := false, idleWait := none,
    drive := .released }

/-- R178, R181, R182, R186, after a power-on reset. -/
def Stats.reset : Stats :=
  { counters := Counters.zero, flags := Attention.clear, second := none, request := none, inFlight := none,
    snapshot := none }

/-- The pins are the outside world's; the model starts with every sensor open and every level low (entry 4). -/
def Pins.reset : Pins := { sensors := Sensors.unknown, line := false, fog := false, door0 := false, door1 := false }

/-- The station right after a power-on reset, before the reset is released (R196, R204). -/
def State.reset : State :=
  { pending := [], moment := 0, pins := Pins.reset, loader := Loader.reset, table := ShareTable.empty,
    share := ShareUnit.reset, supply := Supply.reset, zone := Zone.reset, doors := DoorUnit.reset,
    defrost := Defrost.reset, overrides := Overrides.reset, member := Membership.reset, bus := Bus.reset,
    stats := Stats.reset }

end Sys2Proof.Machine
end

