-- ==== Sys2Proof/Machine/Operands.lean ====
section
/-! DEFINITION. Codes and layouts: how the fields of bulletins, reports and the vehicle table are read and written
(R197, R199, R200, R201), and the fixed times of the manual. -/

namespace Sys2Proof.Machine

/-! ## Fixed times, in milliseconds -/

/-- R146. -/
def censusTime : Nat := 5000
/-- R147. -/
def catchUpTime : Nat := 12000
/-- R151. -/
def statusPeriodTime : Nat := 2000
/-- R154. -/
def silenceLimit : Nat := 12000
/-- R61. -/
def lineDebounceTime : Nat := 10
/-- R61. -/
def settleTime : Nat := 3000
/-- R61. -/
def qualifyTime : Nat := 1000
/-- R71. -/
def evaluationPeriod : Nat := 1000
/-- R102. -/
def outdoorAgeTime : Nat := 10000
/-- R110. -/
def fogDebounceTime : Nat := 1000
/-- R128. -/
def panelSilenceTime : Nat := 30000
/-- R57. -/
def idleWaitTime : Nat := 2
/-- R174. -/
def muteTime : Nat := 2000
/-- R178. -/
def statisticsPeriod : Nat := 1000

/-! ## Temperatures -/

/-- A temperature code: half-degrees, or unknown for 0x80 (R199). -/
def tempOf (b : Byte) : Option Int := if b = Byte.unknown then none else some b.toInt

/-- The code of a temperature (R199). -/
def tempCode : Option Int → Byte
  | none => Byte.unknown
  | some t => BitVec.ofInt 8 t

/-- A code that lies from −40.0 °C to +60.0 °C is taken as a reading; any other makes it unknown (R66, R101, R110). -/
def readingOf (b : Byte) : Option Int :=
  match tempOf b with
  | some t => if -80 ≤ t ∧ t ≤ 120 then some t else none
  | none => none

/-! ## Codes -/

/-- R199. -/
def Rank.code : Rank → Nat
  | .safety => 1
  | .draft => 2
  | .normal => 3

/-- R199; any other code is not a rank. -/
def rankOf (n : Nat) : Option Rank :=
  match n with
  | 1 => some .safety
  | 2 => some .draft
  | 3 => some .normal
  | _ => none

/-- R199; the undecided state sends no STATUS and has no code of its own. -/
def MemberState.code : MemberState → Nat
  | .undecided => 0
  | .unconfigured => 0
  | .listen => 1
  | .joining => 2
  | .catchingUp => 3
  | .inStep => 4
  | .mismatched => 5
  | .clash => 6

def SupplyState.code : SupplyState → Nat
  | .settling => 0
  | .live => 1
  | .rideThrough => 2
  | .shed => 3

def ZoneMode.code : ZoneMode → Nat
  | .active => 0
  | .heldOff => 1
  | .limp => 2

def DoorState.code : DoorState → Nat
  | .unsampled => 0
  | .closed => 1
  | .opened => 2
  | .longOpen => 3

def OneShot.code : OneShot → Nat
  | .idle => 0
  | .held => 1
  | .tail => 2

def DefrostState.code : DefrostState → Nat
  | .off => 0
  | .waiting => 1
  | .ramp => 2
  | .hold => 3
  | .trim => 4
  | .paused => 5

def RowState.code : RowState → Nat
  | .absent => 0
  | .present => 1
  | .mismatched => 2

/-- The override kind of a code, 1 to 6 (R199); any other is unknown. -/
def overrideKindOf (b : Byte) : Option OverrideKind :=
  match b.toNat with
  | 1 => some .setpointOffset
  | 2 => some .fanForce
  | 3 => some .zoneOff
  | 4 => some .boostInhibit
  | 5 => some .economy
  | 6 => some .defrostMode
  | _ => none

/-- R199. -/
def defrostModeOf (b : Byte) : Option DefrostMode :=
  match b.toNat with
  | 0 => some .off
  | 1 => some .auto
  | 2 => some .max
  | _ => none

/-- The item of a QUERY (R182). -/
def reportItemOf (b : Byte) : Option ReportItem :=
  match b.toNat with
  | 1 => some .zone
  | 2 => some .page0
  | 3 => some .page1
  | 4 => some .snapshot
  | 5 => some .row
  | 6 => some .queue
  | _ => none

/-- R182. -/
def ReportItem.code : ReportItem → Nat
  | .zone => 1
  | .page0 => 2
  | .page1 => 3
  | .snapshot => 4
  | .row => 5
  | .queue => 6

/-- Bit n of a target mask stands for station n (R199). -/
def maskHas (mask : Byte) (station : Nat) : Bool := mask.getLsbD station

/-- A flag as a number at a bit place. -/
def bitAt (place : Nat) (flag : Bool) : Nat := if flag then 2 ^ place else 0

/-- A number as one byte. -/
def byteOf (n : Nat) : Byte := BitVec.ofNat 8 n

/-- The low `count` bytes of a number, most significant byte first (R197). -/
def bytesOf : Nat → Nat → List Byte
  | 0, _ => []
  | count + 1, n => bytesOf count (n / 256) ++ [byteOf n]

/-! ## Kind codes -/

/-- The kind code of a bulletin (R163). -/
def Bulletin.kindCode : Bulletin → BitVec 4
  | .join .. => 1
  | .status .. => 2
  | .claim .. => 3
  | .ret .. => 4
  | .draft .. => 5
  | .lapse .. => 6
  | .expel .. => 7
  | .report .. => 8
  | .allowance .. => 9
  | .override .. => 10
  | .cancel .. => 11
  | .snapshot => 12
  | .query .. => 13
  | .unknown kind => kind

/-- The kind code of a station kind (R163). -/
def TxKind.code : TxKind → BitVec 4
  | .join => 1
  | .status => 2
  | .claim => 3
  | .ret => 4
  | .draft => 5
  | .lapse => 6
  | .expel => 7
  | .report => 8

/-- The station kind of a bulletin; none for the bulletins of other senders and for an unknown kind (R163, R171). -/
def Bulletin.txKind : Bulletin → Option TxKind
  | .join .. => some .join
  | .status .. => some .status
  | .claim .. => some .claim
  | .ret .. => some .ret
  | .draft .. => some .draft
  | .lapse .. => some .lapse
  | .expel .. => some .expel
  | .report .. => some .report
  | .allowance .. | .override .. | .cancel .. | .snapshot | .query .. | .unknown _ => none

/-- The payload bytes in sending order (R200, R201). -/
def Bulletin.payload : Bulletin → List Byte
  | .join tag => [tag]
  | .status p =>
    [p.flags, p.tag, p.borrowed, p.safety, p.owed, p.waiting, p.rankAttention, p.standing, p.leaseTagSeen,
      p.zoneTemp, p.demand, p.outdoor]
  | .claim units rank => [units, rank]
  | .ret units safetyUnits => [units, safetyUnits]
  | .draft active => [active]
  | .lapse tag => [tag]
  | .expel station => [station]
  | .report data => data
  | .allowance units leaseTime fallback tag => [units, leaseTime, fallback, tag]
  | .override kind mask value duration => [kind, mask, value, duration]
  | .cancel kind mask => [kind, mask]
  | .snapshot => []
  | .query target item flags => [target, item, flags]
  | .unknown _ => []

/-- The waiting rank code of a STATUS: bits 7–6 of byte 6 (R200). -/
def statusRankCode (p : StatusPayload) : Nat := p.rankAttention.toNat / 64

/-- The row number of a QUERY: bits 6–4 of its flags (R201). -/
def queryRow (flags : Byte) : Nat := flags.toNat / 16 % 8

/-- The clear flag of a QUERY: bit 0 of its flags (R201). -/
def queryClear (flags : Byte) : Bool := flags.getLsbD 0

end Sys2Proof.Machine
end

