-- ==== Sys2Proof/Machine/ShareTable.lean ====
section
/-! DEFINITION. The share table's own operations: pool, free and usable units, recall, the claim queue, the service round,
and what the taking of each of its seven bulletin kinds does to it (R1 to R45, R56). -/

namespace Sys2Proof.Machine

/-! ## Rows and derived values -/

/-- The recall order: lower weight first, then higher station number (R40). -/
def Row.recalledBefore (a b : Row) : Bool :=
  decide (a.weight < b.weight) || (a.weight == b.weight && decide (b.station < a.station))

def insertRow (r : Row) : List Row → List Row
  | [] => [r]
  | x :: xs => if r.recalledBefore x then r :: x :: xs else x :: insertRow r xs

/-- Rows in the recall order (R40). -/
def recallOrder (rows : List Row) : List Row := rows.foldr insertRow []

/-- The row of a roster entry right after the load (R1, R25). -/
def rowOfEntry (e : RosterEntry) : Row :=
  { station := e.station, role := e.role, dedicated := e.dedicated, weight := e.weight, state := .absent, borrowed := 0,
    safety := 0, owed := 0 }

/-- The share table that the completion of the load builds (R25). -/
def ShareTable.ofRoster (roster : List RosterEntry) : ShareTable :=
  { ShareTable.empty with rows := recallOrder (roster.map rowOfEntry) }

/-- The row of a station, when it is on the roster (R1). -/
def ShareTable.row? (t : ShareTable) (station : Nat) : Option Row := t.rows.find? (fun r => r.station == station)

/-- The row of a station; a blank one off the roster. -/
def ShareTable.rowOf (t : ShareTable) (station : Nat) : Row := (t.row? station).getD Row.blank

/-- The claim queue entry of a station (R27). -/
def ShareTable.entry? (t : ShareTable) (station : Nat) : Option Entry := t.queue.find? (fun e => e.station == station)

def ShareTable.hasEntry (t : ShareTable) (station : Nat) : Bool := (t.entry? station).isSome

/-- D, the dedicated units of every row (R5). -/
def ShareTable.reserved (t : ShareTable) : Nat := (t.rows.map (·.dedicated)).sum

def ShareTable.borrowedSum (t : ShareTable) : Nat := (t.rows.map (·.borrowed)).sum

def ShareTable.owedSum (t : ShareTable) : Nat := (t.rows.map (·.owed)).sum

/-- What a row holds beyond what it owes. -/
def Row.held (r : Row) : Nat := r.borrowed - r.owed

/-- The held part, Σ(borrowed − owed) (R9). -/
def ShareTable.held (t : ShareTable) : Nat := (t.rows.map Row.held).sum

/-- The pool size (R6). -/
def ShareTable.pool (t : ShareTable) : Nat :=
  match t.leaseState with
  | .current => t.allowance - t.reserved
  | .noLease | .lapsed => 0

/-- The free units (R7). -/
def ShareTable.free (t : ShareTable) : Nat := t.pool - t.borrowedSum

/-- A dedicated share curtailed to a limit (R8). -/
def curtailed (dedicated limit reserved : Nat) : Nat :=
  if reserved ≤ limit then dedicated else dedicated * limit / reserved

/-- The usable dedicated units of a row (R8). -/
def ShareTable.usableOf (t : ShareTable) (r : Row) : Nat :=
  match t.leaseState with
  | .noLease => r.dedicated
  | .current => curtailed r.dedicated t.allowance t.reserved
  | .lapsed => curtailed r.dedicated t.fallback t.reserved

/-- R29. -/
def ShareTable.congested (t : ShareTable) : Bool := !t.queue.isEmpty

/-- The position of a station's entry in the queue order, from 1 (R29). -/
def ShareTable.position (t : ShareTable) (station : Nat) : Option Nat :=
  (t.queue.findIdx? (fun e => e.station == station)).map (· + 1)

/-- Changes the row of one station. -/
def updateRow (station : Nat) (f : Row → Row) (rows : List Row) : List Row :=
  rows.map (fun r => if r.station = station then f r else r)

def ShareTable.update (t : ShareTable) (station : Nat) (f : Row → Row) : ShareTable :=
  { t with rows := updateRow station f t.rows }

/-- A row with nothing held, in a given state (R19, R20, R21). -/
def Row.cleared (state : RowState) (r : Row) : Row := { r with state, borrowed := 0, safety := 0, owed := 0 }

/-! ## The claim queue -/

/-- The queue order: rank, then higher standing, then lower station number (R28). -/
def Entry.before (a b : Entry) : Bool :=
  decide (a.rank.code < b.rank.code) ||
    (a.rank.code == b.rank.code &&
      (decide (b.standing < a.standing) || (a.standing == b.standing && decide (a.station < b.station))))

def insertEntry (e : Entry) : List Entry → List Entry
  | [] => [e]
  | x :: xs => if e.before x then e :: x :: xs else x :: insertEntry e xs

/-- Entries in the queue order (R28). -/
def queueOrder (entries : List Entry) : List Entry := entries.foldr insertEntry []

/-- The queue without a station's entry. -/
def dropEntry (station : Nat) (queue : List Entry) : List Entry := queue.filter (fun e => e.station != station)

/-- The queue in which an entry stands for its station, the only one, in its place in the order (R27, R28). -/
def setEntry (e : Entry) (queue : List Entry) : List Entry := insertEntry e (dropEntry e.station queue)

/-! ## Recall -/

/-- One pass over rows in recall order with a shortfall still to meet: each row gives at most what `give` lets it (R41).
Answers what is left of the shortfall and the rows. -/
def recallPass (give : Row → Nat) : Nat → List Row → Nat × List Row
  | short, [] => (short, [])
  | short, r :: rs =>
    let given := min short (give r)
    let after := recallPass give (short - given) rs
    (after.1, { r with owed := r.owed + given } :: after.2)

/-- The free-to-recall units of a row, max(0, borrowed − safety − owed) (R41). -/
def Row.freeToRecall (r : Row) : Nat := r.borrowed - r.safety - r.owed

/-- A safety recall: the first pass only (R42). -/
def ShareTable.safetyRecall (t : ShareTable) (shortfall : Nat) : ShareTable :=
  { t with rows := (recallPass Row.freeToRecall shortfall t.rows).2 }

/-- An allowance recall: the first pass, then the second over borrowed − owed (R43). -/
def ShareTable.allowanceRecall (t : ShareTable) (shortfall : Nat) : ShareTable :=
  let first := recallPass Row.freeToRecall shortfall t.rows
  { t with rows := (recallPass Row.held first.1 first.2).2 }

/-- The recall of R14 and R16: of what is held beyond the pool. -/
def ShareTable.recallExcess (t : ShareTable) : ShareTable := t.allowanceRecall (t.held - t.pool)

/-! ## Service round -/

/-- R35. -/
def Row.granted (units : Nat) (rank : Rank) (r : Row) : Row :=
  { r with borrowed := r.borrowed + units, safety := if rank = .safety then r.safety + units else r.safety }

/-- R36: the entry's standing raised by its station's weight, capped at 255. -/
def Entry.grown (t : ShareTable) (e : Entry) : Entry :=
  { e with standing := min 255 (e.standing + (t.rowOf e.station).weight) }

/-- The grant of the head: its row gains the units, the entry leaves, the others grow and are ordered again (R35, R36). -/
def ShareTable.grantHead (t : ShareTable) (e : Entry) (rest : List Entry) : ShareTable :=
  { t.update e.station (Row.granted e.units e.rank) with queue := queueOrder (rest.map (Entry.grown t)) }

/-- Steps 2 and 3 of R37, at most `fuel` grants: each grant takes one entry away, so the queue's length is enough. -/
def serviceLoop : Nat → ShareTable → ShareTable
  | 0, t => t
  | fuel + 1, t =>
    match t.queue with
    | [] => t
    | e :: rest => if e.units ≤ t.free then serviceLoop fuel (t.grantHead e rest) else t

/-- Steps 1 to 3 of R37: an overdrawn table grants nothing. -/
def ShareTable.serviceGrants (t : ShareTable) : ShareTable :=
  if t.overdrawn then t else serviceLoop t.queue.length t

/-- Step 4 of R37: a SAFETY entry left at the head under a CURRENT lease recalls its need (R42). -/
def ShareTable.headRecall (t : ShareTable) : ShareTable :=
  match t.queue with
  | [] => t
  | e :: _ =>
    if e.rank = .safety ∧ t.leaseState = .current then t.safetyRecall (e.units - t.free - t.owedSum) else t

/-- A service round (R37). -/
def ShareTable.serviceRound (t : ShareTable) : ShareTable := t.serviceGrants.headRecall

/-- An evaluation of the overdrawn flag (R10); `statement` says that the taking repaired or learned a row. -/
def ShareTable.evaluateOverdrawn (statement : Bool) (t : ShareTable) : ShareTable :=
  { t with overdrawn := if t.held ≤ t.pool then false else if statement then true else t.overdrawn }

/-! ## Takings -/

/-- What the taking of a bulletin hands on beside the table (R11): whether a recall raised the own owed (R44), whether a
grant raised the own borrowed (R35, R71; entry 40), whether it was a repair (R23), whether it bore another table tag (R21,
R22), the lease time of a valid ALLOWANCE in seconds (R14), and whether an applying LAPSE ended the lease (R16). -/
structure Taken where
  table : ShareTable
  recalled : Bool
  granted : Bool
  repaired : Bool
  mismatch : Bool
  renewed : Option Nat
  lapsed : Bool
  deriving DecidableEq, Repr

/-- A taking that changes no row, entry or lease item: all that is left of it is the flag's evaluation, which every taking
ends with (R10; entry 10). -/
def Taken.nothing (t : ShareTable) : Taken :=
  { table := t.evaluateOverdrawn false, recalled := false, granted := false, repaired := false, mismatch := false
    renewed := none, lapsed := false }

/-- The own owed rose from one table to the next. -/
def owedRose (me : Nat) (before after : ShareTable) : Bool := decide ((before.rowOf me).owed < (after.rowOf me).owed)

/-- The own borrowed rose from one table to the next: between a change and the service round's end only a grant does it. -/
def borrowedRose (me : Nat) (before after : ShareTable) : Bool :=
  decide ((before.rowOf me).borrowed < (after.rowOf me).borrowed)

/-- Steps 4 and 5 of R11 after a change without a recall of step 3, and the flag as it is at the end of the taking (R10;
entry 10). -/
def ShareTable.settle (me : Nat) (statement round : Bool) (t : ShareTable) : Taken :=
  let flagged := t.evaluateOverdrawn statement
  let served := if round then flagged.serviceRound else flagged
  { Taken.nothing served with recalled := owedRose me flagged served, granted := borrowedRose me flagged served }

/-- The fields of a valid ALLOWANCE (R13). -/
def allowanceValid (leaseTime tag : Byte) : Bool :=
  decide (1 ≤ leaseTime.toNat) && decide (leaseTime.toNat ≤ 10) && tag != 0

/-- Step 1 of a valid ALLOWANCE (R13). -/
def ShareTable.storeLease (units fallback tag : Byte) (t : ShareTable) : ShareTable :=
  { t with allowance := units.toNat, fallback := fallback.toNat, leaseTag := tag, leaseState := .current }

/-- An ALLOWANCE taken (R13, R14). -/
def takeAllowance (me : Nat) (units leaseTime fallback tag : Byte) (t : ShareTable) : Taken :=
  if allowanceValid leaseTime tag then
    let stored := t.storeLease units fallback tag
    let recalled := stored.recallExcess
    let last := recalled.settle me false true
    { last with recalled := owedRose me stored recalled || last.recalled, renewed := some leaseTime.toNat }
  else Taken.nothing t

/-- Whether a LAPSE applies (R15). -/
def ShareTable.lapseApplies (t : ShareTable) (tag : Byte) : Bool := t.leaseState == .current && t.leaseTag == tag

/-- A LAPSE taken (R15, R16). -/
def takeLapse (me : Nat) (tag : Byte) (t : ShareTable) : Taken :=
  if t.lapseApplies tag then
    let ended := { t with leaseState := .lapsed }
    let recalled := ended.recallExcess
    let last := ({ recalled with queue := [] }).settle me false false
    { last with recalled := owedRose me ended recalled, lapsed := true }
  else Taken.nothing t

/-- The catch-up lapse (R18). -/
def ShareTable.catchUpLapse (t : ShareTable) : ShareTable :=
  match t.leaseState with
  | .noLease => { t with leaseState := .lapsed, fallback := t.reserved }
  | .current | .lapsed => t

/-- A row emptied into a state, its entry removed (R19, R20, R21). -/
def ShareTable.clearRow (station : Nat) (state : RowState) (t : ShareTable) : ShareTable :=
  { t.update station (Row.cleared state) with queue := dropEntry station t.queue }

/-- An EXPEL taken (R19). -/
def takeExpel (me station : Nat) (t : ShareTable) : Taken :=
  match t.row? station with
  | none => Taken.nothing t
  | some r => if r.state = .absent then Taken.nothing t else (t.clearRow station .absent).settle me false true

/-- Whether a row holds units or has an entry (R20, R21). -/
def ShareTable.rowInUse (t : ShareTable) (station : Nat) : Bool :=
  decide (0 < (t.rowOf station).borrowed) || t.hasEntry station

/-- A JOIN taken from a roster station (R20, R21); `own` is the own table tag. -/
def takeJoin (me station : Nat) (own tag : Byte) (t : ShareTable) : Taken :=
  if tag = own then (t.clearRow station .present).settle me false (t.rowInUse station)
  else { (t.clearRow station .mismatched).settle me false (t.rowInUse station) with mismatch := true }

/-- A STATUS statement that R22 lets be used: a rank that is none is out of range only with waiting units, SAFETY is at
any row but the CAB's. -/
def statementInRange (r : Row) (p : StatusPayload) : Bool :=
  decide (p.safety.toNat ≤ p.borrowed.toNat) && decide (p.owed.toNat ≤ p.borrowed.toNat) &&
    decide (p.waiting.toNat ≤ 63) &&
    (match rankOf (statusRankCode p) with
      | none => p.waiting == 0
      | some .safety => r.role == .cab
      | some .draft => true
      | some .normal => true)

/-- The entry a statement gives its row; none when no units wait (R23). -/
def statedEntry (station : Nat) (p : StatusPayload) : Option Entry :=
  if p.waiting = 0 then none
  else (rankOf (statusRankCode p)).map (fun rank =>
    { station, units := p.waiting.toNat, rank, standing := p.standing.toNat })

/-- The row a statement gives (R23, R24). -/
def Row.stated (p : StatusPayload) (r : Row) : Row :=
  { r with state := .present, borrowed := p.borrowed.toNat, safety := p.safety.toNat, owed := p.owed.toNat }

/-- The table with a row and its entry as stated (R23, R24). -/
def ShareTable.applyStatement (station : Nat) (p : StatusPayload) (t : ShareTable) : ShareTable :=
  { t.update station (Row.stated p) with
    queue := match statedEntry station p with
      | none => dropEntry station t.queue
      | some e => setEntry e t.queue }

/-- Whether a statement differs from what the table holds of the row (R23). -/
def ShareTable.differs (t : ShareTable) (r : Row) (p : StatusPayload) : Bool :=
  decide (r.borrowed ≠ p.borrowed.toNat) || decide (r.safety ≠ p.safety.toNat) || decide (r.owed ≠ p.owed.toNat) ||
    decide (t.entry? r.station ≠ statedEntry r.station p)

/-- A STATUS taken from a roster station (R22, R23, R24); `learning` says that the taking station is in LISTEN or
JOINING. -/
def takeStatus (me station : Nat) (own : Byte) (learning : Bool) (p : StatusPayload) (t : ShareTable) : Taken :=
  match t.row? station with
  | none => Taken.nothing t
  | some r =>
    if p.tag ≠ own then
      let marked := { t.update station (fun r => { r with state := .mismatched }) with queue := dropEntry station t.queue }
      { marked.settle me false (t.hasEntry station) with mismatch := true }
    else if statementInRange r p then
      match r.state with
      | .present => { (t.applyStatement station p).settle me true true with repaired := t.differs r p }
      | .absent => if learning then (t.applyStatement station p).settle me true true else Taken.nothing t
      | .mismatched => Taken.nothing t
    else Taken.nothing t

/-- The rank of a CLAIM of 1 to 63 units that R30 does not refuse; none when it does. -/
def claimRank (r : Row) (units rank : Byte) : Option Rank :=
  if r.state ≠ .present ∨ 63 < units.toNat then none
  else
    match rankOf rank.toNat with
    | some .safety => if r.role = .cab then some .safety else none
    | some .draft => some .draft
    | some .normal => some .normal
    | none => none

/-- The four conditions of a direct grant (R32). -/
def ShareTable.grantsAtOnce (t : ShareTable) (units : Nat) : Bool :=
  t.queue.isEmpty && !t.overdrawn && t.leaseState == .current && decide (units ≤ t.free)

/-- The standing a filed claim bears: kept from the row's entry, 0 for a new one (R33, R34). -/
def ShareTable.keptStanding (t : ShareTable) (station : Nat) : Nat :=
  match t.entry? station with
  | none => 0
  | some e => e.standing

/-- A CLAIM taken from a roster station (R30 to R34). -/
def takeClaim (me station : Nat) (units rank : Byte) (t : ShareTable) : Taken :=
  match t.row? station with
  | none => Taken.nothing t
  | some r =>
    if units = 0 then
      if r.state = .present ∧ t.hasEntry station then
        ({ t with queue := dropEntry station t.queue }).settle me false true
      else Taken.nothing t
    else
      match claimRank r units rank with
      | none => Taken.nothing t
      | some rank =>
        if t.grantsAtOnce units.toNat then
          { (t.update station (Row.granted units.toNat rank)).settle me false false with granted := station == me }
        else
          ({ t with
              queue := setEntry { station, units := units.toNat, rank, standing := t.keptStanding station }
                t.queue }).settle me false true

/-- R56: what a RETURN of n units, s of them safety units, takes from a row. -/
def Row.returned (n s : Nat) (r : Row) : Row :=
  let borrowed := r.borrowed - min n r.borrowed
  { r with borrowed, owed := r.owed - min n r.owed, safety := min (r.safety - min s r.safety) borrowed }

/-- A RETURN taken from a roster station (R56). -/
def takeReturn (me station : Nat) (units safetyUnits : Byte) (t : ShareTable) : Taken :=
  match t.row? station with
  | none => Taken.nothing t
  | some r =>
    if units.toNat < safetyUnits.toNat ∨ r.state = .absent then Taken.nothing t
    else (t.update station (Row.returned units.toNat safetyUnits.toNat)).settle me false true

/-- The own entry removed after a mismatch was seen, and the round that follows when there was one (R152), after the round of
the sender's row (DESIGN CHOICE, entry 45). -/
def dropOwnEntry (me : Nat) (t : ShareTable) : Taken :=
  if t.hasEntry me then ({ t with queue := dropEntry me t.queue }).settle me false true else Taken.nothing t

end Sys2Proof.Machine
end

