-- ==== Sys2Proof/Machine/Ops.lean ====
section
/-! DEFINITION. What the blocks read from one another (the derived values of R5 to R8, R29, R48, R49, R78, R79, R100,
R103, R107, R111 to R113, R193), the output pins (R204), the transmit queue's two requests (R171), and the beginning of an
event. -/

namespace Sys2Proof.Machine

/-! ## The station itself -/

/-- The station number, which is also the bus address (R193). -/
def State.me (s : State) : Nat := s.loader.strap.toNat

/-- The own roster entry (R193). -/
def State.entry (s : State) : RosterEntry :=
  (s.loader.vt.roster.find? (fun e => e.station == s.me)).getD RosterEntry.blank

def State.isCab (s : State) : Bool := s.entry.role == .cab

/-- The table tag: the low byte of the table check (R193). -/
def State.tag (s : State) : Byte := s.loader.vt.check.setWidth 8

/-- The station has a table in force: it takes bulletins, evaluates and counts (R144, R158). -/
def State.running (s : State) : Bool :=
  match s.member.state with
  | .undecided | .unconfigured => false
  | .listen | .joining | .catchingUp | .inStep | .mismatched | .clash => true

def State.inStep (s : State) : Bool := s.member.state == .inStep

/-- The three states that send STATUS (R151). -/
def State.sendsStatus (s : State) : Bool :=
  match s.member.state with
  | .catchingUp | .inStep | .mismatched => true
  | .undecided | .unconfigured | .listen | .joining | .clash => false

/-! ## The own side of the share table -/

def State.ownRow (s : State) : Row := s.table.rowOf s.me

def State.ownEntry (s : State) : Option Entry := s.table.entry? s.me

/-- The own usable dedicated units (R8). -/
def State.usable (s : State) : Nat := s.table.usableOf s.ownRow

/-- Borrowed units count toward spendable (R48). -/
def State.borrowedCounts (s : State) : Bool := s.inStep && !s.share.leaseExpired

/-- R48. -/
def State.spendable (s : State) : Nat :=
  if s.borrowedCounts then s.usable + s.ownRow.borrowed - max s.ownRow.owed s.share.aside else s.usable

/-- The units and safety units fixed in an own RETURN in flight (R47). -/
def State.inFlightReturn (s : State) : Nat × Nat :=
  match s.bus.inFlight with
  | some f =>
    match f.bulletin with
    | .ret n safety => (n.toNat, safety.toNat)
    | _ => (0, 0)
  | none => (0, 0)

/-! ## Supply, stages and loads -/

def State.live (s : State) : Bool := s.supply.state == .live

/-- The loads may be on: supply LIVE, and neither UNCONFIGURED nor in CLASH (R84, R113). -/
def State.loadsAllowed (s : State) : Bool := s.live && s.running && s.member.state != .clash

/-- The sum of the four stage sizes (R78). -/
def State.capacity (s : State) : Nat := (s.zone.stages.map (·.size)).sum

/-- The units that a stage draws (R78). -/
def Stage.load (g : Stage) : Nat := if g.on then g.size else 0

def loadOf (stages : List Stage) : Nat := (stages.map Stage.load).sum

/-- R78. -/
def State.airLoad (s : State) : Nat := loadOf s.zone.stages

/-! ## Door figures -/

/-- The outdoor factor (R103). -/
def factorOf : Option Int → Nat
  | none => 3
  | some t => if 10 ≤ t then 1 else if -20 ≤ t then 2 else 3

def State.factor (s : State) : Nat := factorOf s.doors.outdoor

/-- The boost is active (R93). -/
def State.boostActive (s : State) : Bool := s.doors.oneShot != .idle

/-- R100. -/
def State.boost (s : State) : Nat :=
  if s.boostActive then min s.capacity (s.entry.doorBoost * s.factor) else 0

/-- R107: ceil(door boost units × factor ÷ 2) while the spill set holds an entry. -/
def State.spillFigure (s : State) : Nat :=
  if s.doors.spill.isEmpty then 0 else (s.entry.doorBoost * s.factor + 1) / 2

/-- R100: the flag that ranks the air claim DRAFT. -/
def State.draftActive (s : State) : Bool := s.boostActive || !s.doors.spill.isEmpty

/-! ## Defrost figures -/

/-- R110. -/
def State.defrostMode (s : State) : DefrostMode :=
  match s.overrides.defrostMode with
  | some slot => slot.value
  | none => .auto

/-- R111: safety units that are not owed. -/
def State.safetyHeld (s : State) : Nat := min s.ownRow.safety (s.ownRow.borrowed - s.ownRow.owed)

/-- R112; 0 at a saloon station (R110). -/
def State.request (s : State) : Nat :=
  if s.isCab then
    match s.defrost.state with
    | .off | .paused => 0
    | .waiting | .ramp | .hold => s.loader.vt.defrostUnits
    | .trim => s.loader.vt.trimUnits
  else 0

/-- R112; 0 at a saloon station (R110). -/
def State.safetyKept (s : State) : Nat :=
  if s.isCab then
    match s.defrost.state with
    | .off => 0
    | .waiting | .ramp | .hold => s.loader.vt.defrostUnits
    | .trim => s.loader.vt.trimUnits
    | .paused => s.defrost.pausedKept
  else 0

/-- The safety claim figure (R112). -/
def State.claimFigure (s : State) : Nat :=
  if s.isCab then
    match s.defrost.state with
    | .waiting | .ramp | .hold => s.loader.vt.defrostUnits - s.safetyHeld
    | .off | .trim | .paused => 0
  else 0

/-- R112. -/
def State.defrostActive (s : State) : Bool := s.defrost.state != .off

/-- R113. -/
def State.defrostLoad (s : State) : Nat := if s.loadsAllowed then min s.request s.spendable else 0

/-- R78. -/
def State.stationLoad (s : State) : Nat := s.airLoad + s.defrostLoad

/-- R79: spendable less the defrost request, 0 when the request is not met. -/
def State.airLimit (s : State) : Nat := s.spendable - s.request

/-- The units above safety kept, released for return (R49). -/
def State.releasedSafety (s : State) : Nat := s.ownRow.safety - s.safetyKept

/-- The floor of aside (R49). -/
def State.asideFloor (s : State) : Nat := max s.ownRow.owed (max s.share.commit s.releasedSafety)

/-- The reclaimable units (R51). -/
def State.reclaimable (s : State) : Nat := s.share.aside - max s.asideFloor s.inFlightReturn.1

/-- The wanted total of a share evaluation (R50). -/
def State.wanted (s : State) : Nat := min s.capacity (s.zone.base + s.boost + s.spillFigure) + s.request

/-! ## Output pins -/

/-- What the station does with OPT_CLK and OPT_DAT (R190, R196, R204). -/
inductive MemoryPort where
  /-- Both low: the station is held in reset. -/
  | low
  /-- The read sequence: recovery pulse train, read command for address 0, one run of bytes at 100 kHz (entry 19). -/
  | reading
  /-- No sequence: the bytes are held, or the load has ended. -/
  | resting
  deriving DecidableEq, Repr

/-- R190, R196. -/
def Phase.port : Phase → MemoryPort
  | .inReset => .low
  | .reading => .reading
  | .checking | .loaded | .failed => .resting

/-- The output pins (R204). -/
structure Outputs where
  stages : List Bool
  defrost : Bool
  defrostLoad : Nat
  fan : Nat
  fault : Bool
  /-- What the station drives on BUS_TX. -/
  bus : Drive
  /-- What it does with OPT_CLK and OPT_DAT. -/
  memoryPort : MemoryPort
  deriving DecidableEq, Repr

/-- R144: on while UNCONFIGURED, MISMATCHED or CLASH. -/
def State.fault (s : State) : Bool :=
  match s.member.state with
  | .unconfigured | .mismatched | .clash => true
  | .undecided | .listen | .joining | .catchingUp | .inStep => false

/-- R204. Its last sentence has every output low in reset and during the load, low is dominant on BUS_TX, and the station drives
nothing on the bus then (R175, R196): the model leaves BUS_TX released (DESIGN CHOICE, entry 42). -/
def State.outputs (s : State) : Outputs :=
  { stages := s.zone.stages.map (·.on), defrost := decide (0 < s.defrostLoad), defrostLoad := s.defrostLoad,
    fan := s.zone.fan, fault := s.fault, bus := s.bus.drive, memoryPort := s.loader.phase.port }

/-! ## The transmit queue's requests -/

/-- Requests are refused while undecided, UNCONFIGURED or in CLASH (R171). -/
def State.acceptsRequests (s : State) : Bool := s.running && s.member.state != .clash

def State.hasTx (s : State) (kind : TxKind) : Bool := s.bus.queue.any (fun e => e.kind == kind)

/-- An own frame of this kind is in flight. -/
def State.flying (s : State) (kind : TxKind) : Bool :=
  match s.bus.inFlight with
  | some f => f.kind == kind
  | none => false

/-- Asks for a renewal of the kind in flight; the first request of the flight gives its age (R173). -/
def OwnFrame.asked (moment : Nat) (f : OwnFrame) : OwnFrame := { f with renewal := some (f.renewal.getD moment) }

/-- Queues a kind: a new entry, a refresh of the one there is, or a renewal of the frame in flight (R171). -/
def queueKind (kind : TxKind) (s : State) : State :=
  if s.acceptsRequests then
    if s.flying kind then { s with bus := { s.bus with inFlight := s.bus.inFlight.map (OwnFrame.asked s.moment) } }
    else if s.hasTx kind then s
    else { s with bus := { s.bus with queue := s.bus.queue ++ [{ kind, age := s.moment }] } }
  else s

/-- Withdraws a kind: the entry whose frame has not started, or the renewal of the frame in flight (R171). -/
def withdrawKind (kind : TxKind) (s : State) : State :=
  if s.flying kind then
    { s with bus := { s.bus with inFlight := s.bus.inFlight.map (fun f => { f with renewal := none }) } }
  else { s with bus := { s.bus with queue := s.bus.queue.filter (fun e => e.kind != kind) } }

/-! ## Events -/

/-- An event begins: it gets the next moment number (entry 20). -/
def nextMoment (s : State) : State := { s with moment := s.moment + 1 }

/-- An event begins, with the front-end codes as they stand at it (entry 3). -/
def begin (codes : Sensors) (s : State) : State :=
  { s with moment := s.moment + 1, pins := { s.pins with sensors := codes } }

/-- An event that acts only on a station with a table in force: before the load has ended and in UNCONFIGURED no such timer
runs and no frame is sent (R144, R158). -/
def whenRunning (f : State → State) (s : State) : State := if s.running then f s else s

end Sys2Proof.Machine
end

