-- ==== Sys2Proof/Machine/Flags.lean ====
section
/-! DEFINITION. The statistics' flag computations: a counter's increment with its half and full marks (R180), the
attention mask and the six attention flags (R181), and the marks that are reached while a REPORT is in flight (R185). -/

namespace Sys2Proof.Machine

/-- The marks that one increment reached. -/
structure Marks where
  half : Bool
  full : Bool
  deriving DecidableEq, Repr

/-- A counter after an increment: frozen at all ones, or wrapped (R180). -/
def bumped {w : Nat} (freeze : Bool) (amount : Nat) (c : BitVec w) : BitVec w :=
  if freeze && decide (2 ^ w ≤ c.toNat + amount + 1) then BitVec.allOnes w else BitVec.ofNat w (c.toNat + amount)

/-- The marks of an increment (R180): the half mark finds the top bit clear and leaves it set; the full mark first brings
a freezing counter to all ones, or wraps one that does not freeze. -/
def marksOf {w : Nat} (freeze : Bool) (amount : Nat) (c : BitVec w) : Marks :=
  { half := !c.msb && (bumped freeze amount c).msb
    full := if freeze then c != BitVec.allOnes w && bumped freeze amount c == BitVec.allOnes w
      else decide (2 ^ w ≤ c.toNat + amount) }

/-- The counter's place in the attention mask (R203). -/
def Counter.place : Counter → Nat
  | .energy => 0
  | .waitSeconds => 1
  | .recalls => 2
  | .linkFails => 3
  | .repairs => 4
  | .door0Opens => 5
  | .door0Seconds => 6
  | .door1Opens => 7
  | .door1Seconds => 8

/-- The counter is on page 1 (R178). -/
def Counter.onPage1 (c : Counter) : Bool := decide (5 ≤ c.place)

/-- The counters with one of them raised (R179, R180). -/
def Counters.raised (freeze : Bool) (c : Counter) (amount : Nat) (v : Counters) : Counters :=
  match c with
  | .energy => { v with energy := bumped freeze amount v.energy }
  | .waitSeconds => { v with waitSeconds := bumped freeze amount v.waitSeconds }
  | .recalls => { v with recalls := bumped freeze amount v.recalls }
  | .linkFails => { v with linkFails := bumped freeze amount v.linkFails }
  | .repairs => { v with repairs := bumped freeze amount v.repairs }
  | .door0Opens => { v with door0Opens := bumped freeze amount v.door0Opens }
  | .door0Seconds => { v with door0Seconds := bumped freeze amount v.door0Seconds }
  | .door1Opens => { v with door1Opens := bumped freeze amount v.door1Opens }
  | .door1Seconds => { v with door1Seconds := bumped freeze amount v.door1Seconds }

/-- The marks that raising one of the counters reaches. -/
def Counters.marks (freeze : Bool) (c : Counter) (amount : Nat) (v : Counters) : Marks :=
  match c with
  | .energy => marksOf freeze amount v.energy
  | .waitSeconds => marksOf freeze amount v.waitSeconds
  | .recalls => marksOf freeze amount v.recalls
  | .linkFails => marksOf freeze amount v.linkFails
  | .repairs => marksOf freeze amount v.repairs
  | .door0Opens => marksOf freeze amount v.door0Opens
  | .door0Seconds => marksOf freeze amount v.door0Seconds
  | .door1Opens => marksOf freeze amount v.door1Opens
  | .door1Seconds => marksOf freeze amount v.door1Seconds

/-- The flags with the marks of a counter's page set; a masked counter sets none (R181). -/
def Attention.marked (mask : BitVec 9) (c : Counter) (m : Marks) (a : Attention) : Attention :=
  if mask.getLsbD c.place then a
  else if c.onPage1 then { a with half1 := a.half1 || m.half, full1 := a.full1 || m.full }
  else { a with half0 := a.half0 || m.half, full0 := a.full0 || m.full }

/-- Changes the flags, and notes the change in the report in flight (R185). -/
def Stats.noted (f : Attention → Attention) (st : Stats) : Stats :=
  { st with flags := f st.flags, inFlight := st.inFlight.map (fun r => { r with since := f r.since }) }

/-- The statistics after an increment of a counter (R179 to R181). -/
def Stats.count (vt : VehicleTable) (c : Counter) (amount : Nat) (st : Stats) : Stats :=
  { st.noted (Attention.marked vt.attentionMask c (st.counters.marks vt.counterFreeze c amount)) with
    counters := st.counters.raised vt.counterFreeze c amount }

/-- Adds to a counter (R179). -/
def count (c : Counter) (amount : Nat) (s : State) : State := { s with stats := s.stats.count s.loader.vt c amount }

/-- Adds 1 to a counter when something has happened. -/
def countIf (happened : Bool) (c : Counter) (s : State) : State := if happened then count c 1 s else s

/-- A ramp timeout (R116, R181). -/
def noteRampTimeout (s : State) : State :=
  { s with stats := s.stats.noted (fun a => { a with rampTimeout := true }) }

/-- Entry to MISMATCHED (R152, R181). -/
def noteConfig (s : State) : State :=
  { s with stats := { s.stats with flags := { s.stats.flags with config := true } } }

end Sys2Proof.Machine
end

