-- ==== Sys2Proof/Machine/ShareUnit.lean ====
section
/-! DEFINITION. The share unit: the return accumulator and its bounds, reclaim and set-aside, the claim wish and its CLAIM,
the return triggers, and the share evaluation that works through them (R47 to R64, R153). -/

namespace Sys2Proof.Machine

/-- What an event brings to its end beside what the state shows: what forces an evaluation or a share evaluation, and what
a taking did to the own row. -/
structure Ev where
  /-- A periodic zone evaluation (R71). -/
  periodic : Bool := false
  /-- An event that R71 lists and no figure shows. -/
  evaluate : Bool := false
  /-- An event that R50 lists and no figure shows. -/
  share : Bool := false
  /-- The taking raised the own owed value (R44). -/
  recalled : Bool := false
  /-- The taking granted units to the own row (R35, R71). -/
  granted : Bool := false
  /-- The taking set the own row's holdings to 0: the own JOIN, or an EXPEL naming the station (R119). -/
  cleared : Bool := false
  /-- An own RETURN completed (R59). -/
  returnDone : Bool := false
  deriving DecidableEq, Repr

/-! ## The return accumulator -/

/-- Gives aside a new value: a rise from 0 starts the return timer, a fall to 0 stops it and withdraws a waiting RETURN
(R51, R52, R57; entry 7). -/
def setAside (units : Nat) (s : State) : State :=
  if s.share.aside = 0 ∧ 0 < units then
    { s with share := { s.share with aside := units, returnTimer := .running s.loader.vt.returnTimer } }
  else if 0 < s.share.aside ∧ units = 0 then
    withdrawKind .ret { s with share := { s.share with aside := 0, returnTimer := .stopped } }
  else { s with share := { s.share with aside := units } }

/-- Gives the shed commitment a new value. -/
def setCommit (units : Nat) (s : State) : State := { s with share := { s.share with commit := units } }

/-- What the bounds make of the shed commitment: the whole own borrowed in SHED (R64), else at most that (R49). -/
def State.boundCommit (s : State) : Nat :=
  if s.supply.state = .shed then s.ownRow.borrowed else min s.share.commit s.ownRow.borrowed

/-- What the bounds make of aside: all of borrowed in SHED (R64) and in MISMATCHED (R153), else lowered to borrowed, then
raised to the floor (R49). -/
def State.boundAside (s : State) : Nat :=
  if s.supply.state = .shed ∨ s.member.state = .mismatched then s.ownRow.borrowed
  else max (min s.share.aside s.ownRow.borrowed) s.asideFloor

/-- Brings aside and the shed commitment within their bounds (R49, R64, R153). -/
def applyBounds (s : State) : State :=
  let committed := setCommit s.boundCommit s
  setAside committed.boundAside committed

/-! ## Reclaim and set-aside -/

/-- The line is lost in this event: LIVE has become RIDE_THROUGH (R62). -/
def gapBegins (before s : State) : Bool := before.supply.state == .live && s.supply.state == .rideThrough

/-- A defrost unit that a line gap has paused and the supply monitor has not given up (R120). -/
def State.gapPaused (s : State) : Bool := s.supply.state == .rideThrough && s.defrost.state == .paused

/-- The safety units that a defrost unit paused by a line gap keeps, of the borrowed units that are not aside (R120). -/
def State.keptInGap (s : State) : Nat :=
  if s.gapPaused then min s.safetyKept (min s.safetyHeld (s.ownRow.borrowed - s.share.aside)) else 0

/-- R51, when the wanted total exceeds spendable; R52, when spendable exceeds the larger of the wanted total and the load.
Both only while borrowed units count. The event in which the line is lost keeps aside (R62), and the safety units that a
paused defrost unit keeps through RIDE_THROUGH are no excess (R120, R125 row 4), although R52 makes neither exception (DESIGN
CHOICE, entry 32). -/
def adjustAside (before s : State) : State :=
  if s.borrowedCounts && !gapBegins before s then
    if s.spendable < s.wanted then
      setAside (s.share.aside - min (s.wanted - s.spendable) s.reclaimable) s
    else
      setAside
        (s.share.aside + min (s.spendable - max (s.wanted + s.keptInGap) s.stationLoad)
          (s.ownRow.borrowed - s.share.aside - s.keptInGap)) s
  else s

/-! ## The claim wish -/

/-- The own entry is SAFETY (R53). -/
def State.ownEntrySafety (s : State) : Bool :=
  match s.ownEntry with
  | some e => e.rank == .safety
  | none => false

/-- The rank of an air wish (R53). -/
def State.airRank (s : State) : Rank := if s.draftActive then .draft else .normal

/-- A NORMAL wish is not allowed (R53). -/
def State.normalBarred (s : State) : Bool := s.overrides.economy.isSome || s.zone.mode == .limp

/-- The units and rank of the claim wish (R53). -/
def State.wish (s : State) : Nat × Rank :=
  if s.supply.state = .shed then (0, s.airRank)
  else if 0 < s.claimFigure then (min 63 s.claimFigure, .safety)
  else if s.ownEntrySafety ∨ (s.airRank = .normal ∧ s.normalBarred) then (0, s.airRank)
  else (min 63 (s.wanted - s.spendable - s.reclaimable), s.airRank)

def setWish (s : State) : State := { s with share := { s.share with wishUnits := s.wish.1, wishRank := s.wish.2 } }

/-- The wish matches the table (R53). -/
def State.wishMatches (s : State) : Bool :=
  match s.ownEntry with
  | none => s.share.wishUnits == 0
  | some e => e.units == s.share.wishUnits && e.rank == s.share.wishRank

/-- A wish of 1 to 63 units may not go out now (R54): supply not LIVE, lease not CURRENT, or expired locally. -/
def State.wishHeld (s : State) : Bool :=
  !s.live || s.table.leaseState != .current || s.share.leaseExpired

/-- A SAFETY entry stands through RIDE_THROUGH while the defrost unit is PAUSED (R120), although the wish is 0 units and R54
withdraws an entry at a wish of 0 whatever the supply state (DESIGN CHOICE, entry 43). -/
def State.entryStands (s : State) : Bool :=
  s.gapPaused && s.ownEntrySafety

/-- Turns the wish into a CLAIM, or holds it; a CLAIM whose frame has not started is withdrawn when the wish is held
(R54; entry 8), and none is queued for an entry that stands. -/
def claimDecision (s : State) : State :=
  if !s.inStep || s.wishMatches || s.entryStands then withdrawKind .claim s
  else if s.share.wishUnits = 0 then queueKind .claim s
  else if s.wishHeld then withdrawKind .claim s
  else if s.share.wishRank = .safety then queueKind .claim s
  else if s.share.spacingTimer.isSome then withdrawKind .claim s
  else queueKind .claim s

/-! ## Return triggers and the share evaluation -/

/-- The triggers of R57 that a share evaluation finds; `before` is the state before the event, for the two triggers that a
change makes: the own owed and congested (entry 9). -/
def returnTriggered (ev : Ev) (before s : State) : Bool :=
  s.supply.state == .shed
    || decide (s.loader.vt.returnBatch ≤ s.share.aside)
    || s.share.returnTimer == .expired
    || (decide (0 < s.ownRow.owed) && (ev.recalled || ev.returnDone || decide (before.ownRow.owed < s.ownRow.owed)))
    || (s.table.congested &&
        (ev.returnDone || !before.table.congested || decide (before.share.aside < s.share.aside)))

/-- Queues a RETURN when aside is above 0 (R57). -/
def queueReturn (s : State) : State := if 0 < s.share.aside then queueKind .ret s else s

def triggerReturn (ev : Ev) (before s : State) : State := if returnTriggered ev before s then queueReturn s else s

/-- A share evaluation (R50). -/
def shareEvaluation (ev : Ev) (before s : State) : State :=
  triggerReturn ev before (claimDecision (setWish (adjustAside before (applyBounds s))))

/-- The own side of a completed RETURN (R59): aside and the shed commitment fall by what was in flight, and the return
timer starts afresh when units remain aside. -/
def settleReturn (units : Nat) (s : State) : State :=
  let lowered := setCommit (s.share.commit - min units s.share.commit)
    (setAside (s.share.aside - min units s.share.aside) s)
  { lowered with
    share := { lowered.share with
      returnTimer := if 0 < lowered.share.aside then .running s.loader.vt.returnTimer else .stopped } }

end Sys2Proof.Machine
end

