-- ==== Sys2Proof/Machine/ZoneController.lean ====
section
/-! DEFINITION. The zone controller: sensors and zone temperature, setpoint, mode and demand, the heater stages, the fan,
and the zone evaluation (R66 to R88, R101, R110). -/

namespace Sys2Proof.Machine

/-! ## Sensors and zone temperature -/

/-- An air sensor after an evaluation that read a code (R67). -/
def AirSensor.updated (periodic : Bool) (code : Byte) (a : AirSensor) : AirSensor :=
  match readingOf code with
  | none => { validity := .invalid, recovery := 0 }
  | some _ =>
    match a.validity with
    | .undecided | .valid => { validity := .valid, recovery := 0 }
    | .invalid =>
      if periodic then
        if a.recovery < 2 then { validity := .invalid, recovery := a.recovery + 1 }
        else { validity := .valid, recovery := 0 }
      else a

/-- The code of a sensor that is VALID. -/
def AirSensor.value (code : Byte) (a : AirSensor) : Option Int :=
  match a.validity with
  | .valid => readingOf code
  | .invalid | .undecided => none

/-- The median of three (R68). -/
def median (a b c : Int) : Int := max (min a b) (min (max a b) c)

/-- The zone temperature from the VALID sensors: median of three, the lower of two, the one, or unknown (R68). -/
def zoneTempOf : Option Int → Option Int → Option Int → Option Int
  | some a, some b, some c => some (median a b c)
  | some a, some b, none => some (min a b)
  | some a, none, some c => some (min a c)
  | none, some b, some c => some (min b c)
  | some a, none, none => some a
  | none, some b, none => some b
  | none, none, some c => some c
  | none, none, none => none

/-- Steps 1 and 2 of an evaluation (R67, R68, R72). -/
def readSensors (periodic : Bool) (s : State) : State :=
  let air0 := s.zone.air0.updated periodic s.pins.sensors.air0
  let air1 := s.zone.air1.updated periodic s.pins.sensors.air1
  let air2 := s.zone.air2.updated periodic s.pins.sensors.air2
  { s with
    zone := { s.zone with
      air0, air1, air2
      temp := zoneTempOf (air0.value s.pins.sensors.air0) (air1.value s.pins.sensors.air1)
        (air2.value s.pins.sensors.air2)
      fault := air0.validity != .valid || air1.validity != .valid || air2.validity != .valid } }

/-! ## Setpoint, mode and demand -/

/-- The span of the effective setpoint, codes 20 to 56 (R69). -/
def clampSetpoint (t : Int) : Int := max 20 (min 56 t)

/-- The effective setpoint that R69 gives. -/
def State.setpointNow (s : State) : Int :=
  clampSetpoint (s.entry.baseSetpoint +
    match s.overrides.setpointOffset with
    | some slot => slot.value
    | none => 0)

/-- Computes the effective setpoint again; a change of it sets the pending flag (R69, R70). -/
def recomputeSetpoint (s : State) : State :=
  { s with
    zone := { s.zone with
      setpoint := some s.setpointNow
      pendingFlag := s.zone.pendingFlag || s.zone.setpoint != some s.setpointNow } }

/-- R74. -/
def State.modeNow (s : State) : ZoneMode :=
  if s.overrides.zoneOff.isSome then .heldOff
  else if s.zone.air0.validity = .valid ∨ s.zone.air1.validity = .valid ∨ s.zone.air2.validity = .valid then .active
  else .limp

/-- Step 3 (R74). -/
def decideMode (s : State) : State := { s with zone := { s.zone with mode := s.modeNow } }

/-- Step 4: a periodic evaluation clears the pending flag (R70). -/
def clearPending (periodic : Bool) (s : State) : State :=
  { s with zone := { s.zone with pendingFlag := s.zone.pendingFlag && !periodic } }

/-- The base demand in ACTIVE (R75). -/
def activeDemand (capacity gain : Nat) (setpoint temp : Option Int) : Nat :=
  match setpoint, temp with
  | some p, some t => min capacity ((p - t).toNat * gain)
  | _, _ => 0

/-- R75. -/
def State.baseNow (s : State) : Nat :=
  match s.zone.mode with
  | .active => activeDemand s.capacity s.entry.gain s.zone.setpoint s.zone.temp
  | .heldOff => 0
  | .limp => min s.capacity s.usable

/-- R76. -/
def State.totalNow (s : State) : Nat := min s.capacity (s.zone.base + s.boost + s.spillFigure)

/-- Step 5 (R75, R76). -/
def decideDemand (s : State) : State :=
  let based := { s with zone := { s.zone with base := s.baseNow } }
  { based with zone := { based.zone with total := based.totalNow } }

/-! ## Stages -/

def MinTimer.isClear : MinTimer → Bool
  | .clear => true
  | .afterOn _ | .afterOff _ => false

/-- A stage switched ON, its minimum timer started (R81, R82). -/
def Stage.switchedOn (minimum : Nat) (g : Stage) : Stage := { g with on := true, timer := .afterOn minimum }

/-- A stage that is ON switched OFF, its minimum timer started; one that is OFF stays as it is (R81 to R84). -/
def Stage.switchedOff (minimum : Nat) (g : Stage) : Stage :=
  if g.on then { g with on := false, timer := .afterOff minimum } else g

/-- The wanted stages against a target, stage 1 first, from a running sum (R80). -/
def wantedFrom (target sum : Nat) : List Stage → List Bool
  | [] => []
  | g :: gs =>
    if 0 < g.size ∧ sum + g.size ≤ target then true :: wantedFrom target (sum + g.size) gs
    else false :: wantedFrom target sum gs

/-- The switch-off pass (R81). -/
def offPass (minimum : Nat) : List Bool → List Stage → List Stage
  | w :: ws, g :: gs => (if !w && g.timer.isClear then g.switchedOff minimum else g) :: offPass minimum ws gs
  | _, gs => gs

/-- The switch-on pass, with the air load as it stands when a stage is reached (R81). -/
def onPass (minimum limit load : Nat) : List Bool → List Stage → List Stage
  | w :: ws, g :: gs =>
    if w && !g.on && g.timer.isClear && decide (load + g.size ≤ limit) then
      g.switchedOn minimum :: onPass minimum limit (load + g.size) ws gs
    else g :: onPass minimum limit load ws gs
  | _, gs => gs

/-- Stages switched by R80 and R81. -/
def switched (minimum target limit : Nat) (allowed : Bool) (stages : List Stage) : List Stage :=
  let wanted := wantedFrom target 0 stages
  let off := offPass minimum wanted stages
  if allowed then onPass minimum limit (loadOf off) wanted off else off

/-- Forces stages off until the load is within the limit, the highest-numbered first (R83). The list is taken from stage 4
down; `load` is the load of all of them. -/
def forcedDown (minimum limit : Nat) : Nat → List Stage → List Stage
  | _, [] => []
  | load, g :: gs =>
    if limit < load then g.switchedOff minimum :: forcedDown minimum limit (load - g.load) gs else g :: gs

/-- R83. -/
def forced (minimum limit : Nat) (stages : List Stage) : List Stage :=
  (forcedDown minimum limit (loadOf stages) stages.reverse).reverse

def setStages (stages : List Stage) (s : State) : State := { s with zone := { s.zone with stages } }

/-- Holds every stage OFF while the supply is not LIVE and in UNCONFIGURED and CLASH (R84), and else forces stages off
against the air limit (R83). -/
def cutStages (s : State) : State :=
  if s.loadsAllowed then setStages (forced s.loader.vt.stageMinimum s.airLimit s.zone.stages) s
  else setStages (s.zone.stages.map (Stage.switchedOff s.loader.vt.stageMinimum)) s

/-- Step 7 (R79 to R81). -/
def switchStages (s : State) : State :=
  setStages (switched s.loader.vt.stageMinimum (min s.zone.total s.airLimit) s.airLimit s.loadsAllowed s.zone.stages) s

/-! ## Fan -/

/-- The fan level that R86 gives. -/
def State.fanNow (s : State) : Nat :=
  match s.overrides.fanForce with
  | some slot => slot.value
  | none =>
    if s.doors.oneShot = .held then 3
    else if s.doors.oneShot = .tail ∨ s.doors.spill ≠ [] then 2
    else if s.zone.mode = .heldOff then 0
    else if 0 < s.capacity ∧ s.capacity ≤ 2 * s.zone.total then 2
    else 1

def setFan (s : State) : State := { s with zone := { s.zone with fan := s.fanNow } }

/-- An input of the fan table changed between two states (R86). -/
def fanInputChanged (before s : State) : Bool :=
  s.doors.oneShot != before.doors.oneShot
    || s.doors.spill.isEmpty != before.doors.spill.isEmpty
    || s.overrides.fanForce != before.overrides.fanForce
    || s.overrides.zoneOff.isSome != before.overrides.zoneOff.isSome

/-! ## The zone evaluation -/

/-- Steps 1 to 5 (R72). -/
def measure (periodic : Bool) (s : State) : State :=
  decideDemand (clearPending periodic (decideMode (readSensors periodic s)))

/-- Steps 6 to 8 (R72); a fall of spendable in step 6 forces stages off before step 7 chooses (R83). -/
def regulate (ev : Ev) (before s : State) : State :=
  setFan (switchStages (cutStages (shareEvaluation ev before s)))

/-- A zone evaluation (R72). -/
def zoneEvaluation (ev : Ev) (before s : State) : State := regulate ev before (measure ev.periodic s)

end Sys2Proof.Machine
end

