-- ==== Sys2Proof/Machine/DoorUnit.lean ====
section
/-! DEFINITION. The door unit: door machines, the boost one-shot, the outdoor reading, DRAFT and the spill set
(R89 to R108). -/

namespace Sys2Proof.Machine

/-! ## Doors -/

def State.door (s : State) (door : Fin 2) : Door := if door = 0 then s.doors.door0 else s.doors.door1

def setDoor (door : Fin 2) (d : Door) (s : State) : State :=
  if door = 0 then { s with doors := { s.doors with door0 := d } } else { s with doors := { s.doors with door1 := d } }

/-- The door machine exists (R89). -/
def State.doorExists (s : State) (door : Fin 2) : Bool := decide (door.val < s.entry.doorCount)

/-- The raw contact level (R204). -/
def State.rawDoor (s : State) (door : Fin 2) : DoorLevel :=
  if (if door = 0 then s.pins.door0 else s.pins.door1) then .apart else .shut

def setRawDoor (door : Fin 2) (apart : Bool) (s : State) : State :=
  if door = 0 then { s with pins := { s.pins with door0 := apart } } else { s with pins := { s.pins with door1 := apart } }

/-- The debounce of one door measured afresh from a raw change (R90): it runs while the raw level is not the debounced
one. -/
def restartDoorDebounce (door : Fin 2) (s : State) : State :=
  setDoor door
    { s.door door with
      debounce := if (s.door door).level = some (s.rawDoor door) then none else some s.loader.vt.debounce } s

/-- R89: OPEN or LONG_OPEN. -/
def Door.isOpen (d : Door) : Bool := d.state == .opened || d.state == .longOpen

def State.anyOpen (s : State) : Bool := s.doors.door0.isOpen || s.doors.door1.isOpen

/-- At least one door is open and every open door is LONG_OPEN (R97). -/
def State.layover (s : State) : Bool :=
  s.anyOpen && s.doors.door0.state != .opened && s.doors.door1.state != .opened

/-! ## One-shot and DRAFT -/

/-- DRAFT is queued when the activity differs from last stated, else a waiting one is withdrawn (R104). -/
def stateActivity (s : State) : State :=
  if s.boostActive != s.doors.lastStated then queueKind .draft s else withdrawKind .draft s

/-- Moves the one-shot with its tail timer; a change between IDLE and not IDLE reaches the DRAFT logic (R93, R104). -/
def setOneShot (o : OneShot) (tail : Timer) (s : State) : State :=
  let moved := { s with doors := { s.doors with oneShot := o, tail } }
  if moved.boostActive = s.boostActive then moved else stateActivity moved

def State.inhibited (s : State) : Bool := s.overrides.boostInhibit.isSome

/-- An opening edge (R95). -/
def openingEdge (s : State) : State := if s.inhibited then s else setOneShot .held none s

/-- The layover check after a door's change of state (R97). -/
def checkLayover (s : State) : State :=
  if s.layover ∧ s.doors.oneShot = .held then setOneShot .idle none s else s

/-- A closing (R96), then the layover check (R97): the last open door's close starts a tail, else R97 looks at the doors
still open. -/
def closingEdge (s : State) : State :=
  if s.anyOpen then checkLayover s
  else if s.inhibited then s
  else setOneShot .tail (some (s.loader.vt.tailBase * s.factor)) s

/-- The opening counter of a door (R178). -/
def opensCounter (door : Fin 2) : Counter := if door = 0 then .door0Opens else .door1Opens

/-- A debounced level reaches a door machine (R91, R92). -/
def doorTakesLevel (door : Fin 2) (level : DoorLevel) (s : State) : State :=
  let d := { s.door door with level := some level, debounce := none }
  match d.state, level with
  | .unsampled, .shut => setDoor door { d with state := .closed } s
  | .unsampled, .apart => setDoor door { d with state := .opened, longOpen := some s.loader.vt.longOpen } s
  | .closed, .apart =>
    openingEdge (count (opensCounter door) 1
      (setDoor door { d with state := .opened, longOpen := some s.loader.vt.longOpen } s))
  | .opened, .shut => closingEdge (setDoor door { d with state := .closed, longOpen := none } s)
  | .longOpen, .shut => closingEdge (setDoor door { d with state := .closed, longOpen := none } s)
  | .closed, .shut => setDoor door d s
  | .opened, .apart => setDoor door d s
  | .longOpen, .apart => setDoor door d s

/-! ## Outdoor reading -/

def setOutdoor (reading : Option Int) (age : Timer) (s : State) : State :=
  { s with doors := { s.doors with outdoor := reading, outdoorAge := age } }

/-- The station whose row has the CAB role. -/
def State.cabStation (s : State) : Option Nat := (s.table.rows.find? (fun r => r.role == .cab)).map (·.station)

/-- A saloon station takes the outdoor reading of a cab STATUS with the own tag (R102). -/
def learnOutdoor (sender : Nat) (p : StatusPayload) (s : State) : State :=
  if !s.isCab && s.cabStation == some sender && p.tag == s.tag then
    setOutdoor (tempOf p.outdoor) (some outdoorAgeTime) s
  else s

/-! ## Spill set -/

def dropSpill (station : Nat) (s : State) : State :=
  { s with doors := { s.doors with spill := s.doors.spill.filter (fun e => e.station != station) } }

/-- The spill set with a neighbour's entry at its full limit (R106). -/
def refreshSpill (station : Nat) (s : State) : State :=
  { s with
    doors := { s.doors with
      spill := s.doors.spill.filter (fun e => e.station != station)
        ++ [{ station, timer := some s.loader.vt.spillLimit }] } }

/-- Whether a DRAFT from a station is taken into the spill set, but for its value (R105). -/
def State.spillsFrom (s : State) (station : Nat) : Bool :=
  s.entry.neighbours.contains station && station != s.me && (s.table.rowOf station).state != .mismatched

/-- A DRAFT taken (R105, R106). -/
def takeDraft (station : Nat) (active : Byte) (s : State) : State :=
  if s.spillsFrom station then
    if active = 1 then refreshSpill station s else if active = 0 then dropSpill station s else s
  else s

/-- Last stated becomes "no" at the own JOIN and at an EXPEL naming the station; an active boost is stated again (R104). -/
def forgetStated (s : State) : State :=
  let forgotten := { s with doors := { s.doors with lastStated := false } }
  if forgotten.boostActive then queueKind .draft forgotten else forgotten

end Sys2Proof.Machine
end

