-- ==== Sys2Proof/Machine/DefrostUnit.lean ====
section
/-! DEFINITION. The defrost unit of the cab: entry to its states, the check of R114, and its answers to the supply, the fog
level, the mode, the readings and the takings (R110 to R126). -/

namespace Sys2Proof.Machine

/-- Moves to a state with its phase timer (R112). -/
def setDefrost (state : DefrostState) (phase : Timer) (s : State) : State :=
  { s with defrost := { s.defrost with state, phase } }

/-- R116, R117. -/
def enterHold (s : State) : State := setDefrost .hold (some s.loader.vt.holdTime) s

/-- The screen is at or above the clear temperature; an unknown reading never is (R110, R116). -/
def State.screenClear (s : State) : Bool :=
  match s.defrost.screen with
  | some t => decide (s.loader.vt.clearTemp ≤ t)
  | none => false

/-- The comparison of R116. -/
def compareScreen (s : State) : State := if s.defrost.state = .ramp ∧ s.screenClear then enterHold s else s

/-- Entry to RAMP (R116). -/
def enterRamp (s : State) : State := compareScreen (setDefrost .ramp (some s.loader.vt.rampLimit) s)

/-- WAITING goes on to RAMP when safety held is at least the defrost units (R115). Units committed to a RETURN that has not
been taken are still held (R111), also in the WAITING that follows a SHED, for which R121 has a new SAFETY CLAIM (DESIGN
CHOICE, entry 35). -/
def leaveWaiting (s : State) : State :=
  if s.defrost.state = .waiting ∧ s.loader.vt.defrostUnits ≤ s.safetyHeld then enterRamp s else s

/-- Entry to WAITING (R115). -/
def enterWaiting (s : State) : State := leaveWaiting (setDefrost .waiting none s)

/-- Entry to PAUSED, with the safety units that the state left still needs (R114, R120). -/
def enterPaused (kept : Nat) (s : State) : State :=
  { s with defrost := { s.defrost with state := .paused, phase := none, pausedKept := kept } }

/-- Entry to OFF. -/
def enterOff (s : State) : State := setDefrost .off none s

/-- The outdoor reading is below the auto threshold; an unknown one counts as below (R114). -/
def State.coldOutside (s : State) : Bool :=
  match s.doors.outdoor with
  | some t => decide (t < s.loader.vt.autoThreshold)
  | none => true

/-- The defrost is wanted (R114). -/
def State.defrostWanted (s : State) : Bool :=
  match s.defrostMode with
  | .off => false
  | .auto => s.defrost.fog && s.coldOutside
  | .max => true

/-- The check in OFF (R114). -/
def checkDefrost (s : State) : State :=
  if s.isCab ∧ s.defrost.state = .off ∧ s.defrostWanted then
    if s.live ∧ s.member.state ≠ .clash then enterWaiting s else enterPaused 0 s
  else s

/-- WAITING, RAMP, HOLD or TRIM. -/
def State.defrostWorking (s : State) : Bool :=
  match s.defrost.state with
  | .waiting | .ramp | .hold | .trim => true
  | .off | .paused => false

/-- R120. -/
def pauseDefrost (s : State) : State := if s.isCab ∧ s.defrostWorking then enterPaused s.safetyKept s else s

/-- PAUSED when the supply becomes LIVE outside CLASH (R121). -/
def resumeDefrost (s : State) : State :=
  if s.isCab ∧ s.defrost.state = .paused ∧ s.member.state ≠ .clash then
    if s.defrostWanted then enterWaiting s else enterOff s
  else s

/-- The defrost unit's answer to a change of the supply state (R114, R120, R121). -/
def defrostSeesSupply (s : State) : State :=
  if s.live then checkDefrost (resumeDefrost s) else checkDefrost (pauseDefrost s)

/-- The supply state changes (R61); the defrost unit answers in the same event. -/
def setSupply (state : SupplyState) (s : State) : State :=
  defrostSeesSupply { s with supply := { s.supply with state } }

/-- The debounced fog level changed (R114, R118). -/
def defrostSeesFog (s : State) : State :=
  if s.defrost.state = .trim ∧ s.defrost.fog then enterRamp s else checkDefrost s

/-- The defrost mode changed (R122). R121 has a station in CLASH stay in PAUSED until reset, and R121 and R122 have a change
to OFF in PAUSED act at once: the model goes to OFF in CLASH too (DESIGN CHOICE, entry 31). -/
def defrostSeesMode (s : State) : State :=
  if s.isCab then
    match s.defrostMode with
    | .off => enterOff s
    | .auto => checkDefrost s
    | .max => if s.defrost.state = .trim then enterRamp s else checkDefrost s
  else s

/-- The hold timer runs out (R117). -/
def holdExpires (s : State) : State :=
  if s.defrostMode = .auto ∧ !s.defrost.fog then setDefrost .trim (some s.loader.vt.trimTime) s else enterHold s

/-- The cab's readings at a periodic evaluation (R101, R110): outdoor and screen, then the check of R114 when the outdoor
reading changed and the comparison of R116. -/
def readCabSensors (s : State) : State :=
  if s.isCab then
    let outdoor := readingOf s.pins.sensors.outdoor
    let read := { s with
      doors := { s.doors with outdoor }
      defrost := { s.defrost with screen := readingOf s.pins.sensors.screen } }
    compareScreen (if outdoor = s.doors.outdoor then read else checkDefrost read)
  else s

/-- RAMP, HOLD or TRIM. -/
def State.defrostServed (s : State) : Bool :=
  match s.defrost.state with
  | .ramp | .hold | .trim => true
  | .off | .waiting | .paused => false

/-- The end of a taking at the cab: back to WAITING when a recall or a cleared row left safety held below what was kept
before (R119), and on to RAMP when enough is held (R115). -/
def defrostSeesTaking (lost : Bool) (keptBefore : Nat) (s : State) : State :=
  if s.isCab then
    leaveWaiting (if lost ∧ s.defrostServed ∧ s.safetyHeld < keptBefore then setDefrost .waiting none s else s)
  else s

end Sys2Proof.Machine
end

