-- ==== Sys2Proof/Machine/OverrideTable.lean ====
section
/-! DEFINITION. The override table: filling and emptying slots, and handing the changes of one event on (R128 to R142). -/

namespace Sys2Proof.Machine

/-- The slot of a kind is active. -/
def Overrides.active (kind : OverrideKind) (o : Overrides) : Bool :=
  match kind with
  | .setpointOffset => o.setpointOffset.isSome
  | .fanForce => o.fanForce.isSome
  | .zoneOff => o.zoneOff.isSome
  | .boostInhibit => o.boostInhibit.isSome
  | .economy => o.economy.isSome
  | .defrostMode => o.defrostMode.isSome

/-- The expiry timer of a kind's slot; none when the slot is empty or has no expiry. -/
def Overrides.expiry (kind : OverrideKind) (o : Overrides) : Timer :=
  match kind with
  | .setpointOffset => o.setpointOffset.bind (·.expiry)
  | .fanForce => o.fanForce.bind (·.expiry)
  | .zoneOff => o.zoneOff.bind (·.expiry)
  | .boostInhibit => o.boostInhibit.bind (·.expiry)
  | .economy => o.economy.bind (·.expiry)
  | .defrostMode => o.defrostMode.bind (·.expiry)

/-- The slots with one emptied. -/
def Overrides.emptied (kind : OverrideKind) (o : Overrides) : Overrides :=
  match kind with
  | .setpointOffset => { o with setpointOffset := none }
  | .fanForce => { o with fanForce := none }
  | .zoneOff => { o with zoneOff := none }
  | .boostInhibit => { o with boostInhibit := none }
  | .economy => { o with economy := none }
  | .defrostMode => { o with defrostMode := none }

/-- Every slot empty (R134, kind 0). -/
def Overrides.allEmptied (o : Overrides) : Overrides := { Overrides.reset with panelSilence := o.panelSilence }

/-- Some slot is active. -/
def Overrides.anyActive (o : Overrides) : Bool :=
  o.setpointOffset.isSome || o.fanForce.isSome || o.zoneOff.isSome || o.boostInhibit.isSome || o.economy.isSome
    || o.defrostMode.isSome

/-- A slot kept only when it has an expiry (R135). -/
def Slot.timedOnly {α : Type} (slot : Option (Slot α)) : Option (Slot α) := slot.filter (fun x => x.expiry.isSome)

/-- The slots after a panel silence: those without an expiry are empty (R135). -/
def Overrides.silenced (o : Overrides) : Overrides :=
  { setpointOffset := Slot.timedOnly o.setpointOffset, fanForce := Slot.timedOnly o.fanForce,
    zoneOff := Slot.timedOnly o.zoneOff, boostInhibit := Slot.timedOnly o.boostInhibit,
    economy := Slot.timedOnly o.economy, defrostMode := Slot.timedOnly o.defrostMode, panelSilence := none }

/-- The expiry that a duration gives (R131). -/
def expiryOf (duration : Byte) : Timer := if duration = 0 then none else some (duration.toNat * 10000)

/-- The slots with the one of a kind filled; none when the kind does not suit the role or the value is out of range
(R129 items 3 and 4, R130, R131). -/
def Overrides.filled (cab : Bool) (kind : OverrideKind) (value duration : Byte) (o : Overrides) : Option Overrides :=
  match kind with
  | .setpointOffset =>
    if -12 ≤ value.toInt ∧ value.toInt ≤ 12 then
      some { o with setpointOffset := some { value := value.toInt, expiry := expiryOf duration } }
    else none
  | .fanForce =>
    if value.toNat ≤ 3 then some { o with fanForce := some { value := value.toNat, expiry := expiryOf duration } }
    else none
  | .zoneOff => some { o with zoneOff := some { value := (), expiry := expiryOf duration } }
  | .boostInhibit => some { o with boostInhibit := some { value := (), expiry := expiryOf duration } }
  | .economy => some { o with economy := some { value := (), expiry := expiryOf duration } }
  | .defrostMode =>
    if cab then
      (defrostModeOf value).map (fun mode => { o with defrostMode := some { value := mode, expiry := expiryOf duration } })
    else none

/-- Steps 1 to 3 of R132, from the slots before the event to the slots after it: setpoint, boost inhibit, defrost mode.
Steps 4 and 5 are the evaluation that ends the event. -/
def handSlotsOn (o : Overrides) (s : State) : State :=
  let set := recomputeSetpoint { s with overrides := o }
  let inhibited :=
    if o.boostInhibit.isSome ∧ s.overrides.boostInhibit.isNone then setOneShot .idle none set else set
  if inhibited.defrostMode = s.defrostMode then inhibited else defrostSeesMode inhibited

/-- An OVERRIDE taken: whether it changed a slot, and the state (R129, R131). -/
def takeOverride (kind mask value duration : Byte) (s : State) : Bool × State :=
  if maskHas mask s.me then
    match overrideKindOf kind with
    | some k =>
      match s.overrides.filled s.isCab k value duration with
      | some o => (true, handSlotsOn o s)
      | none => (false, s)
    | none => (false, s)
  else (false, s)

/-- A CANCEL taken: whether it changed a slot, and the state (R134). -/
def takeCancel (kind mask : Byte) (s : State) : Bool × State :=
  if maskHas mask s.me then
    if kind = 0 then
      if s.overrides.anyActive then (true, handSlotsOn s.overrides.allEmptied s) else (false, s)
    else
      match overrideKindOf kind with
      | some k => if s.overrides.active k then (true, handSlotsOn (s.overrides.emptied k) s) else (false, s)
      | none => (false, s)
  else (false, s)

/-- The panel silence timer restarts (R135). -/
def restartPanelSilence (s : State) : State :=
  { s with overrides := { s.overrides with panelSilence := some panelSilenceTime } }

end Sys2Proof.Machine
end

