-- ==== Sys2Proof/Machine/MembershipUnit.lean ====
section
/-! DEFINITION. The membership unit: the states and what entering and leaving them does, the heard set, silence ages and the
pending expulsion, and its response to a taking (R144 to R157). -/

namespace Sys2Proof.Machine

/-! ## States -/

/-- Leaving IN_STEP withdraws CLAIM, LAPSE and EXPEL and clears the pending expulsion (R145). -/
def leaveInStep (s : State) : State :=
  let withdrawn := withdrawKind .expel (withdrawKind .lapse (withdrawKind .claim s))
  { withdrawn with member := { withdrawn.member with expulsion := none } }

/-- Drops the report request and withdraws a waiting REPORT (R182). -/
def dropReport (s : State) : State :=
  withdrawKind .report { s with stats := { s.stats with request := none } }

/-- Entry to LISTEN, JOINING or CLASH: no STATUS and no REPORT from here (R151, R182). -/
def stopStatus (s : State) : State :=
  let stopped := { s with member := { s.member with statusPeriod := none } }
  dropReport (withdrawKind .status stopped)

/-- Entry to CATCHING_UP, IN_STEP or MISMATCHED: the STATUS period restarts and a STATUS is queued (R151). -/
def startStatus (s : State) : State :=
  queueKind .status { s with member := { s.member with statusPeriod := some statusPeriodTime } }

/-- Entry to IN_STEP: an expired lease queues a LAPSE (R149). -/
def enterInStep (s : State) : State := if s.share.leaseExpired then queueKind .lapse (startStatus s) else startStatus s

/-- What the station drives from its entry to CLASH on: nothing but the rest of an own frame in flight (R157, R182). -/
def Bus.driveInClash (b : Bus) : Drive := if b.inFlight.isSome then b.drive else .released

/-- Entry to CLASH: the transmit queue is emptied and nothing is sent, but for an own frame in flight, which completes or
fails as any frame, with no renewal (R171, R182; entry 39); census, catch-up, STATUS period and MUTE timer stop and the
pending expulsion is cleared; a working defrost unit pauses (R120, R157, R174). -/
def enterClash (s : State) : State :=
  let dropped := dropReport s
  pauseDefrost { dropped with
    bus := { dropped.bus with
      queue := [], inFlight := dropped.bus.inFlight.map (fun f => { f with renewal := none }), mute := none
      drive := dropped.bus.driveInClash }
    member := { dropped.member with census := none, catchUp := none, statusPeriod := none, expulsion := none } }

/-- What entering a state does. -/
def entered (m : MemberState) (s : State) : State :=
  match m with
  | .listen | .joining => stopStatus s
  | .catchingUp | .mismatched => startStatus s
  | .inStep => enterInStep s
  | .clash => enterClash s
  | .undecided | .unconfigured => s

/-- The membership state changes (R144). -/
def setMember (m : MemberState) (s : State) : State :=
  let left := if s.member.state = .inStep then leaveInStep s else s
  entered m { left with member := { left.member with state := m } }

/-! ## Silence ages and the heard set -/

/-- The stations of the other PRESENT rows (R154). -/
def State.otherPresent (s : State) : List Nat :=
  (s.table.rows.filter (fun r => r.state == .present && r.station != s.me)).map (·.station)

def ageZero (station : Nat) : Age := { station, left := some silenceLimit }

/-- The ages of the other PRESENT rows: a row that has become PRESENT begins at 0, one that has left PRESENT has none
(R154). -/
def syncAges (s : State) : State :=
  { s with
    member := { s.member with
      ages := s.otherPresent.map (fun n => (s.member.ages.find? (fun a => a.station == n)).getD (ageZero n)) } }

/-- A completed frame from a station's address sets its age to 0 (R154). -/
def resetAge (station : Nat) (s : State) : State :=
  { s with
    member := { s.member with ages := s.member.ages.map (fun a => if a.station = station then ageZero station else a) } }

/-- A row is silent when its age has reached 12 s (R154): with no time left it has, also before its own SILENCE_AGE_LIMIT has
been carried out, so that of ages which reach 12 s together the lowest-numbered row is expelled first (R155; entry 23). -/
def Age.silent (a : Age) : Bool := a.left.isNone || a.left == some 0

def State.silentRow (s : State) (station : Nat) : Bool :=
  s.member.ages.any (fun a => a.station == station && a.silent)

/-- The lowest-numbered silent row (R155). -/
def State.lowestSilent (s : State) : Option Nat := ((s.member.ages.filter Age.silent).map (·.station)).min?

/-- Withdraws an EXPEL whose row is silent no more, before its frame starts (R155). -/
def dropSettledExpulsion (s : State) : State :=
  match s.member.expulsion with
  | some p =>
    if s.silentRow p || s.flying .expel then s
    else withdrawKind .expel { s with member := { s.member with expulsion := none } }
  | none => s

/-- Queues an EXPEL for the lowest-numbered silent row when IN_STEP without an EXPEL entry (R155). -/
def proposeExpulsion (s : State) : State :=
  if s.inStep && !s.hasTx .expel then
    match s.lowestSilent with
    | some p => queueKind .expel { s with member := { s.member with expulsion := some p } }
    | none => s
  else s

/-- R155, made at the end of every event that can change what it looks at (entry 23). -/
def checkExpulsion (s : State) : State := proposeExpulsion (dropSettledExpulsion s)

/-- The heard set without the stations whose rows have left PRESENT (R148). -/
def syncHeard (s : State) : State :=
  { s with
    member := { s.member with
      heard := s.member.heard.filter (fun h => (s.table.rowOf h.station).state == .present) } }

/-- A STATUS from a PRESENT row with the own tag, in CATCHING_UP (R148). -/
def hear (station : Nat) (p : StatusPayload) (s : State) : State :=
  if s.member.state = .catchingUp ∧ station ≠ s.me ∧ p.tag = s.tag ∧ (s.table.rowOf station).state = .present then
    { s with
      member := { s.member with
        heard := s.member.heard.filter (fun h => h.station != station)
          ++ [{ station, tagZero := p.leaseTagSeen == 0 }] } }
  else s

/-- R148: every other PRESENT row heard, and the lease condition. -/
def State.caughtUp (s : State) : Bool :=
  s.otherPresent.all (fun n => s.member.heard.any (fun h => h.station == n))
    && (s.member.leaseNews || s.member.heard.all (·.tagZero))

/-- Catch-up complete at the end of a taking (R148). -/
def checkCatchUp (s : State) : State :=
  if s.member.state = .catchingUp ∧ s.caughtUp then
    setMember .inStep { s with member := { s.member with catchUp := none } }
  else s

/-! ## Responses -/

/-- The states that change to MISMATCHED at a mismatch seen (R152). -/
def State.mindsMismatch (s : State) : Bool :=
  match s.member.state with
  | .listen | .joining | .catchingUp | .inStep => true
  | .undecided | .unconfigured | .mismatched | .clash => false

/-- A mismatch seen (R152), but for the own entry, which the taking has removed from the table. -/
def enterMismatch (s : State) : State :=
  let withdrawn := withdrawKind .join s
  setMember .mismatched (noteConfig { withdrawn with
    member := { withdrawn.member with census := none, catchUp := none, heard := [] } })

/-- The own JOIN taken in JOINING (R147). -/
def ownJoinTaken (s : State) : State :=
  setMember .catchingUp { s with
    member := { s.member with
      catchUp := some catchUpTime, heard := [], ages := s.otherPresent.map ageZero } }

/-- An EXPEL naming the station, taken in CATCHING_UP or IN_STEP (R156). -/
def selfExpelled (s : State) : State :=
  queueKind .join (setMember .joining { s with member := { s.member with catchUp := none, heard := [] } })

end Sys2Proof.Machine
end

