-- ==== Sys2Proof/Machine/Statistics.lean ====
section
/-! DEFINITION. Statistics: the statistics second, QUERY and the report request, the REPORT contents, clearing by
subtraction, and the snapshot (R178 to R189, R202). -/

namespace Sys2Proof.Machine

/-! ## The statistics second -/

/-- The counts of one statistics second (R179). -/
def countSecond (s : State) : State :=
  countIf s.doors.door1.isOpen .door1Seconds
    (countIf s.doors.door0.isOpen .door0Seconds
      (countIf s.ownEntry.isSome .waitSeconds (count .energy s.stationLoad s)))

/-! ## Zone record and REPORT contents -/

/-- The live zone record (R86, R183). -/
def State.zoneRecord (s : State) : ZoneRecord :=
  { temp := s.zone.temp, outdoor := s.doors.outdoor, spendable := s.spendable, aside := s.share.aside,
    setpoint := s.zone.setpoint, mode := s.zone.mode, fan := s.zone.fan, demand := s.zone.total, supply := s.supply.state,
    boost := s.boost, factor := s.factor, load := s.stationLoad, pendingFlag := s.zone.pendingFlag, usable := s.usable,
    defrost := s.defrost.state, spill := s.spillFigure, spillEntries := s.doors.spill.length,
    door0 := s.doors.door0.state, door1 := s.doors.door1.state, oneShot := s.doors.oneShot,
    setpointOffset := s.overrides.setpointOffset.isSome, fanForce := s.overrides.fanForce.isSome,
    zoneOff := s.overrides.zoneOff.isSome, boostInhibit := s.overrides.boostInhibit.isSome,
    economy := s.overrides.economy.isSome, defrostMode := s.overrides.defrostMode.isSome }

/-- The code of an effective setpoint (R199). -/
def setpointCode : Option Int → Nat
  | some t => t.toNat
  | none => 0

/-- Data bytes 1 to 11 of a zone record. R202 gives every bit of them, and of the header, to another field than the fan level,
which they tell as `fanRead` says (entry 33). -/
def ZoneRecord.bytes (z : ZoneRecord) : List Byte :=
  [tempCode z.temp, tempCode z.outdoor, byteOf (min z.spendable 255), byteOf z.aside,
    byteOf (setpointCode z.setpoint + 64 * z.mode.code),
    byteOf (z.demand + 64 * z.supply.code),
    byteOf (z.boost + 64 * z.factor),
    byteOf (z.load + bitAt 7 z.pendingFlag),
    byteOf (z.usable + 32 * z.defrost.code),
    byteOf (z.spill + 32 * z.spillEntries + bitAt 7 z.boostInhibit),
    byteOf (z.door0.code + 4 * z.door1.code + bitAt 4 z.setpointOffset + bitAt 5 z.fanForce + bitAt 6 z.zoneOff
      + bitAt 7 z.defrostMode)]

/-- Header bits 7 to 5 of a zone record (R202). -/
def ZoneRecord.headerBits (z : ZoneRecord) : Nat := 32 * z.oneShot.code + bitAt 7 z.economy

/-- Data bytes of page 0 (R202). -/
def Counters.page0 (c : Counters) : List Byte :=
  bytesOf 4 c.energy.toNat ++ bytesOf 2 c.waitSeconds.toNat ++ bytesOf 2 c.recalls.toNat ++ bytesOf 1 c.linkFails.toNat
    ++ bytesOf 1 c.repairs.toNat

/-- Data bytes of page 1 (R202). -/
def Counters.page1 (c : Counters) : List Byte :=
  bytesOf 2 c.door0Opens.toNat ++ bytesOf 3 c.door0Seconds.toNat ++ bytesOf 2 c.door1Opens.toNat
    ++ bytesOf 3 c.door1Seconds.toNat

/-- Data bytes 1 and 2 of a row record (R202). -/
def rowEntryBytes (r : Row) : Option Entry → List Byte
  | some e => [byteOf (64 * e.rank.code + e.units), byteOf e.standing]
  | none => [byteOf r.state.code, 0]

/-- Data bytes 1 to 11 of a row record (R202). -/
def ShareTable.rowBytes (t : ShareTable) (r : Row) : List Byte :=
  rowEntryBytes r (t.entry? r.station)
    ++ [byteOf r.borrowed, byteOf r.safety, byteOf r.owed, t.leaseTag, byteOf t.allowance, byteOf t.fallback,
      byteOf t.pool, byteOf t.free,
      byteOf (r.dedicated + bitAt 5 (t.leaseState == .lapsed) + bitAt 6 t.overdrawn)]

/-- Three bytes of a queue entry (R202). -/
def Entry.bytes (e : Entry) : List Byte :=
  [byteOf (64 * e.rank.code + e.units), byteOf e.station, byteOf e.standing]

/-- The snapshot part that a request carries: its own while LATCHED, part 0 while EMPTY (R187). -/
def State.partFor (s : State) (r : ReportRequest) : Nat := if s.stats.snapshot.isSome then r.part else 0

/-- Data of a snapshot part (R187, R202). -/
def snapshotBytes (part : Nat) (p : Picture) : List Byte :=
  match part with
  | 1 => byteOf (4 + 8 * part + p.record.headerBits) :: p.record.bytes
  | 2 => byteOf (4 + 8 * part) :: p.counters.page0
  | _ => byteOf (4 + 8 * part) :: p.counters.page1

/-- The payload of a REPORT built from a request (R183, R202). -/
def State.reportBytes (s : State) (r : ReportRequest) : List Byte :=
  match r.item with
  | .zone => byteOf (1 + s.zoneRecord.headerBits) :: s.zoneRecord.bytes
  | .page0 => 2 :: s.stats.counters.page0
  | .page1 => 3 :: s.stats.counters.page1
  | .snapshot =>
    match s.stats.snapshot with
    | some p => snapshotBytes r.part p
    | none => [4]
  | .row => byteOf (5 + 8 * s.table.usableOf (s.table.rowOf r.row)) :: s.table.rowBytes (s.table.rowOf r.row)
  | .queue => byteOf (6 + 8 * s.table.queue.length) :: (s.table.queue.take 3).flatMap Entry.bytes

/-- The fan level as a reader of a ZONE report learns it (R86); `capacity` is that of the sender's roster entry. No field of
R183 and no bit of R202 is the level itself, and the value of a FAN_FORCE slot is carried in no bulletin (R143): the report tells
the level through the fields that decide it, its one-shot, spill set entries, zone mode and total demand, and does not tell it
while its FAN_FORCE flag is set (DESIGN CHOICE between R86 and R143, R202; entry 33). -/
def fanRead (capacity : Nat) (report : List Byte) : Option Nat :=
  let field := fun place low width => ((report.getD place 0).extractLsb' low width).toNat
  if field 11 5 1 = 1 then none
  else if field 0 5 2 = OneShot.held.code then some 3
  else if field 0 5 2 = OneShot.tail.code ∨ field 10 5 2 ≠ 0 then some 2
  else if field 5 6 2 = ZoneMode.heldOff.code then some 0
  else if 0 < capacity ∧ capacity ≤ 2 * field 6 0 6 then some 2
  else some 1

/-! ## QUERY -/

/-- The states that accept a QUERY are those that send STATUS (R182). -/
def State.acceptsQuery (s : State) (target : Byte) (item : ReportItem) (flags : Byte) : Bool :=
  target.toNat == s.me && (item != .row || (s.table.row? (queryRow flags)).isSome) && s.sendsStatus

/-- The request of an accepted QUERY (R182): the clear flag counts for ZONE and the two pages. -/
def requestOf (item : ReportItem) (flags : Byte) : ReportRequest :=
  { item
    row := match item with
      | .row => queryRow flags
      | .zone | .page0 | .page1 | .snapshot | .queue => 0
    clear := match item with
      | .zone | .page0 | .page1 => queryClear flags
      | .snapshot | .row | .queue => false
    part := match item with
      | .snapshot => 1
      | .zone | .page0 | .page1 | .row | .queue => 0 }

/-- The report request replaced (R182, R184). -/
def replaceRequest (r : ReportRequest) (s : State) : State :=
  { s with
    stats := { s.stats with
      request := some r, inFlight := s.stats.inFlight.map (fun f => { f with replaced := true }) } }

/-- A QUERY taken (R182). -/
def takeQuery (target item flags : Byte) (s : State) : State :=
  match reportItemOf item with
  | some i =>
    if s.acceptsQuery target i flags then queueKind .report (replaceRequest (requestOf i flags) s) else s
  | none => s

/-! ## Completion of a REPORT -/

/-- Page 0 lowered by the values carried (R185). -/
def Counters.clearedPage0 (c carried : Counters) : Counters :=
  { c with
    energy := c.energy - carried.energy, waitSeconds := c.waitSeconds - carried.waitSeconds,
    recalls := c.recalls - carried.recalls, linkFails := c.linkFails - carried.linkFails,
    repairs := c.repairs - carried.repairs }

/-- Page 1 lowered by the values carried (R185). -/
def Counters.clearedPage1 (c carried : Counters) : Counters :=
  { c with
    door0Opens := c.door0Opens - carried.door0Opens, door0Seconds := c.door0Seconds - carried.door0Seconds,
    door1Opens := c.door1Opens - carried.door1Opens, door1Seconds := c.door1Seconds - carried.door1Seconds }

/-- A clearing read's effect (R185); the flags keep what was reached since the frame start. -/
def Stats.clearedBy (f : ReportInFlight) (st : Stats) : Stats :=
  if f.request.clear then
    match f.request.item with
    | .page0 =>
      { st with
        counters := st.counters.clearedPage0 f.counters
        flags := { st.flags with half0 := f.since.half0, full0 := f.since.full0 } }
    | .page1 =>
      { st with
        counters := st.counters.clearedPage1 f.counters
        flags := { st.flags with half1 := f.since.half1, full1 := f.since.full1 } }
    | .zone => { st with flags := { st.flags with rampTimeout := f.since.rampTimeout } }
    | .snapshot | .row | .queue => st
  else st

/-- What follows a completed part: part 3 empties the buffer (R187). -/
def Stats.partDone (f : ReportInFlight) (st : Stats) : Stats :=
  if f.request.item = .snapshot ∧ f.part = 3 then { st with snapshot := none } else st

/-- The next part to deliver, when there is one (R187). -/
def ReportInFlight.nextPart (f : ReportInFlight) : Option ReportRequest :=
  if f.request.item = .snapshot ∧ (f.part = 1 ∨ f.part = 2) then some { f.request with part := f.part + 1 } else none

/-- The own REPORT completed (R184, R185, R187): the request it was built from is dropped or moves to the next part; one
that replaced it, or none, stays. -/
def reportCompleted (s : State) : State :=
  match s.stats.inFlight with
  | none => s
  | some f =>
    let done := { (s.stats.clearedBy f).partDone f with inFlight := none }
    if f.replaced || s.stats.request != some f.request then { s with stats := done }
    else
      match f.nextPart with
      | some r => queueKind .report { s with stats := { done with request := some r } }
      | none => { s with stats := { done with request := none } }

/-! ## SNAPSHOT -/

/-- A SNAPSHOT taken: an EMPTY buffer latches (R186). -/
def takeSnapshot (s : State) : State :=
  match s.stats.snapshot with
  | some _ => s
  | none =>
    { s with stats := { s.stats with snapshot := some { record := s.zoneRecord, counters := s.stats.counters } } }

end Sys2Proof.Machine
end

