-- ==== Sys2Proof/Machine/Finish.lean ====
section
/-! DEFINITION. The end of an event: what the blocks do with what the event changed, in one order (R11, R49, R50, R71, R73,
R83, R84, R86, R113, R119, R132, R151, R155). -/

namespace Sys2Proof.Machine

/-! ## What causes an evaluation -/

/-- A figure that R71 lists differs between the state before an event and the state after it: own owed or borrowed raised,
own usable, supply state, membership state, a defrost figure or the defrost state, boost or spill. A recall or a grant that
another part of the same taking offsets is told by the event (entry 40). -/
def evaluationFigureChanged (before s : State) : Bool :=
  decide (before.ownRow.owed < s.ownRow.owed)
    || decide (before.ownRow.borrowed < s.ownRow.borrowed)
    || s.usable != before.usable
    || s.supply.state != before.supply.state
    || s.member.state != before.member.state
    || s.defrost.state != before.defrost.state
    || s.request != before.request
    || s.safetyKept != before.safetyKept
    || s.claimFigure != before.claimFigure
    || s.boost != before.boost
    || s.spillFigure != before.spillFigure

/-- A table result that R50 lists differs: own borrowed, safety, owed, congested, own entry or lease state. An own entry that
only moved to another position in the queue has not changed (DESIGN CHOICE, entry 41). -/
def shareResultChanged (before s : State) : Bool :=
  s.ownRow.borrowed != before.ownRow.borrowed
    || s.ownRow.safety != before.ownRow.safety
    || s.ownRow.owed != before.ownRow.owed
    || s.table.congested != before.table.congested
    || s.ownEntry != before.ownEntry
    || s.table.leaseState != before.table.leaseState

def evaluates (ev : Ev) (before s : State) : Bool :=
  ev.periodic || ev.evaluate || ev.recalled || ev.granted || evaluationFigureChanged before s

def evaluatesShare (ev : Ev) (before s : State) : Bool := ev.share || ev.returnDone || shareResultChanged before s

/-! ## STATUS -/

/-- What queues a STATUS when it changes (R151). -/
structure StatusView where
  borrowed : Nat
  safety : Nat
  owed : Nat
  entry : Option Entry
  member : MemberState
  shed : Bool
  pendingFlag : Bool
  fault : Bool
  defrostActive : Bool
  flags : Attention
  leaseTag : Byte
  deriving DecidableEq, Repr

def State.statusView (s : State) : StatusView :=
  { borrowed := s.ownRow.borrowed, safety := s.ownRow.safety, owed := s.ownRow.owed, entry := s.ownEntry,
    member := s.member.state, shed := s.supply.state == .shed, pendingFlag := s.zone.pendingFlag, fault := s.zone.fault,
    defrostActive := s.defrostActive, flags := s.stats.flags, leaseTag := s.table.leaseTag }

/-- Queues a STATUS when what it states of R151's list has changed (entry 24). -/
def noteStatus (before s : State) : State :=
  if s.sendsStatus && s.statusView != before.statusView then queueKind .status s else s

/-! ## The ending -/

/-- The cut within the event: aside within its bounds, then stages held off or forced off (R49, R64, R83, R84, R153). -/
def settle (s : State) : State := cutStages (applyBounds s)

/-- At most one evaluation ends an event: a zone evaluation, or else a share evaluation with the cut that follows it
(entry 6). -/
def evaluate (ev : Ev) (before s : State) : State :=
  if evaluates ev before s then zoneEvaluation ev before s
  else if evaluatesShare ev before s then cutStages (shareEvaluation ev before s)
  else s

/-- The fan set at once when one of its inputs changed (R86). -/
def refreshFan (before s : State) : State := if fanInputChanged before s then setFan s else s

/-- The own owed value rose in the event, or a recall raised it; the taking of an own RETURN is never such a taking, whatever
its service round recalls (R119). -/
def owedRaised (ev : Ev) (before s : State) : Bool :=
  !ev.returnDone && (ev.recalled || decide (before.ownRow.owed < s.ownRow.owed))

/-- The end of an event of a running station, from the state `before` it. -/
def finishRunning (ev : Ev) (before s : State) : State :=
  let served := defrostSeesTaking (owedRaised ev before s || ev.cleared) before.safetyKept s
  checkExpulsion (noteStatus before (refreshFan before (evaluate ev before (settle served))))

/-- The end of an event; a station without a table does none of it (R158). -/
def finish (ev : Ev) (before s : State) : State := if s.running then finishRunning ev before s else s

end Sys2Proof.Machine
end

