-- ==== Sys2Proof/Machine/Frame.lean ====
section
/-! DEFINITION. A frame on the wire: its fields, check, stuffing, and what a receiver makes of the bits it hears
(R161, R162, R163, R167, R198). A bit is true when recessive (1) and false when dominant (0). -/

namespace Sys2Proof.Machine

/-- The fields of a frame (R162). The length field is the number of payload bytes. -/
structure Frame where
  cls : BitVec 3
  address : BitVec 4
  kind : BitVec 4
  payload : List Byte
  deriving DecidableEq, Repr

/-- The low `width` bits of a number, most significant first (R162, R197). -/
def bitsOf : Nat → Nat → List Bool
  | 0, _ => []
  | width + 1, n => bitsOf width (n / 2) ++ [n % 2 == 1]

/-- The number that bits spell, most significant first. -/
def numberOf (bits : List Bool) : Nat := bits.foldl (fun n b => 2 * n + (if b then 1 else 0)) 0

/-- The bits of payload bytes, in sending order (R197). -/
def byteBits (bytes : List Byte) : List Bool := bytes.flatMap (fun b => bitsOf 8 b.toNat)

/-- One bit through the check register (R198). -/
def checkStep (register : BitVec 16) (bit : Bool) : BitVec 16 :=
  if register.msb != bit then (register <<< 1) ^^^ 0x1021#16 else register <<< 1

/-- The 16-bit check of bits in sending order: x¹⁶ + x¹² + x⁵ + 1, preset to all ones, not inverted (R198). -/
def checkOf (bits : List Bool) : BitVec 16 := bits.foldl checkStep 0xFFFF#16

/-- The fields from class to the last payload byte, over which the check runs (R162, R198). -/
def Frame.fieldBits (f : Frame) : List Bool :=
  bitsOf 3 f.cls.toNat ++ bitsOf 4 f.address.toNat ++ bitsOf 4 f.kind.toNat ++ bitsOf 4 f.payload.length
    ++ byteBits f.payload

/-- The part that is stuffed, before stuffing: from the start bit to the last bit of the check field (R161). -/
def Frame.plainBits (f : Frame) : List Bool :=
  false :: (f.fieldBits ++ bitsOf 16 (checkOf f.fieldBits).toNat)

/-- Stuffing after a run of `run` bits equal to `last`: a bit of the opposite value after every five equal bits in a
row, counted into the next run (R161); none after the last check bit (entry 14). -/
def stuffFrom (last : Bool) (run : Nat) : List Bool → List Bool
  | [] => []
  | b :: bs =>
    let run' := if b = last then run + 1 else 1
    if run' = 5 ∧ bs ≠ [] then b :: (!b) :: stuffFrom (!b) 1 bs else b :: stuffFrom b run' bs

/-- R161. -/
def stuff : List Bool → List Bool
  | [] => []
  | b :: bs => b :: stuffFrom b 1 bs

/-- The bits a sender drives: the stuffed part, the recessive objection slot and the recessive end field (R162). -/
def Frame.bits (f : Frame) : List Bool := stuff f.plainBits ++ true :: List.replicate 7 true

/-- What a receiver gets when it takes destuffed bits from the line. -/
inductive Take where
  /-- The bits taken, the last bit heard, the length of its run, and what is left of the line. -/
  | got (taken : List Bool) (last : Bool) (run : Nat) (rest : List Bool)
  /-- A sixth equal bit: a stuffing violation (R161). -/
  | violation
  /-- The bits heard end here. -/
  | short
  deriving DecidableEq, Repr

/-- Puts one destuffed bit before what was taken after it. -/
def Take.cons (b : Bool) : Take → Take
  | .got taken last run rest => .got (b :: taken) last run rest
  | .violation => .violation
  | .short => .short

/-- Takes `need` destuffed bits (R161): after five equal bits the next one is a stuff bit, and an equal one is a
violation. -/
def takeBits (need : Nat) (last : Bool) (run : Nat) : List Bool → Take
  | [] => if need = 0 then .got [] last run [] else .short
  | b :: bs =>
    if need = 0 then .got [] last run (b :: bs)
    else if run = 5 then (if b = last then .violation else takeBits need b 1 bs)
    else (takeBits (need - 1) b (if b = last then run + 1 else 1) bs).cons b

/-- The errors of R167. -/
inductive FrameError where
  | stuffing
  | lengthAboveTwelve
  | lengthFault
  | check
  deriving DecidableEq, Repr

/-- The accepted payload lengths of the known kinds; an unknown kind may carry any length up to 12 (R163). -/
def lengthAccepted (kind length : Nat) : Bool :=
  match kind with
  | 1 => length == 1
  | 2 => length == 12
  | 3 => length == 2
  | 4 => length == 2
  | 5 => length == 1
  | 6 => length == 1
  | 7 => length == 1
  | 8 => decide (1 ≤ length) && decide (length ≤ 12)
  | 9 => length == 4
  | 10 => length == 4
  | 11 => length == 2
  | 12 => length == 0
  | 13 => length == 3
  | _ => decide (length ≤ 12)

/-- Splits bits into bytes, most significant bit first (R197). -/
def bytesFrom : Nat → List Bool → List Byte
  | 0, _ => []
  | count + 1, bits => byteOf (numberOf (bits.take 8)) :: bytesFrom count (bits.drop 8)

/-- What a receiver makes of the line from the start bit to the last check bit. -/
inductive Received where
  | sound (frame : Frame)
  | error (e : FrameError)
  /-- The bits end before the last check bit, or do not begin with a start bit: no frame, no error yet. -/
  | incomplete
  deriving DecidableEq, Repr

/-- The frame that the destuffed fields spell, when the check matches (R167). -/
def checkFrame (header body : List Bool) (length : Nat) : Received :=
  let fields := header ++ body.take (8 * length)
  if bitsOf 16 (checkOf fields).toNat = body.drop (8 * length) then
    .sound
      { cls := BitVec.ofNat 3 (numberOf (header.take 3))
        address := BitVec.ofNat 4 (numberOf ((header.drop 3).take 4))
        kind := BitVec.ofNat 4 (numberOf ((header.drop 7).take 4))
        payload := bytesFrom length (body.take (8 * length)) }
  else .error .check

/-- The receiver after the start bit: the fifteen header bits, then the payload and the check (R162, R167). A length
fault is found at the length field, and so is a length above 12; a check error at the last check bit. -/
def receiveFields (line : List Bool) : Received :=
  match takeBits 15 false 1 line with
  | .violation => .error .stuffing
  | .short => .incomplete
  | .got header last run rest =>
    let length := numberOf (header.drop 11)
    if 12 < length then .error .lengthAboveTwelve
    else
      match takeBits (8 * length + 16) last run rest with
      | .violation => .error .stuffing
      | .short =>
        if lengthAccepted (numberOf ((header.drop 7).take 4)) length then .incomplete else .error .lengthFault
      | .got body _ _ _ =>
        if lengthAccepted (numberOf ((header.drop 7).take 4)) length then checkFrame header body length
        else .error .lengthFault

/-- The receiver: the first bit is the dominant start bit (R162). -/
def receive : List Bool → Received
  | false :: line => receiveFields line
  | _ => .incomplete

/-- How a receiver answers an error: it objects in the slot when it can place it, else it signals at once (R167). -/
def FrameError.answer : FrameError → Drive
  | .stuffing => .errorSignal
  | .lengthAboveTwelve => .errorSignal
  | .lengthFault => .objection
  | .check => .objection

/-! ## What a sender reads back -/

/-- What a sender finds in reading back its own frame (R165, R166, R168). -/
inductive ReadBack where
  /-- It drove recessive and read dominant while sending class and address. -/
  | lost
  /-- It read another bit than it drove, in any other way, up to the last check bit. -/
  | aborts
  /-- It read the objection slot dominant. -/
  | objected
  /-- It read the objection slot recessive. -/
  | completes
  /-- Every bit so far is the one it drove. -/
  | underWay
  deriving DecidableEq, Repr

/-- How many of the driven bits belong to the arbitration: the start bit, class and address, with the stuff bits among them
(R162, R165). A stuff bit right after the last address bit comes after the arbitration, so the sender of a recessive one that
reads dominant there aborts; the manual says neither loss nor abort (DESIGN CHOICE, entry 38). -/
def Frame.arbitrationBits (f : Frame) : Nat := (stuff (f.plainBits.take 8)).length

/-- How many of the driven bits are read back: those from the start bit to the last check bit (R166). -/
def Frame.checkedBits (f : Frame) : Nat := (stuff f.plainBits).length

/-- Compares the bits driven with the bits read, `arbitration` of which are still to come in the arbitration and `checked`
up to the last check bit (R165, R166). -/
def compareBits : Nat → Nat → List Bool → List Bool → ReadBack
  | arbitration, checked, d :: driven, h :: heard =>
    if checked = 0 then (if h then .completes else .objected)
    else if d = h then compareBits (arbitration - 1) (checked - 1) driven heard
    else if 0 < arbitration ∧ d = true then .lost
    else .aborts
  | _, _, _, _ => .underWay

/-- What the sender of a frame finds when it reads these bits, from the start bit on (R165, R166). -/
def Frame.readBack (f : Frame) (heard : List Bool) : ReadBack :=
  compareBits f.arbitrationBits f.checkedBits f.bits heard

end Sys2Proof.Machine
end

