-- ==== Sys2Proof/Machine/BusInterface.lean ====
section
/-! DEFINITION. The bus interface: the filter, the transmit choice and the payloads built at frame start, the outcomes of an
own frame, and the taking of a completed frame (R150, R164 to R174). -/

namespace Sys2Proof.Machine

/-! ## Payload and class at frame start -/

/-- The class of a CLAIM by its rank (R172). -/
def Rank.cls : Rank → Nat
  | .safety => 1
  | .draft => 3
  | .normal => 4

/-- The rank a CLAIM carries: that of the wish, or of the entry that 0 units withdraw (R54). -/
def State.claimCarries (s : State) : Rank :=
  if s.share.wishUnits = 0 then (s.ownEntry.map (·.rank)).getD s.share.wishRank else s.share.wishRank

/-- The safety units of a RETURN (R58). -/
def State.returnSafety (s : State) : Nat :=
  min s.ownRow.safety
    (max (s.share.aside - (s.ownRow.borrowed - s.ownRow.safety)) (min s.share.aside s.releasedSafety))

/-- The class of a RETURN (R58). -/
def State.returnClass (s : State) : Nat :=
  if 0 < s.ownRow.owed ∨ s.supply.state = .shed then 1
  else if s.table.congested ∨ s.loader.vt.returnBatch ≤ s.share.aside ∨ s.share.returnTimer = .expired then 4
  else 7

/-- The six attention flags as STATUS carries them (R200). -/
def Attention.bits (a : Attention) : Nat :=
  bitAt 0 a.half0 + bitAt 1 a.full0 + bitAt 2 a.half1 + bitAt 3 a.full1 + bitAt 4 a.config + bitAt 5 a.rampTimeout

/-- The STATUS statement (R150, R200). -/
def State.statusPayload (s : State) : StatusPayload :=
  { flags := byteOf (s.member.state.code + bitAt 3 (s.supply.state == .shed) + bitAt 4 s.zone.pendingFlag
      + bitAt 5 s.zone.fault + bitAt 6 s.defrostActive)
    tag := s.tag, borrowed := byteOf s.ownRow.borrowed, safety := byteOf s.ownRow.safety, owed := byteOf s.ownRow.owed
    waiting := byteOf ((s.ownEntry.map (·.units)).getD 0)
    rankAttention := byteOf (64 * (s.ownEntry.map (·.rank.code)).getD 0 + s.stats.flags.bits)
    standing := byteOf ((s.ownEntry.map (·.standing)).getD 0)
    leaseTagSeen := s.table.leaseTag, zoneTemp := tempCode s.zone.temp, demand := byteOf s.zone.total
    outdoor := if s.isCab then tempCode s.doors.outdoor else Byte.unknown }

/-- The payload of a REPORT; a REPORT waits only while there is a request (R182). -/
def State.reportPayload (s : State) : List Byte :=
  match s.stats.request with
  | some r => s.reportBytes r
  | none => []

/-- The bulletin of a kind as live state gives it (R172). -/
def State.bulletinFor (s : State) : TxKind → Bulletin
  | .join => .join s.tag
  | .status => .status s.statusPayload
  | .claim => .claim (byteOf s.share.wishUnits) (byteOf s.claimCarries.code)
  | .ret => .ret (byteOf s.share.aside) (byteOf s.returnSafety)
  | .draft => .draft (if s.boostActive then 1 else 0)
  | .lapse => .lapse s.table.leaseTag
  | .expel => .expel (byteOf (s.member.expulsion.getD 0))
  | .report => .report s.reportPayload

/-- The class of a kind as live state gives it (R172). -/
def State.classFor (s : State) : TxKind → Nat
  | .lapse | .expel => 0
  | .claim => s.claimCarries.cls
  | .ret => s.returnClass
  | .draft => 3
  | .join | .status => 5
  | .report => 6

/-- The order of the transmit choice: class, then age, then kind code (R172). -/
def State.offeredBefore (s : State) (a b : TxEntry) : Bool :=
  decide (s.classFor a.kind < s.classFor b.kind) ||
    (s.classFor a.kind == s.classFor b.kind &&
      (decide (a.age < b.age) || (a.age == b.age && decide (a.kind.code.toNat < b.kind.code.toNat))))

/-- The entry offered at a frame start (R172). -/
def State.offered (s : State) : Option TxEntry :=
  s.bus.queue.foldl
    (fun best e =>
      match best with
      | none => some e
      | some b => if s.offeredBefore e b then some e else some b) none

/-- The report in flight that a REPORT's frame start keeps (R183). -/
def State.reportTakesOff (s : State) : Option ReportInFlight :=
  s.stats.request.map (fun r =>
    { request := r, part := s.partFor r, counters := s.stats.counters, since := Attention.clear, replaced := false })

/-- A frame may start (R165, R174). -/
def State.mayStart (s : State) : Bool :=
  s.acceptsRequests && s.bus.standing == .active && s.bus.idle && s.bus.inFlight.isNone && !s.bus.queue.isEmpty

/-- The frame start of an offered entry (R165): payload and class are fixed. -/
def startFrame (e : TxEntry) (s : State) : State :=
  { s with
    bus := { s.bus with
      inFlight := some { kind := e.kind, bulletin := s.bulletinFor e.kind, cls := s.classFor e.kind, renewal := none }
      idle := false, idleWait := none, drive := .frame }
    stats := { s.stats with inFlight := if e.kind = .report then s.reportTakesOff else s.stats.inFlight } }

/-- An own frame as it goes out: its class, the own address, its kind and its payload (R162, R165). -/
def State.wireFrame (s : State) (f : OwnFrame) : Frame :=
  { cls := BitVec.ofNat 3 f.cls, address := BitVec.ofNat 4 s.me, kind := f.kind.code, payload := f.bulletin.payload }

/-- The bits of an own frame in flight (R162). -/
def State.frameBits (s : State) : Option (List Bool) := s.bus.inFlight.map (fun f => (s.wireFrame f).bits)

/-- What the station reads back of its own frame in flight (R165, R166). -/
def State.readsBack (s : State) (heard : List Bool) : Option ReadBack :=
  s.bus.inFlight.map (fun f => (s.wireFrame f).readBack heard)

/-! ## Outcomes of an own frame -/

/-- The kinds that may wait in the present state: what the membership state sends (R145, R151), a CLAIM whose wish does not
match the table and whose entry need not stand (R54, R120, R172), a REPORT with a report request (R182), a RETURN with units
aside (R57, R172). -/
def State.maySend (s : State) (kind : TxKind) : Bool :=
  match kind with
  | .join => s.member.state == .joining
  | .claim => s.inStep && !s.wishMatches && !s.entryStands
  | .lapse | .expel => s.inStep
  | .status => s.sendsStatus
  | .report => s.sendsStatus && s.stats.request.isSome
  | .ret => decide (0 < s.share.aside)
  | .draft => true

/-- The renewal that a completed frame leaves: what was asked for, or for DRAFT an activity other than the carried one
(R173; entry 21). -/
def State.renewalAge (s : State) (f : OwnFrame) : Option Nat :=
  match f.renewal with
  | some age => some age
  | none =>
    match f.kind, f.bulletin with
    | .draft, .draft active => if (active == 1) != s.boostActive then some s.moment else none
    | _, _ => none

/-- The queue when an own frame has completed: its entry leaves, and a renewal makes a new one (R173), but for a station
that accepts no requests, whose queue stays empty (R171). -/
def State.queueAfter (s : State) (f : OwnFrame) : List TxEntry :=
  let left := s.bus.queue.filter (fun e => e.kind != f.kind)
  match s.renewalAge f with
  | some age => if s.acceptsRequests then left ++ [{ kind := f.kind, age }] else left
  | none => left

/-- An own frame has completed (R173, R174). -/
def ownFrameCompleted (f : OwnFrame) (s : State) : State :=
  { s with
    bus := { s.bus with queue := s.queueAfter f, inFlight := none, failures := s.bus.failures - 1, drive := .released } }

/-- An own frame has failed or is lost: nothing is in flight, and the entry stays queued with its age (R59, R173, R184),
but for a kind that R54, R57, R145, R151 or R182 lets no station in this state have waiting (entry 8). -/
def ownFrameEnds (s : State) : State :=
  { s with
    bus := { s.bus with
      inFlight := none, drive := .released, queue := s.bus.queue.filter (fun e => s.maySend e.kind) }
    stats := { s.stats with inFlight := none } }

/-- The own-failure count after a void own frame, and MUTE at 16 (R174). -/
def countFailure (s : State) : State :=
  let failures := min 16 (s.bus.failures + 1)
  if failures = 16 then { s with bus := { s.bus with failures, standing := .mute, mute := some muteTime } }
  else { s with bus := { s.bus with failures } }

/-! ## Completed frames -/

/-- The roster holds a station number. -/
def State.onRoster (s : State) (station : Nat) : Bool := s.loader.vt.roster.any (fun e => e.station == station)

/-- The filter of R169. -/
def State.passes (s : State) (address : Nat) : Bulletin → Bool
  | .join .. | .status .. | .claim .. | .ret .. | .draft .. | .lapse .. | .expel .. | .report .. =>
    decide (address ≤ 7) && s.onRoster address
  | .allowance .. => address == 9
  | .override .. | .cancel .. => address == 8
  | .snapshot | .query .. => decide (8 ≤ address)
  | .unknown _ => false

/-- Two bulletins of one station kind. -/
def Bulletin.sameKind (a b : Bulletin) : Bool := a.txKind.isSome && a.txKind == b.txKind

/-- The own frame that a completed frame is (entry 16): the one in flight, of this kind, from the own address. -/
def State.ownFrame (s : State) (address : Nat) (b : Bulletin) : Option OwnFrame :=
  match s.bus.inFlight with
  | some f => if address = s.me ∧ f.bulletin.sameKind b = true then some f else none
  | none => none

/-- What a taking leaves for the rest of the event: the state, and what the ending needs to know. -/
structure Course where
  state : State
  ev : Ev
  /-- Another table tag was seen (R152). -/
  mismatch : Bool
  deriving DecidableEq, Repr

/-- A course with nothing to tell. -/
def Course.plain (s : State) : Course := { state := s, ev := {}, mismatch := false }

/-- A share table taking's results: the table, RECALLS and REPAIRS (R11). -/
def tableTaken (t : Taken) (s : State) : Course :=
  { state := countIf t.recalled .recalls (countIf t.repaired .repairs { s with table := t.table })
    ev := { recalled := t.recalled, granted := t.granted }
    mismatch := t.mismatch }

/-- The share unit and the membership unit hear of a valid ALLOWANCE (R14, R55, R146). -/
def leaseRenewed (seconds : Nat) (s : State) : State :=
  withdrawKind .lapse { s with
    share := { s.share with leaseExpired := false, leaseTimer := some (seconds * 1000) }
    member := { s.member with leaseNews := true } }

/-- The share unit and the membership unit hear of an applying LAPSE (R55, R146). -/
def leaseEnded (s : State) : State :=
  withdrawKind .lapse { s with
    share := { s.share with leaseTimer := none }, member := { s.member with leaseNews := true } }

/-- Changes a course's state. -/
def Course.mapState (f : State → State) (c : Course) : Course := { c with state := f c.state }

def takesAllowance (units leaseTime fallback tag : Byte) (s : State) : Course :=
  let t := takeAllowance s.me units leaseTime fallback tag s.table
  match t.renewed with
  | some seconds => (tableTaken t s).mapState (leaseRenewed seconds)
  | none => tableTaken t s

def takesLapse (tag : Byte) (s : State) : Course :=
  let t := takeLapse s.me tag s.table
  if t.lapsed then (tableTaken t s).mapState leaseEnded else tableTaken t s

/-- An EXPEL taken (R19, R104, R106); one that names the station clears its last stated activity, and its row unless that is
ABSENT already, where R19 changes nothing and there is nothing for R119 to see (DESIGN CHOICE between R104 and R156, entry
36). -/
def takesExpel (station : Byte) (s : State) : Course :=
  let c := (tableTaken (takeExpel s.me station.toNat s.table) s).mapState (dropSpill station.toNat)
  if station.toNat = s.me then
    { c with state := forgetStated c.state, ev := { c.ev with cleared := s.ownRow.state != .absent } }
  else c

/-- A JOIN taken (R20, R21, R104, R106, R151). -/
def takesJoin (own : Bool) (sender : Nat) (tag : Byte) (s : State) : Course :=
  let c := (tableTaken (takeJoin s.me sender s.tag tag s.table) s).mapState (dropSpill sender)
  if own then { c with state := forgetStated c.state, ev := { c.ev with cleared := true } }
  else if s.sendsStatus then c.mapState (queueKind .status) else c

/-- LISTEN and JOINING learn rows (R24). -/
def State.learning (s : State) : Bool := s.member.state == .listen || s.member.state == .joining

/-- A row that became MISMATCHED spills no more (R106). -/
def dropMismatchedSpill (sender : Nat) (s : State) : State :=
  if (s.table.rowOf sender).state = .mismatched then dropSpill sender s else s

/-- A STATUS taken (R22 to R24, R102, R106, R148, R151). -/
def takesStatus (own : Bool) (sender : Nat) (p : StatusPayload) (s : State) : Course :=
  let c := tableTaken (takeStatus s.me sender s.tag s.learning p s.table) s
  let heard := c.mapState (fun t => hear sender p (learnOutdoor sender p (dropMismatchedSpill sender t)))
  if own && s.sendsStatus then
    heard.mapState (fun t => { t with member := { t.member with statusPeriod := some statusPeriodTime } })
  else heard

/-- A CLAIM taken; an own one of 1 to 63 units starts the spacing timer (R30 to R34, R54). -/
def takesClaim (own : Bool) (sender : Nat) (units rank : Byte) (s : State) : Course :=
  let c := tableTaken (takeClaim s.me sender units rank s.table) s
  if own ∧ 1 ≤ units.toNat ∧ units.toNat ≤ 63 then
    c.mapState (fun t => { t with share := { t.share with spacingTimer := some t.loader.vt.claimSpacing } })
  else c

/-- A RETURN taken; an own one settles the accumulator (R56, R59). -/
def takesReturn (own : Bool) (sender : Nat) (units safetyUnits : Byte) (s : State) : Course :=
  let c := tableTaken (takeReturn s.me sender units safetyUnits s.table) s
  if own then { c with state := settleReturn units.toNat c.state, ev := { c.ev with returnDone := true } } else c

/-- A DRAFT taken; an own one becomes last stated (R104, R105). -/
def takesDraft (own : Bool) (sender : Nat) (active : Byte) (s : State) : Course :=
  let taken := takeDraft sender active s
  if own then Course.plain { taken with doors := { taken.doors with lastStated := active == 1 } }
  else Course.plain taken

/-- A taking whose slot changes call for an evaluation (R132). -/
def slotCourse (r : Bool × State) : Course := { Course.plain r.2 with ev := { evaluate := r.1 } }

/-- The blocks that use a kind take a bulletin that passed the filter (R170). -/
def takeBulletin (own : Bool) (sender : Nat) (b : Bulletin) (s : State) : Course :=
  match b with
  | .allowance units leaseTime fallback tag => takesAllowance units leaseTime fallback tag s
  | .lapse tag => takesLapse tag s
  | .expel station => takesExpel station s
  | .join tag => takesJoin own sender tag s
  | .status p => takesStatus own sender p s
  | .claim units rank => takesClaim own sender units rank s
  | .ret units safetyUnits => takesReturn own sender units safetyUnits s
  | .draft active => takesDraft own sender active s
  | .override kind mask value duration => slotCourse (takeOverride kind mask value duration s)
  | .cancel kind mask => slotCourse (takeCancel kind mask s)
  | .snapshot => Course.plain (takeSnapshot s)
  | .query target item flags => Course.plain (takeQuery target item flags s)
  | .report _ => if own then Course.plain (reportCompleted s) else Course.plain s
  | .unknown _ => Course.plain s

/-- Any bulletin passed from address 8 restarts the panel silence timer (R135, R170). -/
def hearPanel (address : Nat) (s : State) : State := if address = 8 then restartPanelSilence s else s

/-- An own EXPEL that completed leaves no pending expulsion (R155). -/
def expelSettled (own : Option OwnFrame) (s : State) : State :=
  match own with
  | some f => if f.kind = .expel then { s with member := { s.member with expulsion := none } } else s
  | none => s

/-- The own entry removed from the own table with a service round of its own (R27, R152). The round of the sender's row (R21,
R22), where there is one, has been run before: the rules do not say whether the own entry goes before one common round (DESIGN
CHOICE, entry 45). -/
def dropOwnClaim (c : Course) : Course :=
  let t := dropOwnEntry c.state.me c.state.table
  { c with
    state := countIf (t.recalled && !c.ev.recalled) .recalls { c.state with table := t.table }
    ev := { c.ev with recalled := c.ev.recalled || t.recalled, granted := c.ev.granted || t.granted } }

/-- The mismatch response (R27, R152): the own entry leaves the table in every state, and four states change. It follows the
taking of the JOIN or STATUS with its round, so that the own entry stands in that round and a second round follows its removal
(DESIGN CHOICE, entry 45). -/
def mismatchResponse (c : Course) : Course :=
  if c.mismatch then (dropOwnClaim c).mapState (fun s => if s.mindsMismatch then enterMismatch s else s) else c

/-- The own JOIN's and a self-expulsion's response (R147, R156). -/
def joinResponse (own : Bool) (b : Bulletin) (s : State) : State :=
  match b with
  | .join _ => if own && s.member.state == .joining then ownJoinTaken s else s
  | .expel station =>
    if station.toNat = s.me ∧ (s.member.state = .catchingUp ∨ s.member.state = .inStep) then selfExpelled s else s
  | _ => s

/-- Catch-up is checked at the end of a taking that the station takes in CATCHING_UP (R148); the own JOIN is taken in
JOINING (R159, row 7; entry 12). -/
def catchUpResponse (before : MemberState) (s : State) : State :=
  if before = .catchingUp then checkCatchUp s else s

/-- The membership unit's response at the end of a taking (R144, R147, R148, R152, R154, R156). -/
def memberResponse (own : Bool) (b : Bulletin) (c : Course) : Course :=
  (mismatchResponse c).mapState (fun s =>
    catchUpResponse s.member.state (syncHeard (joinResponse own b (syncAges s))))

/-- A frame from the own address that the station did not send (R157). It follows the blocks' taking and comes before the
defrost unit's look at the taking (R119): the rules give no order of the two (DESIGN CHOICE, entry 34). -/
def clashResponse (own : Bool) (address : Nat) (s : State) : State :=
  if !own && address == s.me && s.member.state != .clash then setMember .clash s else s

/-- The end of an own frame in flight, when the completed frame is it. -/
def closeOwnFrame (own : Option OwnFrame) (s : State) : State :=
  match own with
  | some f => ownFrameCompleted f s
  | none => s

/-- The bulletin that is taken: the sender takes the payload it built (R168). -/
def takenBulletin (own : Option OwnFrame) (b : Bulletin) : Bulletin :=
  match own with
  | some f => f.bulletin
  | none => b

/-- The address of a completed frame and, when it is the station's own, its entry (R154, R170, R173). -/
def addressed (own : Option OwnFrame) (address : Nat) (s : State) : State := resetAge address (closeOwnFrame own s)

/-- The taking of a frame that passed the filter, up to the ending of the event: the own frame's entry, the address, the
blocks, the membership unit's response, and clash (R157, R168 to R170). -/
def course (address : Nat) (b : Bulletin) (s : State) : Course :=
  let own := s.ownFrame address b
  let taken := takenBulletin own b
  let used := takeBulletin own.isSome address taken (hearPanel address (addressed own address s))
  (memberResponse own.isSome taken (used.mapState (expelSettled own))).mapState (clashResponse own.isSome address)

/-- What a frame that failed the filter leads to: its address counts, and one with the own address that the station did not
send brings CLASH (R157, R169, R170). No block takes it. -/
def filteredFrame (own : Option OwnFrame) (address : Nat) (s : State) : State :=
  let heard := checkExpulsion (addressed own address s)
  if own.isNone && address == s.me && s.member.state != .clash then finish {} s (setMember .clash heard) else heard

/-- A completed frame leaves the bus busy until it has been idle again (R164). -/
def frameHeard (s : State) : State := { s with bus := { s.bus with idle := false, idleWait := none } }

/-- A frame completes on the bus. -/
def completeFrame (codes : Sensors) (address : BitVec 4) (b : Bulletin) (s : State) : State :=
  let begun := frameHeard (begin codes s)
  if begun.running then
    if begun.passes address.toNat b then
      let c := course address.toNat b begun
      finish c.ev begun c.state
    else filteredFrame (begun.ownFrame address.toNat b) address.toNat begun
  else begun

end Sys2Proof.Machine
end

