-- ==== Sys2Proof/Machine/StartUp.lean ====
section
/-! DEFINITION. Start-up: reading and checking the vehicle table, the result of the load, and the two resets (R25, R175,
R190 to R196, R203). -/

namespace Sys2Proof.Machine

/-! ## The vehicle table -/

/-- The byte at an address; 0 past the end, which the length check rules out. -/
def byteAt (bytes : List Byte) (address : Nat) : Nat := (bytes.getD address 0).toNat

/-- A code that picks one of the listed values; none past the list (R191, R203). -/
def chosen (values : List Nat) (code : Nat) : Option Nat := values[code]?

/-- A number within bounds. -/
def within (low high n : Nat) : Option Nat := if low ≤ n ∧ n ≤ high then some n else none

/-- A temperature code other than 0x80 (R191). -/
def baseSetpointOf (n : Nat) : Option Int := tempOf (byteOf n)

/-- A neighbour byte: none for 0xFF (R203). -/
def neighboursOf (a b : Nat) : List Nat := [a, b].filter (fun n => n != 255)

/-- The four stage sizes (R203). -/
def sizesOf (a b : Nat) : List Nat := [a / 16, a % 16, b / 16, b % 16]

/-- The roster entry whose nine bytes begin at an address (R191, R203). -/
def rosterEntryAt (bytes : List Byte) (a : Nat) : Option RosterEntry := do
  let flags := byteAt bytes (a + 1)
  let station ← within 0 7 (byteAt bytes a)
  let weight ← chosen [0, 1, 2, 4, 8] (flags / 16 % 8)
  let doorCount ← within 0 2 (flags % 4)
  let dedicated ← within 0 31 (byteAt bytes (a + 2))
  let baseSetpoint ← baseSetpointOf (byteAt bytes (a + 5))
  let doorBoost ← within 0 15 (byteAt bytes (a + 8))
  some
    { station, dedicated, weight, baseSetpoint, doorCount, doorBoost
      role := if flags / 128 = 1 then .cab else .saloon
      neighbours := neighboursOf (byteAt bytes (a + 3)) (byteAt bytes (a + 4))
      sizes := sizesOf (byteAt bytes (a + 6)) (byteAt bytes (a + 7))
      gain := flags / 4 % 4 + 1 }

/-- The roster entries from an address on (R203). -/
def rosterFrom (bytes : List Byte) : Nat → Nat → Option (List RosterEntry)
  | 0, _ => some []
  | n + 1, a =>
    match rosterEntryAt bytes a, rosterFrom bytes n (a + 9) with
    | some e, some rest => some (e :: rest)
    | _, _ => none

/-- The defrost values of the global fields (R111, R203). -/
structure DefrostFields where
  units : Nat
  trim : Nat
  clear : Int
  threshold : Int
  ramp : Nat
  hold : Nat
  trimTime : Nat
  deriving DecidableEq, Repr

def defrostFieldsOf (bytes : List Byte) : Option DefrostFields := do
  let units ← within 1 31 (byteAt bytes 12)
  let trim ← within 0 units (byteAt bytes 13)
  let clear ← readingOf (byteOf (byteAt bytes 14))
  let threshold ← readingOf (byteOf (byteAt bytes 15))
  let ramp ← within 1 15 (byteAt bytes 16)
  let hold ← within 1 15 (byteAt bytes 17)
  let trimTime ← within 1 15 (byteAt bytes 18)
  some { units, trim, clear, threshold, ramp, hold, trimTime }

/-- The attention mask: bit 0 of byte 20 above the eight bits of byte 21 (R203; entry 18). -/
def maskOf (bytes : List Byte) : BitVec 9 := BitVec.ofNat 9 (256 * (byteAt bytes 20 % 2) + byteAt bytes 21)

/-- The table that the bytes spell, when every field lies within its accepted values and trim units do not exceed defrost
units (checks 2 and 5 of R192). Times are turned into milliseconds. -/
def fieldsOf (bytes : List Byte) : Option VehicleTable := do
  let rideThrough ← chosen [250, 500, 1000, 2000, 4000] (byteAt bytes 3)
  let returnBatch ← chosen [1, 2, 4, 8] (byteAt bytes 4)
  let returnTimer ← chosen [500, 1000, 2000, 4000] (byteAt bytes 5)
  let claimSpacing ← chosen [1000, 2000, 4000] (byteAt bytes 6)
  let stageMinimum ← chosen [5000, 10000, 20000, 30000] (byteAt bytes 7)
  let debounce ← chosen [20, 40, 80, 160] (byteAt bytes 8)
  let longOpen ← within 30 240 (byteAt bytes 9)
  let tailBase ← chosen [5000, 10000, 15000, 20000] (byteAt bytes 10)
  let spillLimit ← within 30 240 (byteAt bytes 11)
  let d ← defrostFieldsOf bytes
  let freeze ← within 0 1 (byteAt bytes 19)
  let roster ← rosterFrom bytes (byteAt bytes 2) 22
  some
    { check := BitVec.ofNat 16 (256 * byteAt bytes 0 + byteAt bytes 1)
      rideThrough, returnBatch, returnTimer, claimSpacing, stageMinimum, debounce
      longOpen := 1000 * longOpen, tailBase, spillLimit := 1000 * spillLimit
      defrostUnits := d.units, trimUnits := d.trim, clearTemp := d.clear, autoThreshold := d.threshold
      rampLimit := 60000 * d.ramp, holdTime := 60000 * d.hold, trimTime := 60000 * d.trimTime
      counterFreeze := freeze == 1, attentionMask := maskOf bytes, roster }

/-- The check computed over the bytes from address 2 to the last byte of the last entry (R198, check 1 of R192). -/
def tableCheck (image : List Byte) : BitVec 16 := checkOf (byteBits (image.drop 2))

/-- No number twice. -/
def distinct : List Nat → Bool
  | [] => true
  | n :: ns => !ns.contains n && distinct ns

/-- The neighbours that an entry may name (check 6 of R192). -/
def neighboursValid (roster : List RosterEntry) (e : RosterEntry) : Bool :=
  e.neighbours.all (fun n => n != e.station && roster.any (fun o => o.station == n)) && distinct e.neighbours

/-- Checks 3, 4, 6, 7 and 8 of R192. -/
def rosterValid (strap : Nat) (roster : List RosterEntry) : Bool :=
  distinct (roster.map (·.station))
    && (roster.filter (fun e => e.role == .cab)).length == 1
    && roster.all (neighboursValid roster)
    && decide ((roster.map (·.dedicated)).sum ≤ 248)
    && roster.any (fun e => e.station == strap)

/-- The bytes that the loader reads: the global fields and the entries that the roster count announces; none when the count
is outside 2 to 8 or the memory stopped answering before the last byte (R190). -/
def imageOf (bytes : List Byte) : Option (List Byte) :=
  let count := byteAt bytes 2
  if 2 ≤ count ∧ count ≤ 8 ∧ 22 + 9 * count ≤ bytes.length then some (bytes.take (22 + 9 * count)) else none

/-- The table that an image gives when every check of R192 holds. -/
def checkedTable (strap : Nat) (image : List Byte) : Option VehicleTable :=
  match fieldsOf image with
  | some vt => if vt.check = tableCheck image ∧ rosterValid strap vt.roster then some vt else none
  | none => none

/-- The table that a read leads to (R190, R192). -/
def tableFrom (strap : Nat) (bytes : List Byte) : Option (List Byte × VehicleTable) :=
  match imageOf bytes with
  | some image => (checkedTable strap image).map (fun vt => (image, vt))
  | none => none

/-! ## The result of the load -/

/-- The heater stages of a roster entry, OFF and clear (R78, R87). -/
def stagesOf (e : RosterEntry) : List Stage := e.sizes.map (fun size => { Stage.reset with size })

/-- A door machine whose debouncing begins (R90). -/
def debouncing (vt : VehicleTable) (doorCount door : Nat) (d : Door) : Door :=
  if door < doorCount then { d with debounce := some vt.debounce } else d

/-- Every block begins its work from the table, up to the first evaluation (R194). -/
def tableInForce (image : List Byte) (vt : VehicleTable) (s : State) : State :=
  let loaded := { s with
    loader := { s.loader with phase := .loaded, image, vt }
    table := ShareTable.ofRoster vt.roster
    supply := { s.supply with settle := some settleTime } }
  let listening := setMember .listen { loaded with
    member := { loaded.member with census := some censusTime, leaseNews := false } }
  recomputeSetpoint { listening with
    zone := { listening.zone with stages := stagesOf listening.entry, period := some evaluationPeriod }
    doors := { listening.doors with
      door0 := debouncing vt listening.entry.doorCount 0 listening.doors.door0
      door1 := debouncing vt listening.entry.doorCount 1 listening.doors.door1 }
    defrost := { listening.defrost with
      fogDebounce := if listening.isCab && listening.pins.fog then some fogDebounceTime else none }
    stats := { listening.stats with second := some statisticsPeriod } }

/-- The load has succeeded (R193, R194): the first evaluation follows, which is periodic, and at the cab the first check of
R114 with it. -/
def loadSucceeds (image : List Byte) (vt : VehicleTable) (s : State) : State :=
  finish { periodic := true } s (checkDefrost (readCabSensors (tableInForce image vt s)))

/-- The load has failed (R195, R158): no table, no timer. -/
def loadFails (s : State) : State :=
  { s with
    loader := { s.loader with phase := .failed }
    member := { s.member with state := .unconfigured }
    supply := { s.supply with debounce := none } }

/-! ## Resets -/

/-- The station held in reset: the pins and the waiting commands are the outside world's (R196). -/
def afterPowerOn (s : State) : State := { State.reset with pending := s.pending, moment := s.moment, pins := s.pins }

/-- The flags an external reset keeps (R181). -/
def Attention.kept (a : Attention) : Attention := { a with config := false }

/-- The statistics that an external reset keeps (R178, R181, R182, R186). -/
def Stats.kept (st : Stats) : Stats := { Stats.reset with counters := st.counters, flags := st.flags.kept }

/-- R175, R178, R181, R196. -/
def afterExternal (s : State) : State := { afterPowerOn s with stats := s.stats.kept }

end Sys2Proof.Machine
end

