-- ==== Sys2Proof/Machine/Bulletins.lean ====
section
/-! DEFINITION. Meanings of the completed frames: ALLOWANCE, LAPSE, EXPEL, JOIN, STATUS, CLAIM, RETURN, DRAFT, OVERRIDE, CANCEL,
SNAPSHOT, QUERY, REPORT and a frame of an unknown kind (R168 to R170). -/

namespace Sys2Proof.Machine

/-- ALLOWANCE (R13, R14, R55). -/
def execAllowance (codes : Sensors) (address : BitVec 4) (units leaseTime fallback tag : Byte) (s : State) :
    Host.Outcome State Fault Refusal :=
  .next (completeFrame codes address (.allowance units leaseTime fallback tag) s)

/-- LAPSE (R15, R16, R55). -/
def execLapse (codes : Sensors) (address : BitVec 4) (tag : Byte) (s : State) : Host.Outcome State Fault Refusal :=
  .next (completeFrame codes address (.lapse tag) s)

/-- EXPEL (R19, R104, R106, R156). -/
def execExpel (codes : Sensors) (address : BitVec 4) (station : Byte) (s : State) : Host.Outcome State Fault Refusal :=
  .next (completeFrame codes address (.expel station) s)

/-- JOIN (R20, R21, R104, R106, R147, R152). -/
def execJoin (codes : Sensors) (address : BitVec 4) (tag : Byte) (s : State) : Host.Outcome State Fault Refusal :=
  .next (completeFrame codes address (.join tag) s)

/-- STATUS (R22 to R24, R102, R148, R151, R152). -/
def execStatus (codes : Sensors) (address : BitVec 4) (payload : StatusPayload) (s : State) :
    Host.Outcome State Fault Refusal :=
  .next (completeFrame codes address (.status payload) s)

/-- CLAIM (R30 to R34, R54). -/
def execClaim (codes : Sensors) (address : BitVec 4) (units rank : Byte) (s : State) :
    Host.Outcome State Fault Refusal :=
  .next (completeFrame codes address (.claim units rank) s)

/-- RETURN (R56, R59). -/
def execReturn (codes : Sensors) (address : BitVec 4) (units safetyUnits : Byte) (s : State) :
    Host.Outcome State Fault Refusal :=
  .next (completeFrame codes address (.ret units safetyUnits) s)

/-- DRAFT (R104 to R106). -/
def execDraft (codes : Sensors) (address : BitVec 4) (active : Byte) (s : State) : Host.Outcome State Fault Refusal :=
  .next (completeFrame codes address (.draft active) s)

/-- OVERRIDE (R129 to R132, R135). -/
def execOverride (codes : Sensors) (address : BitVec 4) (kind mask value duration : Byte) (s : State) :
    Host.Outcome State Fault Refusal :=
  .next (completeFrame codes address (.override kind mask value duration) s)

/-- CANCEL (R134, R135). -/
def execCancel (codes : Sensors) (address : BitVec 4) (kind mask : Byte) (s : State) :
    Host.Outcome State Fault Refusal :=
  .next (completeFrame codes address (.cancel kind mask) s)

/-- SNAPSHOT (R186). -/
def execSnapshot (codes : Sensors) (address : BitVec 4) (s : State) : Host.Outcome State Fault Refusal :=
  .next (completeFrame codes address .snapshot s)

/-- QUERY (R182). -/
def execQuery (codes : Sensors) (address : BitVec 4) (target item flags : Byte) (s : State) :
    Host.Outcome State Fault Refusal :=
  .next (completeFrame codes address (.query target item flags) s)

/-- REPORT (R170, R184, R185, R187). -/
def execReport (codes : Sensors) (address : BitVec 4) (data : List Byte) (s : State) :
    Host.Outcome State Fault Refusal :=
  .next (completeFrame codes address (.report data) s)

/-- A frame of an unknown kind is taken by no block; its address counts (R169, R170). -/
def execUnknownKindFrame (codes : Sensors) (address : BitVec 4) (kind : BitVec 4) (s : State) :
    Host.Outcome State Fault Refusal :=
  .next (completeFrame codes address (.unknown kind) s)

end Sys2Proof.Machine
end

