-- ==== Sys2Proof/Machine/BusEvents.lean ====
section
/-! DEFINITION. Meanings of the bus events: errors heard, the outcomes and starts of own frames, the bus-idle detector and the MUTE
timer (R57, R164 to R167, R173, R174). -/

namespace Sys2Proof.Machine

/-- The station objects and signals errors (R167): ACTIVE, configured, not in CLASH, and a receiver of the frame. -/
def State.mayObject (s : State) : Bool :=
  s.acceptsRequests && s.bus.standing == .active && s.bus.inFlight.isNone

/-- What the station drives on hearing the bits of another node's frame (R167). -/
def answerHeard (heard : List Bool) (s : State) : State :=
  match receive heard with
  | .error e => if s.mayObject then { s with bus := { s.bus with drive := e.answer } } else s
  | .sound _ => s
  | .incomplete => s

/-- FRAME_ERROR: another node's frame is heard with an error; nothing is taken from it (R167, R168). -/
def execFrameError (heard : List Bool) (s : State) : Host.Outcome State Fault Refusal :=
  .next (answerHeard heard (frameHeard (nextMoment s)))

/-- A void own frame (R59, R173, R174, R179), with what the sender drives. An abort that brings the own-failure count to 16
is driven all the same: it belongs to the frame that became void before MUTE began (DESIGN CHOICE, entry 37). -/
def ownFrameFails (drive : Drive) (s : State) : State :=
  let counted := count .linkFails 1 (countFailure (ownFrameEnds s))
  let driven := { counted with bus := { counted.bus with drive } }
  checkExpulsion (noteStatus s driven)

/-- A lost own frame (R59, R165, R173, R184): no count changes. -/
def frameLost (s : State) : State :=
  match s.bus.inFlight with
  | none => s
  | some _ => checkExpulsion (ownFrameEnds s)

/-- What the bits read back make of the own frame in flight: void at a dominant objection slot, where the sender drives
nothing, or at another wrong bit, where it aborts with eight dominant bits (R166); lost at a lower arbitration value (R165). -/
def ownFrameReadBack (heard : List Bool) (s : State) : State :=
  match s.readsBack heard with
  | some .objected => ownFrameFails .released s
  | some .aborts => ownFrameFails .abort s
  | some .lost => frameLost s
  | some .completes | some .underWay => s
  | none => s

/-- OWN_FRAME_VOID (R59, R166, R173, R174, R184). -/
def execOwnFrameVoid (heard : List Bool) (s : State) : Host.Outcome State Fault Refusal :=
  .next (whenRunning (ownFrameReadBack heard) (nextMoment s))

/-- OWN_FRAME_LOST: the event of reading back a lower arbitration value, without its bits (entry 38). -/
def execOwnFrameLost (s : State) : Host.Outcome State Fault Refusal := .next (whenRunning frameLost (nextMoment s))

/-- The frame start, when one is due (R165, R172). -/
def startOffered (s : State) : State :=
  if s.mayStart then
    match s.offered with
    | some e => startFrame e s
    | none => s
  else s

/-- FRAME_START. -/
def execFrameStart (s : State) : Host.Outcome State Fault Refusal := .next (startOffered (nextMoment s))

/-- The bus becomes IDLE (R164): what the station drove has ended, and the 2 ms wait begins. -/
def busBecomesIdle (s : State) : State :=
  if s.bus.idle then s
  else { s with bus := { s.bus with idle := true, idleWait := some idleWaitTime, drive := .released } }

/-- BUS_IDLE. -/
def execBusIdle (s : State) : Host.Outcome State Fault Refusal := .next (busBecomesIdle (nextMoment s))

/-- The bus has stayed IDLE for 2 ms: the opportunistic RETURN, with the own transmit queue empty (R57, R164). -/
def idleWaitEnds (s : State) : State :=
  match s.bus.idleWait with
  | none => s
  | some _ =>
    let ended := { s with bus := { s.bus with idleWait := none } }
    if ended.bus.queue.isEmpty then queueReturn ended else ended

/-- BUS_IDLE_2MS. -/
def execBusIdle2ms (s : State) : Host.Outcome State Fault Refusal := .next (idleWaitEnds (nextMoment s))

/-- MUTE ends: ACTIVE with the count at 8 (R174). -/
def muteEnds (s : State) : State :=
  match s.bus.mute with
  | none => s
  | some _ => { s with bus := { s.bus with mute := none, standing := .active, failures := 8 } }

/-- MUTE_TIMER_EXPIRY. -/
def execMuteTimerExpiry (s : State) : Host.Outcome State Fault Refusal := .next (muteEnds (nextMoment s))

/-- START_BIT: a dominant bit on the idle bus makes it BUSY and ends the 2 ms wait (R164). -/
def execStartBit (s : State) : Host.Outcome State Fault Refusal := .next (frameHeard (nextMoment s))

end Sys2Proof.Machine
end

