-- ==== Sys2Proof/Machine/DefrostEvents.lean ====
section
/-! DEFINITION. Meanings of the defrost unit's events: the fog input and the ramp, hold and trim timers (R110 to R118). -/

namespace Sys2Proof.Machine

/-- The raw fog input changes; only the cab reads it (R110). -/
def fogRaw (active : Bool) (s : State) : State :=
  let seen := { s with pins := { s.pins with fog := active } }
  if s.pins.fog ≠ active ∧ s.running ∧ s.isCab then
    { seen with
      defrost := { seen.defrost with
        fogDebounce := if active = seen.defrost.fog then none else some fogDebounceTime } }
  else seen

/-- FOG_RAW_CHANGE. -/
def execFogRawChange (active : Bool) (s : State) : Host.Outcome State Fault Refusal :=
  .next (fogRaw active (nextMoment s))

/-- The debounced fog level becomes the raw one (R110, R114, R118). -/
def fogLevel (s : State) : State :=
  match s.defrost.fogDebounce with
  | none => s
  | some _ =>
    finish {} s
      (defrostSeesFog { s with defrost := { s.defrost with fog := s.pins.fog, fogDebounce := none } })

/-- FOG_LEVEL_CHANGE. -/
def execFogLevelChange (codes : Sensors) (s : State) : Host.Outcome State Fault Refusal :=
  .next (whenRunning fogLevel (begin codes s))

/-- A phase timer that runs in a given state. -/
def State.phaseRuns (s : State) (state : DefrostState) : Bool :=
  s.defrost.state == state && s.defrost.phase.isSome

/-- The ramp timer runs out: HOLD, with a ramp timeout noted (R116). -/
def rampEnds (s : State) : State :=
  if s.phaseRuns .ramp then finish {} s (enterHold (noteRampTimeout s)) else s

/-- RAMP_TIMER_EXPIRY. -/
def execRampTimerExpiry (codes : Sensors) (s : State) : Host.Outcome State Fault Refusal :=
  .next (whenRunning rampEnds (begin codes s))

/-- The hold timer runs out: mode and fog level decide (R117). -/
def holdEnds (s : State) : State := if s.phaseRuns .hold then finish {} s (holdExpires s) else s

/-- HOLD_TIMER_EXPIRY. -/
def execHoldTimerExpiry (codes : Sensors) (s : State) : Host.Outcome State Fault Refusal :=
  .next (whenRunning holdEnds (begin codes s))

/-- The trim timer runs out: OFF (R118). -/
def trimEnds (s : State) : State := if s.phaseRuns .trim then finish {} s (enterOff s) else s

/-- TRIM_TIMER_EXPIRY. -/
def execTrimTimerExpiry (codes : Sensors) (s : State) : Host.Outcome State Fault Refusal :=
  .next (whenRunning trimEnds (begin codes s))

end Sys2Proof.Machine
end

