-- ==== Sys2Proof/Machine/DoorEvents.lean ====
section
/-! DEFINITION. Meanings of the door unit's events: contacts, long-open, tail, spill and outdoor age timers (R90 to R108). -/

namespace Sys2Proof.Machine

/-- A raw door contact changes (R90). -/
def doorRaw (door : Fin 2) (apart : Bool) (s : State) : State :=
  let seen := setRawDoor door apart s
  if s.rawDoor door ≠ seen.rawDoor door ∧ s.running ∧ s.doorExists door then restartDoorDebounce door seen else seen

/-- DOOR_RAW_CHANGE. -/
def execDoorRawChange (door : Fin 2) (apart : Bool) (s : State) : Host.Outcome State Fault Refusal :=
  .next (doorRaw door apart (nextMoment s))

/-- A door's debounced level becomes the raw one (R90 to R92). -/
def doorLevel (door : Fin 2) (s : State) : State :=
  match (s.door door).debounce with
  | none => s
  | some _ => finish {} s (doorTakesLevel door (s.rawDoor door) s)

/-- DOOR_LEVEL_CHANGE. -/
def execDoorLevelChange (codes : Sensors) (door : Fin 2) (s : State) : Host.Outcome State Fault Refusal :=
  .next (whenRunning (doorLevel door) (begin codes s))

/-- A door's long-open timer runs out: LONG_OPEN, and the layover check (R92, R97). -/
def longOpenEnds (door : Fin 2) (s : State) : State :=
  match (s.door door).longOpen with
  | none => s
  | some _ =>
    finish {} s (checkLayover (setDoor door { s.door door with state := .longOpen, longOpen := none } s))

/-- LONG_OPEN_EXPIRY. -/
def execLongOpenExpiry (codes : Sensors) (door : Fin 2) (s : State) : Host.Outcome State Fault Refusal :=
  .next (whenRunning (longOpenEnds door) (begin codes s))

/-- The tail timer runs out: the boost ends (R98). -/
def tailEnds (s : State) : State :=
  match s.doors.tail with
  | none => s
  | some _ => finish {} s (setOneShot .idle none s)

/-- TAIL_TIMER_EXPIRY. -/
def execTailTimerExpiry (codes : Sensors) (s : State) : Host.Outcome State Fault Refusal :=
  .next (whenRunning tailEnds (begin codes s))

/-- The spill timer of a neighbour's entry runs out: the entry is removed (R106). -/
def spillEnds (station : Nat) (s : State) : State :=
  if s.doors.spill.any (fun e => e.station == station) then finish {} s (dropSpill station s) else s

/-- SPILL_TIMER_EXPIRY. -/
def execSpillTimerExpiry (codes : Sensors) (station : Fin 8) (s : State) : Host.Outcome State Fault Refusal :=
  .next (whenRunning (spillEnds station.val) (begin codes s))

/-- The outdoor age timer runs out: the reading is unknown (R102). -/
def outdoorAgeEnds (s : State) : State :=
  match s.doors.outdoorAge with
  | none => s
  | some _ => finish {} s (setOutdoor none none s)

/-- OUTDOOR_AGE_EXPIRY. -/
def execOutdoorAgeExpiry (codes : Sensors) (s : State) : Host.Outcome State Fault Refusal :=
  .next (whenRunning outdoorAgeEnds (begin codes s))

end Sys2Proof.Machine
end

