-- ==== Sys2Proof/Machine/MembershipEvents.lean ====
section
/-! DEFINITION. Meanings of the membership unit's timers: census, catch-up, STATUS period and silence age (R146 to R155). -/

namespace Sys2Proof.Machine

/-- The census ends: a JOIN is queued and the state becomes JOINING (R146). -/
def censusEnds (s : State) : State :=
  match s.member.census with
  | none => s
  | some _ =>
    let stopped := { s with member := { s.member with census := none } }
    finish {} s (queueKind .join (setMember .joining stopped))

/-- CENSUS_TIMER_EXPIRY. -/
def execCensusTimerExpiry (codes : Sensors) (s : State) : Host.Outcome State Fault Refusal :=
  .next (whenRunning censusEnds (begin codes s))

/-- The catch-up time runs out: the catch-up lapse, then IN_STEP (R18, R148). -/
def catchUpEnds (s : State) : State :=
  match s.member.catchUp with
  | none => s
  | some _ =>
    let stopped := { s with member := { s.member with catchUp := none }, table := s.table.catchUpLapse }
    finish {} s (setMember .inStep stopped)

/-- CATCH_UP_TIMER_EXPIRY. -/
def execCatchUpTimerExpiry (codes : Sensors) (s : State) : Host.Outcome State Fault Refusal :=
  .next (whenRunning catchUpEnds (begin codes s))

/-- The STATUS period runs out: a STATUS is queued, and the period waits for its completion (R151). -/
def statusPeriodEnds (s : State) : State :=
  match s.member.statusPeriod with
  | none => s
  | some _ => queueKind .status { s with member := { s.member with statusPeriod := none } }

/-- STATUS_PERIOD_EXPIRY. -/
def execStatusPeriodExpiry (s : State) : Host.Outcome State Fault Refusal := .next (whenRunning statusPeriodEnds (nextMoment s))

/-- An age at its limit: the row is silent (R154). -/
def Age.reached (station : Nat) (a : Age) : Age := if a.station = station then { a with left := none } else a

/-- A silence age reaches 12 s (R154, R155). Row 4 of R159, this event and a frame from that station, lists its two outcomes in
the reverse order of its columns: the model follows R155, so the EXPEL is queued here and the frame then withdraws it when the age
comes first, and none is queued when the frame comes first (DESIGN CHOICE, entry 44). -/
def ageReaches (station : Nat) (s : State) : State :=
  if s.member.ages.any (fun a => a.station == station && a.left.isSome) then
    checkExpulsion { s with member := { s.member with ages := s.member.ages.map (Age.reached station) } }
  else s

/-- SILENCE_AGE_LIMIT. -/
def execSilenceAgeLimit (station : Fin 8) (s : State) : Host.Outcome State Fault Refusal :=
  .next (whenRunning (ageReaches station.val) (nextMoment s))

end Sys2Proof.Machine
end

