-- ==== Sys2Proof/Machine/OverrideEvents.lean ====
section
/-! DEFINITION. Meanings of the override table's timers: a slot's expiry and panel silence (R132, R133, R135). -/

namespace Sys2Proof.Machine

/-- The expiry timer of a slot runs out: the slot empties (R133). -/
def slotEnds (kind : OverrideKind) (s : State) : State :=
  match s.overrides.expiry kind with
  | none => s
  | some _ => finish { evaluate := true } s (handSlotsOn (s.overrides.emptied kind) s)

/-- SLOT_EXPIRY. -/
def execSlotExpiry (codes : Sensors) (kind : OverrideKind) (s : State) : Host.Outcome State Fault Refusal :=
  .next (whenRunning (slotEnds kind) (begin codes s))

/-- A panel silence empties some slot: one without an expiry is active (R135). -/
def Overrides.silenceTakes (o : Overrides) : Bool := o.silenced != { o with panelSilence := none }

/-- The panel silence timer runs out (R135). -/
def panelFallsSilent (s : State) : State :=
  match s.overrides.panelSilence with
  | none => s
  | some _ =>
    if s.overrides.silenceTakes then finish { evaluate := true } s (handSlotsOn s.overrides.silenced s)
    else { s with overrides := { s.overrides with panelSilence := none } }

/-- PANEL_SILENCE_EXPIRY. -/
def execPanelSilenceExpiry (codes : Sensors) (s : State) : Host.Outcome State Fault Refusal :=
  .next (whenRunning panelFallsSilent (begin codes s))

end Sys2Proof.Machine
end

