-- ==== Sys2Proof/Machine/SupplyEvents.lean ====
section
/-! DEFINITION. Meanings of the supply monitor's events: the raw and the debounced line level, and the settle, ride-through and
qualify timers (R61 to R64). -/

namespace Sys2Proof.Machine

/-- Entry to RIDE_THROUGH (R62): the timer starts at its full time. -/
def enterRideThrough (s : State) : State :=
  setSupply .rideThrough { s with supply := { s.supply with rideThrough := some s.loader.vt.rideThrough } }

/-- The settle time ends: LIVE or RIDE_THROUGH by the debounced level (R62). -/
def settleEnds (s : State) : State :=
  match s.supply.settle with
  | none => s
  | some _ =>
    let stopped := { s with supply := { s.supply with settle := none } }
    finish {} s (if stopped.supply.good then setSupply .live stopped else enterRideThrough stopped)

/-- SETTLE_TIMER_EXPIRY. -/
def execSettleTimerExpiry (codes : Sensors) (s : State) : Host.Outcome State Fault Refusal :=
  .next (whenRunning settleEnds (begin codes s))

/-- The ride-through time ends: SHED (R63, R64). -/
def rideThroughEnds (s : State) : State :=
  match s.supply.rideThrough with
  | none => s
  | some _ => finish {} s (setSupply .shed { s with supply := { s.supply with rideThrough := none } })

/-- RIDE_THROUGH_EXPIRY. -/
def execRideThroughExpiry (codes : Sensors) (s : State) : Host.Outcome State Fault Refusal :=
  .next (whenRunning rideThroughEnds (begin codes s))

/-- The qualify time ends: LIVE (R64). -/
def qualifyEnds (s : State) : State :=
  match s.supply.qualify with
  | none => s
  | some _ => finish {} s (setSupply .live { s with supply := { s.supply with qualify := none } })

/-- QUALIFY_TIMER_EXPIRY. -/
def execQualifyTimerExpiry (codes : Sensors) (s : State) : Host.Outcome State Fault Refusal :=
  .next (whenRunning qualifyEnds (begin codes s))

/-- The line debounce runs: from the release of the reset on, except in UNCONFIGURED (R61, R158). -/
def State.watchesLine (s : State) : Bool := s.loader.phase == .reading || s.loader.phase == .loaded

/-- The line debounce measured afresh from a raw change (R61): it runs while the raw level is not the debounced one. -/
def restartLineDebounce (s : State) : State :=
  { s with
    supply := { s.supply with debounce := if s.pins.line = s.supply.good then none else some lineDebounceTime } }

/-- The raw line level changes (R61). -/
def lineRaw (high : Bool) (s : State) : State :=
  let seen := { s with pins := { s.pins with line := high } }
  if s.pins.line ≠ high ∧ s.watchesLine then restartLineDebounce seen else seen

/-- LINE_RAW_CHANGE. -/
def execLineRawChange (high : Bool) (s : State) : Host.Outcome State Fault Refusal := .next (lineRaw high (nextMoment s))

/-- What the supply state does with a changed debounced level (R62 to R64). -/
def supplySeesLevel (s : State) : State :=
  match s.supply.state, s.supply.good with
  | .settling, _ => s
  | .live, true => s
  | .live, false => enterRideThrough s
  | .rideThrough, true => setSupply .live { s with supply := { s.supply with rideThrough := none } }
  | .rideThrough, false => s
  | .shed, true => { s with supply := { s.supply with qualify := some qualifyTime } }
  | .shed, false => { s with supply := { s.supply with qualify := none } }

/-- The debounced line level becomes the raw one (R61 to R64). -/
def lineLevel (s : State) : State :=
  match s.supply.debounce with
  | none => s
  | some _ => finish {} s (supplySeesLevel { s with supply := { s.supply with good := s.pins.line, debounce := none } })

/-- LINE_LEVEL_CHANGE. -/
def execLineLevelChange (codes : Sensors) (s : State) : Host.Outcome State Fault Refusal :=
  .next (lineLevel (begin codes s))

end Sys2Proof.Machine
end

