-- ==== Sys2Proof/Machine/ResetEvents.lean ====
section
/-! DEFINITION. Meanings of the resets and of the option load (R190 to R196). -/

namespace Sys2Proof.Machine

/-- POWER_ON_RESET (R196, R204). -/
def execPowerOnReset (s : State) : Host.Outcome State Fault Refusal := .next (afterPowerOn (nextMoment s))

/-- EXTERNAL_RESET (R178, R181, R196). -/
def execExternalReset (s : State) : Host.Outcome State Fault Refusal := .next (afterExternal (nextMoment s))

/-- The release of the reset: the straps are sampled once and the read begins; the line debounce begins with it (R61, R190;
entry 17). -/
def resetReleased (straps : BitVec 3) (s : State) : State :=
  if s.loader.phase = .inReset then
    restartLineDebounce { s with loader := { s.loader with phase := .reading, strap := straps } }
  else s

/-- RESET_RELEASE. -/
def execResetRelease (straps : BitVec 3) (s : State) : Host.Outcome State Fault Refusal :=
  .next (resetReleased straps (nextMoment s))

/-- The read of the option memory has ended: the checks, and the load's result (R190, R192 to R195). -/
def readDone (bytes : List Byte) (s : State) : State :=
  if s.loader.phase = .reading then
    match tableFrom s.me bytes with
    | some found => loadSucceeds found.1 found.2 s
    | none => loadFails s
  else s

/-- OPTION_READ_DONE. -/
def execOptionReadDone (codes : Sensors) (bytes : List Byte) (s : State) : Host.Outcome State Fault Refusal :=
  .next (readDone bytes (begin codes s))

/-- The read fails at once, from whichever cause (R190, R195). -/
def readFails (s : State) : State := if s.loader.phase = .reading then loadFails s else s

/-- OPTION_READ_FAILED. -/
def execOptionReadFailed (_cause : ReadFailure) (s : State) : Host.Outcome State Fault Refusal :=
  .next (readFails (nextMoment s))

end Sys2Proof.Machine
end

