-- ==== Sys2Proof/Machine/ShareEvents.lean ====
section
/-! DEFINITION. Meanings of the share unit's timers: lease, claim spacing and return (R54, R55, R57). -/

namespace Sys2Proof.Machine

/-- The own lease timer runs out (R55): spendable falls to usable, and an IN_STEP station queues a LAPSE. -/
def leaseRunsOut (s : State) : State :=
  match s.share.leaseTimer with
  | none => s
  | some _ =>
    let expired := { s with share := { s.share with leaseTimer := none, leaseExpired := true } }
    finish { share := true } s (if expired.inStep then queueKind .lapse expired else expired)

/-- LEASE_TIMER_EXPIRY. -/
def execLeaseTimerExpiry (s : State) : Host.Outcome State Fault Refusal := .next (whenRunning leaseRunsOut (nextMoment s))

/-- The claim spacing time ends: a share evaluation tries the wish again (R50, R54). -/
def spacingEnds (s : State) : State :=
  match s.share.spacingTimer with
  | none => s
  | some _ => finish { share := true } s { s with share := { s.share with spacingTimer := none } }

/-- CLAIM_SPACING_EXPIRY. -/
def execClaimSpacingExpiry (s : State) : Host.Outcome State Fault Refusal := .next (whenRunning spacingEnds (nextMoment s))

/-- The return timer runs out: it stays expired, and a RETURN is queued (R57). -/
def returnTimerEnds (s : State) : State :=
  match s.share.returnTimer with
  | .running _ => queueReturn { s with share := { s.share with returnTimer := .expired } }
  | .stopped => s
  | .expired => s

/-- RETURN_TIMER_EXPIRY. -/
def execReturnTimerExpiry (s : State) : Host.Outcome State Fault Refusal := .next (whenRunning returnTimerEnds (nextMoment s))

end Sys2Proof.Machine
end

