-- ==== Sys2Proof/Machine/StatisticsEvents.lean ====
section
/-! DEFINITION. Meaning of the statistics second (R178, R179). -/

namespace Sys2Proof.Machine

/-- A statistics second: the period starts again and the time-dependent counts are made (R178, R179). -/
def secondEnds (s : State) : State :=
  match s.stats.second with
  | none => s
  | some _ => noteStatus s (countSecond { s with stats := { s.stats with second := some statisticsPeriod } })

/-- STATISTICS_SECOND. -/
def execStatisticsSecond (s : State) : Host.Outcome State Fault Refusal := .next (whenRunning secondEnds (nextMoment s))

end Sys2Proof.Machine
end

