-- ==== Sys2Proof/Machine/ZoneEvents.lean ====
section
/-! DEFINITION. Meanings of the zone controller's own events: the periodic evaluation and a stage's minimum timer (R71, R82). -/

namespace Sys2Proof.Machine

/-- A periodic evaluation is due: the period starts again, and the cab takes its readings with it (R71, R101, R110). -/
def periodEnds (s : State) : State :=
  match s.zone.period with
  | none => s
  | some _ =>
    finish { periodic := true } s (readCabSensors { s with zone := { s.zone with period := some evaluationPeriod } })

/-- PERIODIC_EVALUATION. -/
def execPeriodicEvaluation (codes : Sensors) (s : State) : Host.Outcome State Fault Refusal :=
  .next (whenRunning periodEnds (begin codes s))

/-- A stage with its minimum timer clear. -/
def Stage.timerClear (g : Stage) : Stage := { g with timer := .clear }

/-- The minimum timer of a stage is running. -/
def State.stageTimed (s : State) (stage : Nat) : Bool :=
  match s.zone.stages[stage]? with
  | some g => !g.timer.isClear
  | none => false

/-- A stage's minimum timer runs out: clear, and an evaluation at once (R82). -/
def stageTimerEnds (stage : Nat) (s : State) : State :=
  if s.stageTimed stage then
    finish { evaluate := true } s (setStages (s.zone.stages.modify stage Stage.timerClear) s)
  else s

/-- STAGE_MINIMUM_TIMER_EXPIRY. -/
def execStageMinimumTimerExpiry (codes : Sensors) (stage : Fin 4) (s : State) : Host.Outcome State Fault Refusal :=
  .next (whenRunning (stageTimerEnds stage.val) (begin codes s))

end Sys2Proof.Machine
end

