-- ==== Sys2Proof/Machine/Dispatch.lean ====
section
/-! DEFINITION. The meaning of every command: one arm for each row of spec/opcode_table.json. -/

namespace Sys2Proof.Machine

def exec (i : Instr) (s : State) : Host.Outcome State Fault Refusal :=
  match i with
  | .allowance codes address units leaseTime fallback tag => Sys2Proof.Machine.execAllowance codes address units leaseTime fallback tag s
  | .lapse codes address tag => Sys2Proof.Machine.execLapse codes address tag s
  | .expel codes address station => Sys2Proof.Machine.execExpel codes address station s
  | .join codes address tag => Sys2Proof.Machine.execJoin codes address tag s
  | .status codes address payload => Sys2Proof.Machine.execStatus codes address payload s
  | .claim codes address units rank => Sys2Proof.Machine.execClaim codes address units rank s
  | .ret codes address units safetyUnits => Sys2Proof.Machine.execReturn codes address units safetyUnits s
  | .draft codes address active => Sys2Proof.Machine.execDraft codes address active s
  | .override codes address kind mask value duration => Sys2Proof.Machine.execOverride codes address kind mask value duration s
  | .cancel codes address kind mask => Sys2Proof.Machine.execCancel codes address kind mask s
  | .snapshot codes address => Sys2Proof.Machine.execSnapshot codes address s
  | .query codes address target item flags => Sys2Proof.Machine.execQuery codes address target item flags s
  | .report codes address data => Sys2Proof.Machine.execReport codes address data s
  | .unknownKindFrame codes address kind => Sys2Proof.Machine.execUnknownKindFrame codes address kind s
  | .frameError heard => Sys2Proof.Machine.execFrameError heard s
  | .ownFrameVoid heard => Sys2Proof.Machine.execOwnFrameVoid heard s
  | .ownFrameLost => Sys2Proof.Machine.execOwnFrameLost s
  | .frameStart => Sys2Proof.Machine.execFrameStart s
  | .busIdle => Sys2Proof.Machine.execBusIdle s
  | .busIdle2ms => Sys2Proof.Machine.execBusIdle2ms s
  | .muteTimerExpiry => Sys2Proof.Machine.execMuteTimerExpiry s
  | .censusTimerExpiry codes => Sys2Proof.Machine.execCensusTimerExpiry codes s
  | .catchUpTimerExpiry codes => Sys2Proof.Machine.execCatchUpTimerExpiry codes s
  | .statusPeriodExpiry => Sys2Proof.Machine.execStatusPeriodExpiry s
  | .silenceAgeLimit station => Sys2Proof.Machine.execSilenceAgeLimit station s
  | .leaseTimerExpiry => Sys2Proof.Machine.execLeaseTimerExpiry s
  | .claimSpacingExpiry => Sys2Proof.Machine.execClaimSpacingExpiry s
  | .returnTimerExpiry => Sys2Proof.Machine.execReturnTimerExpiry s
  | .settleTimerExpiry codes => Sys2Proof.Machine.execSettleTimerExpiry codes s
  | .rideThroughExpiry codes => Sys2Proof.Machine.execRideThroughExpiry codes s
  | .qualifyTimerExpiry codes => Sys2Proof.Machine.execQualifyTimerExpiry codes s
  | .lineRawChange high => Sys2Proof.Machine.execLineRawChange high s
  | .lineLevelChange codes => Sys2Proof.Machine.execLineLevelChange codes s
  | .periodicEvaluation codes => Sys2Proof.Machine.execPeriodicEvaluation codes s
  | .stageMinimumTimerExpiry codes stage => Sys2Proof.Machine.execStageMinimumTimerExpiry codes stage s
  | .doorRawChange door apart => Sys2Proof.Machine.execDoorRawChange door apart s
  | .doorLevelChange codes door => Sys2Proof.Machine.execDoorLevelChange codes door s
  | .longOpenExpiry codes door => Sys2Proof.Machine.execLongOpenExpiry codes door s
  | .tailTimerExpiry codes => Sys2Proof.Machine.execTailTimerExpiry codes s
  | .spillTimerExpiry codes station => Sys2Proof.Machine.execSpillTimerExpiry codes station s
  | .outdoorAgeExpiry codes => Sys2Proof.Machine.execOutdoorAgeExpiry codes s
  | .fogRawChange active => Sys2Proof.Machine.execFogRawChange active s
  | .fogLevelChange codes => Sys2Proof.Machine.execFogLevelChange codes s
  | .rampTimerExpiry codes => Sys2Proof.Machine.execRampTimerExpiry codes s
  | .holdTimerExpiry codes => Sys2Proof.Machine.execHoldTimerExpiry codes s
  | .trimTimerExpiry codes => Sys2Proof.Machine.execTrimTimerExpiry codes s
  | .slotExpiry codes kind => Sys2Proof.Machine.execSlotExpiry codes kind s
  | .panelSilenceExpiry codes => Sys2Proof.Machine.execPanelSilenceExpiry codes s
  | .statisticsSecond => Sys2Proof.Machine.execStatisticsSecond s
  | .powerOnReset => Sys2Proof.Machine.execPowerOnReset s
  | .externalReset => Sys2Proof.Machine.execExternalReset s
  | .resetRelease straps => Sys2Proof.Machine.execResetRelease straps s
  | .optionReadDone codes bytes => Sys2Proof.Machine.execOptionReadDone codes bytes s
  | .optionReadFailed cause => Sys2Proof.Machine.execOptionReadFailed cause s
  | .startBit => Sys2Proof.Machine.execStartBit s

end Sys2Proof.Machine
end

