-- ==== Sys2Proof/Machine/Idle.lean ====
section
/-! DEFINITION. What the station does by itself when no command waits (entry 2): a frame start that is due, else the expiry
of a timer that has run out, else one millisecond passes. -/

namespace Sys2Proof.Machine

/-- A timer that has run out. -/
def Timer.due (t : Timer) : Bool := t == some 0

/-- One millisecond off a running timer. -/
def Timer.tick (t : Timer) : Timer := t.map (· - 1)

/-- The expiry of one timer, when it is due. -/
def dueTimer (t : Timer) (c : Instr) : List Instr := if Timer.due t then [c] else []

def MinTimer.left : MinTimer → Timer
  | .clear => none
  | .afterOn n => some n
  | .afterOff n => some n

def ReturnTimer.left : ReturnTimer → Timer
  | .running n => some n
  | .stopped | .expired => none

/-- The expiry of the phase timer, by the state it runs in (R112). -/
def phaseExpiry (codes : Sensors) : DefrostState → Instr
  | .ramp => .rampTimerExpiry codes
  | .hold => .holdTimerExpiry codes
  | .trim | .off | .waiting | .paused => .trimTimerExpiry codes

/-- The expiries of the stages' minimum timers, stage 1 first. -/
def dueStages (codes : Sensors) (stages : List Stage) : List Instr :=
  (stages.zip [0, 1, 2, 3]).flatMap (fun p => dueTimer p.1.timer.left (.stageMinimumTimerExpiry codes p.2))

/-- The expiries of the silence ages and of the spill timers. -/
def dueAges (ages : List Age) : List Instr :=
  ages.flatMap (fun a => dueTimer a.left (.silenceAgeLimit (Fin.ofNat 8 a.station)))

def dueSpills (codes : Sensors) (spill : List SpillEntry) : List Instr :=
  spill.flatMap (fun e => dueTimer e.timer (.spillTimerExpiry codes (Fin.ofNat 8 e.station)))

/-- The expiries of the override slots. -/
def dueSlots (codes : Sensors) (o : Overrides) : List Instr :=
  [OverrideKind.setpointOffset, .fanForce, .zoneOff, .boostInhibit, .economy, .defrostMode].flatMap (fun k =>
    dueTimer (o.expiry k) (.slotExpiry codes k))

/-- Every expiry that is due, in the model's order (entry 2). -/
def State.dueExpiries (s : State) : List Instr :=
  let codes := s.pins.sensors
  dueTimer s.supply.debounce (.lineLevelChange codes) ++ dueTimer s.supply.settle (.settleTimerExpiry codes)
    ++ dueTimer s.supply.rideThrough (.rideThroughExpiry codes) ++ dueTimer s.supply.qualify (.qualifyTimerExpiry codes)
    ++ dueTimer s.doors.door0.debounce (.doorLevelChange codes 0)
    ++ dueTimer s.doors.door1.debounce (.doorLevelChange codes 1)
    ++ dueTimer s.doors.door0.longOpen (.longOpenExpiry codes 0)
    ++ dueTimer s.doors.door1.longOpen (.longOpenExpiry codes 1)
    ++ dueTimer s.doors.tail (.tailTimerExpiry codes) ++ dueSpills codes s.doors.spill
    ++ dueTimer s.doors.outdoorAge (.outdoorAgeExpiry codes)
    ++ dueTimer s.defrost.fogDebounce (.fogLevelChange codes)
    ++ dueTimer s.defrost.phase (phaseExpiry codes s.defrost.state)
    ++ dueSlots codes s.overrides ++ dueTimer s.overrides.panelSilence (.panelSilenceExpiry codes)
    ++ dueTimer s.member.census (.censusTimerExpiry codes) ++ dueTimer s.member.catchUp (.catchUpTimerExpiry codes)
    ++ dueAges s.member.ages ++ dueTimer s.share.leaseTimer .leaseTimerExpiry
    ++ dueStages codes s.zone.stages ++ dueTimer s.zone.period (.periodicEvaluation codes)
    ++ dueTimer s.share.spacingTimer .claimSpacingExpiry
    ++ dueTimer s.share.returnTimer.left .returnTimerExpiry
    ++ dueTimer s.member.statusPeriod .statusPeriodExpiry ++ dueTimer s.stats.second .statisticsSecond
    ++ dueTimer s.bus.mute .muteTimerExpiry ++ dueTimer s.bus.idleWait .busIdle2ms

/-- The event that is due by itself. -/
def State.nextDue (s : State) : Option Instr := if s.mayStart then some .frameStart else s.dueExpiries.head?

/-! ## One millisecond -/

def MinTimer.tick : MinTimer → MinTimer
  | .clear => .clear
  | .afterOn n => .afterOn (n - 1)
  | .afterOff n => .afterOff (n - 1)

def ReturnTimer.tick : ReturnTimer → ReturnTimer
  | .running n => .running (n - 1)
  | .stopped => .stopped
  | .expired => .expired

def Door.tick (d : Door) : Door := { d with debounce := Timer.tick d.debounce, longOpen := Timer.tick d.longOpen }

def Slot.tick {α : Type} (slot : Option (Slot α)) : Option (Slot α) :=
  slot.map (fun x => { x with expiry := Timer.tick x.expiry })

def Overrides.tick (o : Overrides) : Overrides :=
  { setpointOffset := Slot.tick o.setpointOffset, fanForce := Slot.tick o.fanForce, zoneOff := Slot.tick o.zoneOff,
    boostInhibit := Slot.tick o.boostInhibit, economy := Slot.tick o.economy, defrostMode := Slot.tick o.defrostMode,
    panelSilence := Timer.tick o.panelSilence }

def DoorUnit.tick (d : DoorUnit) : DoorUnit :=
  { d with
    door0 := d.door0.tick, door1 := d.door1.tick, tail := Timer.tick d.tail, outdoorAge := Timer.tick d.outdoorAge
    spill := d.spill.map (fun e => { e with timer := Timer.tick e.timer }) }

def Membership.tick (m : Membership) : Membership :=
  { m with
    census := Timer.tick m.census, catchUp := Timer.tick m.catchUp, statusPeriod := Timer.tick m.statusPeriod
    ages := m.ages.map (fun a => { a with left := Timer.tick a.left }) }

/-- Every running timer is one millisecond nearer its end. -/
def passMillisecond (s : State) : State :=
  { s with
    share := { s.share with
      leaseTimer := Timer.tick s.share.leaseTimer, spacingTimer := Timer.tick s.share.spacingTimer
      returnTimer := s.share.returnTimer.tick }
    supply := { s.supply with
      debounce := Timer.tick s.supply.debounce, settle := Timer.tick s.supply.settle
      rideThrough := Timer.tick s.supply.rideThrough, qualify := Timer.tick s.supply.qualify }
    zone := { s.zone with
      stages := s.zone.stages.map (fun g => { g with timer := g.timer.tick }), period := Timer.tick s.zone.period }
    doors := s.doors.tick
    defrost := { s.defrost with
      phase := Timer.tick s.defrost.phase, fogDebounce := Timer.tick s.defrost.fogDebounce }
    overrides := s.overrides.tick
    member := s.member.tick
    bus := { s.bus with mute := Timer.tick s.bus.mute, idleWait := Timer.tick s.bus.idleWait }
    stats := { s.stats with second := Timer.tick s.stats.second } }

end Sys2Proof.Machine
end

