-- ==== Sys2Proof/Machine/Step.lean ====
section
/-! DEFINITION. One step of the station: the command at the front of the queue, or, when none waits, what the station does
by itself (entry 2). -/

namespace Sys2Proof.Machine

/-- On an empty queue: the event that is due, else one millisecond passes (entry 2). -/
def idleStep (s : State) : Host.Outcome State Fault Refusal :=
  match s.nextDue with
  | some c => exec c s
  | none => .next (passMillisecond s)

/-- The three outcomes of a step. -/
def step (s : State) : Host.Outcome State Fault Refusal :=
  match s.pending with
  | c :: rest => exec c { s with pending := rest }
  | [] => idleStep s

/-- A state with the command of a table word put in front of its queue; no row of the table gives a word, so none is
(entry 2). -/
def State.withFetchWord (s : State) (nbits w : Nat) : State :=
  match decodeTableWord nbits w with
  | some c => { s with pending := c :: s.pending }
  | none => s

end Sys2Proof.Machine
end

