-- ==== Sys2Proof/Safety.lean ====
section
/-! DEFINITION. The laws of the manual that hold in every state a station comes to: what a state must satisfy to be a state
of the station. Each is a decidable statement about one state; that every step keeps them is stated in the obligations. -/

namespace Sys2Proof.Machine

/-- R3: in every row owed and safety are within borrowed. -/
abbrev RowsLaw (t : ShareTable) : Prop :=
  ∀ r ∈ t.rows, r.owed ≤ r.borrowed ∧ r.safety ≤ r.borrowed

/-- R9, R10: the held part is within the pool, except in a table marked overdrawn. -/
abbrev HeldLaw (t : ShareTable) : Prop := t.overdrawn = true ∨ t.held ≤ t.pool

/-- The usable units of all rows together (R8). -/
def ShareTable.usableSum (t : ShareTable) : Nat := (t.rows.map t.usableOf).sum

/-- R9: under a CURRENT lease usable and held units together stay within the allowance, except while overdrawn. -/
abbrev AllowanceLaw (t : ShareTable) : Prop :=
  t.leaseState = .current → t.overdrawn = true ∨ t.usableSum + t.held ≤ t.allowance

/-- R27: at most one entry per station, of 1 to 63 units, and only for PRESENT rows. -/
abbrev ClaimQueueLaw (t : ShareTable) : Prop :=
  (t.queue.map (·.station)).Nodup ∧ ∀ e ∈ t.queue, 1 ≤ e.units ∧ e.units ≤ 63 ∧ (t.rowOf e.station).state = .present

/-- R2: an ABSENT row holds nothing. -/
abbrev AbsentLaw (t : ShareTable) : Prop :=
  ∀ r ∈ t.rows, r.state = .absent → r.borrowed = 0 ∧ r.safety = 0 ∧ r.owed = 0

/-- R1: no two rows for one station number. -/
abbrev StationsLaw (t : ShareTable) : Prop := (t.rows.map (·.station)).Nodup

/-- R1, R4, R5, R27: the widths of what the table holds. -/
abbrev WidthLaw (t : ShareTable) : Prop :=
  t.reserved ≤ 248 ∧ t.allowance ≤ 255 ∧ t.fallback ≤ 255 ∧ (∀ r ∈ t.rows, r.borrowed ≤ 255) ∧
    ∀ e ∈ t.queue, e.standing ≤ 255

/-- R10: a table is marked overdrawn only while its held part exceeds its pool. With `HeldLaw` the flag is exactly that. -/
abbrev FlagLaw (t : ShareTable) : Prop := t.overdrawn = true → t.pool < t.held

/-- R40: the rows stand in the recall order; R28: the claim queue stands in its order. -/
abbrev OrderLaw (t : ShareTable) : Prop :=
  t.rows.Pairwise (fun a b => a.recalledBefore b = true) ∧ t.queue.Pairwise (fun a b => a.before b = true)

/-- What every share table satisfies (R1 to R5, R9, R10, R27, R28, R40). -/
abbrev TableLaw (t : ShareTable) : Prop :=
  StationsLaw t ∧ RowsLaw t ∧ AbsentLaw t ∧ ClaimQueueLaw t ∧ HeldLaw t ∧ FlagLaw t ∧ OrderLaw t ∧ WidthLaw t

/-- A table is in force exactly when the membership state is one of the six that follow a successful load (R144, R193). -/
abbrev PhaseLaw (s : State) : Prop := s.running = (s.loader.phase == .loaded)

/-- R83: the station load never exceeds spendable, and is zero while the loads are not allowed. -/
abbrev LoadLaw (s : State) : Prop :=
  if s.loadsAllowed then s.stationLoad ≤ s.spendable else s.stationLoad = 0

/-- R49: aside is never less than the own owed nor more than the own borrowed. -/
abbrev AsideLaw (s : State) : Prop :=
  s.running = true → s.ownRow.owed ≤ s.share.aside ∧ s.share.aside ≤ s.ownRow.borrowed

/-- R94: the one-shot is IDLE whenever a BOOST_INHIBIT slot is active. -/
abbrev BoostLaw (s : State) : Prop := s.overrides.boostInhibit.isSome = true → s.doors.oneShot = .idle

/-- R171: at most one transmit entry per kind. -/
abbrev TransmitLaw (s : State) : Prop := (s.bus.queue.map (·.kind)).Nodup

/-- R145: a station that is not IN_STEP has no CLAIM, LAPSE or EXPEL waiting, but for one whose frame is in flight, and
none of these is renewed. -/
abbrev SendLaw (s : State) : Prop :=
  s.inStep = false →
    (∀ e ∈ s.bus.queue, e.kind ∈ [TxKind.claim, .lapse, .expel] → s.flying e.kind = true) ∧
      (s.bus.inFlight.all (fun f => decide (f.kind ∈ [TxKind.claim, .lapse, .expel] → f.renewal = none)) = true)

/-- R174: the own-failure count runs from 0 to 16. -/
abbrev FailureLaw (s : State) : Prop := s.bus.failures ≤ 16

/-- R204: four stage outputs; the fan level fits FAN0 and FAN1, and the defrost load, which is at most the defrost units (R112,
R113), fits DEFLOAD0 to DEFLOAD4. -/
abbrev PinLaw (s : State) : Prop :=
  s.zone.stages.length = 4 ∧ s.zone.fan ≤ 3 ∧ (∀ x, s.overrides.fanForce = some x → x.value ≤ 3) ∧
    s.loader.vt.trimUnits ≤ s.loader.vt.defrostUnits ∧ s.loader.vt.defrostUnits ≤ 31

/-- R158, R175, R195, R196: without a loaded table no stage is ON, the fan is off, nothing is driven on the bus, and the membership
state is UNCONFIGURED after a failed load and undecided before. -/
abbrev QuietLaw (s : State) : Prop :=
  s.loader.phase ≠ .loaded →
    (∀ g ∈ s.zone.stages, g.on = false) ∧ s.zone.fan = 0 ∧ s.bus.drive = .released ∧
      s.member.state = if s.loader.phase = .failed then .unconfigured else .undecided

/-! ## What the statements about frames speak of -/

/-- Steps 4 and 5 of R11, with the flag evaluated again at the end of the taking (R10; entry 10, DEDUCED). -/
def ShareTable.roundServed (t : ShareTable) : ShareTable :=
  ((t.evaluateOverdrawn false).serviceRound).evaluateOverdrawn false

/-- R27, R152: the table after another table tag was seen: a station's own entry is removed and, when there was one, a service
round follows. That it is removed after the round of the sender's row (R21, R22), and not before one common round, is the model's
choice (entry 45, DESIGN CHOICE). -/
def ShareTable.withoutEntryOf (me : Nat) (t : ShareTable) : ShareTable :=
  if t.hasEntry me = true then ({ t with queue := dropEntry me t.queue } : ShareTable).roundServed else t

/-- The completed frame that a command is: its codes, address and bulletin. -/
def frameOf : Instr → Option (Sensors × BitVec 4 × Bulletin)
  | .allowance codes address units leaseTime fallback tag => some (codes, address, .allowance units leaseTime fallback tag)
  | .lapse codes address tag => some (codes, address, .lapse tag)
  | .expel codes address station => some (codes, address, .expel station)
  | .join codes address tag => some (codes, address, .join tag)
  | .status codes address payload => some (codes, address, .status payload)
  | .claim codes address units rank => some (codes, address, .claim units rank)
  | .ret codes address units safetyUnits => some (codes, address, .ret units safetyUnits)
  | .draft codes address active => some (codes, address, .draft active)
  | .override codes address kind mask value duration => some (codes, address, .override kind mask value duration)
  | .cancel codes address kind mask => some (codes, address, .cancel kind mask)
  | .snapshot codes address => some (codes, address, .snapshot)
  | .query codes address target item flags => some (codes, address, .query target item flags)
  | .report codes address data => some (codes, address, .report data)
  | .unknownKindFrame codes address kind => some (codes, address, .unknown kind)
  | _ => none

/-- A frame of the station's own bears what the station built at its start (R168). -/
abbrev State.hears (s : State) (address : BitVec 4) (b : Bulletin) : Prop :=
  (s.ownFrame address.toNat b).all (fun f => f.bulletin == b) = true

/-- A kind waits in the transmit queue or is in flight. -/
abbrev State.sending (s : State) (kind : TxKind) : Prop := s.hasTx kind = true ∨ s.flying kind = true

/-- R44: RECALLS counts one when a taking without a RETURN or a statement of the own row raised the own owed. -/
abbrev RecallsCounted (s t : State) : Prop :=
  t.stats.counters.recalls =
    if s.ownRow.owed < t.ownRow.owed then bumped s.loader.vt.counterFreeze 1 s.stats.counters.recalls
    else s.stats.counters.recalls

/-- R116: RAMP with its timer, or HOLD at once when the screen reading is known and at or above the clear temperature. -/
abbrev DefrostRamps (s t : State) : Prop :=
  ((∃ x, s.defrost.screen = some x ∧ s.loader.vt.clearTemp ≤ x) →
      t.defrost = { s.defrost with state := .hold, phase := some s.loader.vt.holdTime }) ∧
    (¬(∃ x, s.defrost.screen = some x ∧ s.loader.vt.clearTemp ≤ x) →
      t.defrost = { s.defrost with state := .ramp, phase := some s.loader.vt.rampLimit })

/-- R114: the defrost is wanted. -/
abbrev DefrostWanted (s : State) : Prop :=
  s.defrostMode = .max ∨
    (s.defrostMode = .auto ∧ s.defrost.fog = true ∧ ∀ x, s.doors.outdoor = some x → x < s.loader.vt.autoThreshold)

/-- R114, R120: what the defrost unit does when the supply is not LIVE after a change of its state. -/
abbrev DefrostPauses (s t : State) : Prop :=
  (s.isCab = false ∨ s.defrost.state = .paused → t.defrost = s.defrost) ∧
    (s.isCab = true → s.defrost.state = .waiting ∨ s.defrost.state = .ramp ∨ s.defrost.state = .hold →
      t.defrost = { s.defrost with state := .paused, phase := none, pausedKept := s.loader.vt.defrostUnits }) ∧
    (s.isCab = true → s.defrost.state = .trim →
      t.defrost = { s.defrost with state := .paused, phase := none, pausedKept := s.loader.vt.trimUnits }) ∧
    (s.isCab = true → s.defrost.state = .off →
      (DefrostWanted s → t.defrost = { s.defrost with state := .paused, phase := none, pausedKept := 0 }) ∧
        (¬DefrostWanted s → t.defrost = s.defrost))

/-- R114, R115, R121: what the defrost unit does when the supply becomes LIVE. -/
abbrev DefrostResumes (s t : State) : Prop :=
  (s.isCab = false ∨ (s.defrost.state = .paused ∧ s.member.state = .clash) → t.defrost = s.defrost) ∧
    (s.isCab = true → s.member.state ≠ .clash → s.defrost.state = .paused ∨ s.defrost.state = .off → DefrostWanted s →
      (s.loader.vt.defrostUnits ≤ s.safetyHeld → DefrostRamps s t) ∧
        (s.safetyHeld < s.loader.vt.defrostUnits →
          t.defrost = { s.defrost with state := .waiting, phase := none })) ∧
    (s.isCab = true → s.member.state ≠ .clash → s.defrost.state = .paused ∨ s.defrost.state = .off → ¬DefrostWanted s →
      t.defrost.state = .off ∧ (s.defrost.state = .paused → t.defrost.phase = none))

/-- R115, R119: what the taking of a bulletin makes of the defrost unit; `cleared` says that it set the own row's holdings
to 0. -/
abbrev DefrostSees (cleared : Prop) (s t : State) : Prop :=
  (s.isCab = false ∨ s.defrost.state = .off ∨ s.defrost.state = .paused → t.defrost = s.defrost) ∧
    (s.isCab = true → s.defrost.state = .waiting →
      (s.loader.vt.defrostUnits ≤ t.safetyHeld → DefrostRamps s t) ∧
        (t.safetyHeld < s.loader.vt.defrostUnits → t.defrost = s.defrost)) ∧
    (s.isCab = true → s.defrost.state = .ramp ∨ s.defrost.state = .hold ∨ s.defrost.state = .trim →
      ((cleared ∨ s.ownRow.owed < t.ownRow.owed) ∧ t.safetyHeld < s.safetyKept →
          t.safetyHeld < s.loader.vt.defrostUnits →
          t.defrost = { s.defrost with state := .waiting, phase := none }) ∧
        (¬((cleared ∨ s.ownRow.owed < t.ownRow.owed) ∧ t.safetyHeld < s.safetyKept) → t.defrost = s.defrost))

/-- R114: what the check makes of a unit in OFF; `r` is the state it looks at. -/
abbrev DefrostChecked (r t : State) : Prop :=
  (¬DefrostWanted r → t.defrost = r.defrost) ∧
    (DefrostWanted r →
      (r.live = true → r.member.state ≠ .clash →
        (r.safetyHeld < r.loader.vt.defrostUnits →
            t.defrost = { r.defrost with state := .waiting, phase := none }) ∧
          (r.loader.vt.defrostUnits ≤ r.safetyHeld → DefrostRamps r t)) ∧
        (r.live = false ∨ r.member.state = .clash →
          t.defrost = { r.defrost with state := .paused, phase := none, pausedKept := 0 }))

/-- R104: the DRAFT after an event that may move the one-shot: at a change between IDLE and active one waits or is in flight when
the activity is not what was last stated, and none waits when it is; at no such change what waits stays. -/
abbrev DraftFollowsOneShot (s t : State) : Prop :=
  ((s.doors.oneShot = .idle ↔ t.doors.oneShot = .idle) → t.hasTx .draft = s.hasTx .draft) ∧
    (¬(s.doors.oneShot = .idle ↔ t.doors.oneShot = .idle) →
      ((s.doors.lastStated = true ↔ t.doors.oneShot = .idle) → s.member.state ≠ .clash → t.sending .draft) ∧
        (¬(s.doors.lastStated = true ↔ t.doors.oneShot = .idle) → s.flying .draft = false →
          t.hasTx .draft = false))

/-- R101, R110, R114 to R116: what a periodic evaluation makes of the defrost unit; `r` is the state with the readings taken. -/
abbrev DefrostReads (s r t : State) : Prop :=
  (s.isCab = false → t.defrost = s.defrost) ∧
    (s.isCab = true →
      (s.defrost.state = .off →
        (r.doors.outdoor = s.doors.outdoor → t.defrost = r.defrost) ∧
          (r.doors.outdoor ≠ s.doors.outdoor → DefrostChecked r t)) ∧
        (s.defrost.state = .waiting →
          (s.safetyHeld < s.loader.vt.defrostUnits → t.defrost = r.defrost) ∧
            (s.loader.vt.defrostUnits ≤ s.safetyHeld → DefrostRamps r t)) ∧
        (s.defrost.state = .ramp →
          ((∃ x, r.defrost.screen = some x ∧ s.loader.vt.clearTemp ≤ x) →
              t.defrost = { r.defrost with state := .hold, phase := some s.loader.vt.holdTime }) ∧
            (¬(∃ x, r.defrost.screen = some x ∧ s.loader.vt.clearTemp ≤ x) → t.defrost = r.defrost)) ∧
        (s.defrost.state = .hold ∨ s.defrost.state = .trim ∨ s.defrost.state = .paused → t.defrost = r.defrost))

/-! ## What the statements about evaluations speak of

In each of them `e` is the state that the event's evaluation begins from, and `t` the state after the event. -/

/-- R83, R84: the stages after the cut that precedes an evaluation, against the air limit that the bounds of aside leave (R49;
entry 29, DEDUCED). -/
def State.stagesCut (e : State) : List Stage :=
  if e.live = true ∧ e.member.state ≠ .clash then
    forced e.loader.vt.stageMinimum (applyBounds e).airLimit e.zone.stages
  else
    e.zone.stages.map (fun g =>
      if g.on = true then { g with on := false, timer := .afterOff e.loader.vt.stageMinimum } else g)

/-- R49 to R52: the bounds of aside, then reclaim or set-aside with the load that the cut has left. -/
def State.asideDecided (e : State) : State := adjustAside e (setStages e.stagesCut (applyBounds e))

/-- R54: the CLAIM that waits, or does not, after the wish has been decided. -/
abbrev ClaimFollowsWish (t : State) : Prop :=
  (t.member.state ≠ .inStep ∨ t.wishMatches = true ∨ t.entryStands = true →
      t.flying .claim = false → t.hasTx .claim = false) ∧
    (t.member.state = .inStep → t.wishMatches = false → t.entryStands = false →
      (t.share.wishUnits = 0 → t.sending .claim) ∧
        (0 < t.share.wishUnits →
          t.live = false ∨ t.table.leaseState ≠ .current ∨ t.share.leaseExpired = true ∨
            (t.share.wishRank ≠ .safety ∧ t.share.spacingTimer.isSome = true) →
          t.flying .claim = false → t.hasTx .claim = false) ∧
        (0 < t.share.wishUnits → t.live = true → t.table.leaseState = .current → t.share.leaseExpired = false →
          t.share.wishRank = .safety ∨ t.share.spacingTimer = none → t.sending .claim))

/-- R57: the triggers that stand by themselves, or by a rise of aside, at a share evaluation. -/
abbrev ReturnDue (e t : State) : Prop :=
  t.supply.state = .shed ∨ t.loader.vt.returnBatch ≤ t.share.aside ∨ t.share.returnTimer = .expired ∨
    (t.table.queue ≠ [] ∧ e.share.aside < t.share.aside)

/-- R50 to R54, R57: what a share evaluation decides of aside, wish, CLAIM and RETURN. It rests on the model's readings that every
fall of aside to 0 stops the return timer (entry 7), that a waiting CLAIM whose wish is held is withdrawn (entry 8), of the moments
at which the triggers of R57 act (entry 9) and of the bounds and the cut at the end of every event (entry 29), all DEDUCED, and on
its choices for the safety units (entry 32) and the SAFETY entry (entry 43) of a defrost unit paused in RIDE_THROUGH, both DESIGN
CHOICES. -/
abbrev ShareDecided (e t : State) : Prop :=
  t.share = { e.asideDecided.share with wishUnits := t.wish.1, wishRank := t.wish.2 } ∧ ClaimFollowsWish t ∧
    (ReturnDue e t → 0 < t.share.aside → t.member.state ≠ .clash → t.sending .ret)

/-- What a share evaluation that no taking calls for leaves: what it decides, and no RETURN without a trigger, since the two triggers
that only a taking pulls, a raised own owed and a table that becomes congested, are out (R57; entry 9). -/
abbrev ShareEvaluated (e t : State) : Prop :=
  ShareDecided e t ∧ (¬ReturnDue e t → t.hasTx .ret = true → e.hasTx .ret = true)

/-- R79 to R81, R83, R84: what a zone evaluation leaves of the stages: cut, cut again against the air limit that the share
evaluation leaves, then switched against the target. -/
abbrev StagesRegulated (e t : State) : Prop :=
  t.airLimit = t.spendable - t.request ∧
    (e.live = true → e.member.state ≠ .clash →
      t.zone.stages =
        switched e.loader.vt.stageMinimum (min t.zone.total t.airLimit) t.airLimit true
          (forced e.loader.vt.stageMinimum t.airLimit e.stagesCut)) ∧
    (e.live = false ∨ e.member.state = .clash → t.zone.stages = e.stagesCut)

/-- R83, R84: what a share evaluation without a zone evaluation leaves of the zone controller. -/
abbrev StagesOnlyCut (e t : State) : Prop :=
  t.airLimit = t.spendable - t.request ∧
    t.zone =
      { e.zone with
        stages :=
          if e.live = true ∧ e.member.state ≠ .clash then
            forced e.loader.vt.stageMinimum t.airLimit e.stagesCut
          else e.stagesCut }

/-- R68, R74 to R76, R86: temperature, fault flag, mode, demand and fan after a zone evaluation. -/
abbrev ZoneMeasured (codes : Sensors) (t : State) : Prop :=
  t.zone.temp =
      zoneTempOf (t.zone.air0.value codes.air0) (t.zone.air1.value codes.air1) (t.zone.air2.value codes.air2) ∧
    t.zone.fault = decide (¬(t.zone.air0.validity = .valid ∧ t.zone.air1.validity = .valid ∧
      t.zone.air2.validity = .valid)) ∧
    t.zone.mode =
      (if t.overrides.zoneOff.isSome = true then .heldOff
      else if t.zone.air0.validity = .valid ∨ t.zone.air1.validity = .valid ∨ t.zone.air2.validity = .valid then .active
      else .limp) ∧
    t.zone.base =
      (match t.zone.mode with
      | .active => activeDemand t.capacity t.entry.gain t.zone.setpoint t.zone.temp
      | .heldOff => 0
      | .limp => min t.capacity t.usable) ∧
    t.zone.total = min t.capacity (t.zone.base + t.boost + t.spillFigure) ∧
    t.zone.fan =
      (match t.overrides.fanForce with
      | some x => x.value
      | none =>
        if t.doors.oneShot = .held then 3
        else if t.doors.oneShot = .tail ∨ t.doors.spill ≠ [] then 2
        else if t.zone.mode = .heldOff then 0
        else if 0 < t.capacity ∧ t.capacity ≤ 2 * t.zone.total then 2
        else 1)

/-- R67: the three sensors after an evaluation that read the codes. -/
abbrev SensorsRead (periodic : Bool) (codes : Sensors) (s t : State) : Prop :=
  t.zone.air0 = s.zone.air0.updated periodic codes.air0 ∧ t.zone.air1 = s.zone.air1.updated periodic codes.air1 ∧
    t.zone.air2 = s.zone.air2.updated periodic codes.air2

/-- The state that the evaluation at the end of a taking begins from: the state before the taking, with what the blocks made of the
bulletin, the own frame in flight no more when it has completed, and the share unit as the taking hands it on. -/
def State.takenInto (s t : State) (share : ShareUnit) : State :=
  { s with
    table := t.table, doors := t.doors, overrides := t.overrides, defrost := t.defrost, member := t.member, share
    bus := { s.bus with inFlight := t.bus.inFlight }
    zone := { s.zone with base := t.zone.base } }

/-- R59: the share unit once an own RETURN of so many units has completed, before the bounds and the share evaluation of R50. -/
def State.returnSettled (s : State) (units : Nat) : ShareUnit :=
  { s.share with
    aside := s.share.aside - units, commit := s.share.commit - units
    returnTimer := if s.share.aside - units = 0 then .stopped else .running s.loader.vt.returnTimer }

/-- R71: what calls for a zone evaluation has changed: own owed or borrowed raised (a recall, a grant), own usable, supply or
membership state, defrost state, request or another figure of it, boost or spill figure. -/
abbrev EvaluationCalled (s t : State) : Prop :=
  s.ownRow.owed < t.ownRow.owed ∨ s.ownRow.borrowed < t.ownRow.borrowed ∨ t.usable ≠ s.usable ∨
    t.supply.state ≠ s.supply.state ∨ t.member.state ≠ s.member.state ∨ t.defrost.state ≠ s.defrost.state ∨
    t.request ≠ s.request ∨ t.safetyKept ≠ s.safetyKept ∨ t.claimFigure ≠ s.claimFigure ∨ t.boost ≠ s.boost ∨
    t.spillFigure ≠ s.spillFigure

/-- R50: what calls for a share evaluation, beside a zone evaluation, has changed: own borrowed, safety or owed, congested, the own
entry (its own fields, not its place in the queue: entry 41, DESIGN CHOICE) or the lease state. -/
abbrev ShareEvaluationCalled (s t : State) : Prop :=
  t.ownRow.borrowed ≠ s.ownRow.borrowed ∨ t.ownRow.safety ≠ s.ownRow.safety ∨ t.ownRow.owed ≠ s.ownRow.owed ∨
    t.table.congested ≠ s.table.congested ∨ t.ownEntry ≠ s.ownEntry ∨ t.table.leaseState ≠ s.table.leaseState

/-- R67, R68, R72 to R76, R79 to R86, with the share evaluation of step 6: a zone evaluation that no period brings. -/
abbrev ZoneEvaluated (codes : Sensors) (s e t : State) : Prop :=
  SensorsRead false codes s t ∧ ZoneMeasured codes t ∧ ShareDecided e t ∧ StagesRegulated e t

/-- R50, R71, R72: the evaluation that a taking calls for; `s` is the state before the taking. -/
abbrev TakingEvaluated (codes : Sensors) (s e t : State) : Prop :=
  (EvaluationCalled s t → ZoneEvaluated codes s e t) ∧ (ShareEvaluationCalled s t → ShareDecided e t)

/-- R148: catch-up at the end of a taking: complete exactly when every other PRESENT row is heard and there is lease news or every
noted lease tag was 0; complete, the timer stops, and a lease that has expired locally queues a LAPSE (R149). -/
abbrev CatchUpFollows (s t : State) : Prop :=
  s.member.state = .catchingUp → t.member.state = .catchingUp ∨ t.member.state = .inStep →
    (t.member.state = .inStep ↔
        (∀ x ∈ t.table.rows, x.state = .present → x.station ≠ s.me → ∃ h ∈ t.member.heard, h.station = x.station) ∧
          (t.member.leaseNews = true ∨ ∀ h ∈ t.member.heard, h.tagZero = true)) ∧
      (t.member.state = .inStep → t.member.catchUp = none ∧ (t.share.leaseExpired = true → t.sending .lapse)) ∧
      (t.member.state = .catchingUp → t.member.catchUp = s.member.catchUp)

/-- R69, R70, R122, R132, R136 to R139, R141: what the other blocks make of slots that emptied in an event; a slot that emptied
leaves the one-shot as it is, and gives no other mode than AUTO. The evaluation sees the membership state after the event, which
the taking of a CANCEL can move from CATCHING_UP to IN_STEP (R148). -/
abbrev SlotsHandedOn (codes : Sensors) (s t : State) : Prop :=
  t.doors = s.doors ∧
    ({ t.overrides with panelSilence := none } = { s.overrides with panelSilence := none } →
      t.zone.setpoint = s.zone.setpoint ∧
        (s.isCab = false ∨ s.defrost.state ≠ .waiting ∨ s.safetyHeld < s.loader.vt.defrostUnits →
          t.defrost = s.defrost)) ∧
    ({ t.overrides with panelSilence := none } ≠ { s.overrides with panelSilence := none } →
      t.zone.setpoint =
          some (max 20 (min 56 (s.entry.baseSetpoint +
            match t.overrides.setpointOffset with
            | some x => x.value
            | none => 0))) ∧
        t.zone.pendingFlag = (s.zone.pendingFlag || t.zone.setpoint != s.zone.setpoint) ∧
        SensorsRead false codes s t ∧ ZoneMeasured codes t ∧
        ShareEvaluated
          { s with
            overrides := t.overrides, defrost := t.defrost, member := t.member
            zone := { s.zone with base := t.zone.base } } t ∧
        StagesRegulated { s with overrides := t.overrides, defrost := t.defrost, member := t.member } t ∧
        (s.isCab = false ∨ s.defrost.state ≠ .off ∨ t.defrostMode = s.defrostMode → DefrostSees False s t) ∧
        (s.isCab = true → s.defrost.state = .off → t.defrostMode ≠ s.defrostMode →
          t.defrostMode = .auto ∧ DefrostChecked { s with overrides := t.overrides } t))

/-! ## What the statement about the vehicle table speaks of -/

/-- R203: the global fields that the bytes of an image spell. -/
abbrev SpellsFields (image : List Byte) (vt : VehicleTable) : Prop :=
  vt.check.toNat = 256 * (image.getD 0 0).toNat + (image.getD 1 0).toNat ∧
    vt.roster.length = (image.getD 2 0).toNat ∧
    [250, 500, 1000, 2000, 4000][(image.getD 3 0).toNat]? = some vt.rideThrough ∧
    [1, 2, 4, 8][(image.getD 4 0).toNat]? = some vt.returnBatch ∧
    [500, 1000, 2000, 4000][(image.getD 5 0).toNat]? = some vt.returnTimer ∧
    [1000, 2000, 4000][(image.getD 6 0).toNat]? = some vt.claimSpacing ∧
    [5000, 10000, 20000, 30000][(image.getD 7 0).toNat]? = some vt.stageMinimum ∧
    [20, 40, 80, 160][(image.getD 8 0).toNat]? = some vt.debounce ∧
    vt.longOpen = 1000 * (image.getD 9 0).toNat ∧
    [5000, 10000, 15000, 20000][(image.getD 10 0).toNat]? = some vt.tailBase ∧
    vt.spillLimit = 1000 * (image.getD 11 0).toNat ∧
    vt.defrostUnits = (image.getD 12 0).toNat ∧ vt.trimUnits = (image.getD 13 0).toNat ∧
    vt.clearTemp = (image.getD 14 0).toInt ∧ vt.autoThreshold = (image.getD 15 0).toInt ∧
    vt.rampLimit = 60000 * (image.getD 16 0).toNat ∧ vt.holdTime = 60000 * (image.getD 17 0).toNat ∧
    vt.trimTime = 60000 * (image.getD 18 0).toNat ∧
    vt.counterFreeze = decide ((image.getD 19 0).toNat = 1) ∧
    vt.attentionMask.getLsbD Counter.energy.place = (image.getD 21 0).getLsbD 0 ∧
    vt.attentionMask.getLsbD Counter.waitSeconds.place = (image.getD 21 0).getLsbD 1 ∧
    vt.attentionMask.getLsbD Counter.recalls.place = (image.getD 21 0).getLsbD 2 ∧
    vt.attentionMask.getLsbD Counter.linkFails.place = (image.getD 21 0).getLsbD 3 ∧
    vt.attentionMask.getLsbD Counter.repairs.place = (image.getD 21 0).getLsbD 4 ∧
    vt.attentionMask.getLsbD Counter.door0Opens.place = (image.getD 21 0).getLsbD 5 ∧
    vt.attentionMask.getLsbD Counter.door0Seconds.place = (image.getD 21 0).getLsbD 6 ∧
    vt.attentionMask.getLsbD Counter.door1Opens.place = (image.getD 21 0).getLsbD 7 ∧
    vt.attentionMask.getLsbD Counter.door1Seconds.place = (image.getD 20 0).getLsbD 0

/-- R203: the roster entry that the nine bytes from an address on spell. -/
abbrev SpellsEntry (image : List Byte) (a : Nat) (e : RosterEntry) : Prop :=
  e.station = (image.getD a 0).toNat ∧
    e.role = (if (image.getD (a + 1) 0).getLsbD 7 = true then .cab else .saloon) ∧
    [0, 1, 2, 4, 8][((image.getD (a + 1) 0).extractLsb' 4 3).toNat]? = some e.weight ∧
    e.gain = ((image.getD (a + 1) 0).extractLsb' 2 2).toNat + 1 ∧
    e.doorCount = ((image.getD (a + 1) 0).extractLsb' 0 2).toNat ∧
    e.dedicated = (image.getD (a + 2) 0).toNat ∧
    e.neighbours = [(image.getD (a + 3) 0).toNat, (image.getD (a + 4) 0).toNat].filter (fun n => n != 255) ∧
    e.baseSetpoint = (image.getD (a + 5) 0).toInt ∧
    e.sizes =
      [((image.getD (a + 6) 0).extractLsb' 4 4).toNat, ((image.getD (a + 6) 0).extractLsb' 0 4).toNat,
        ((image.getD (a + 7) 0).extractLsb' 4 4).toNat, ((image.getD (a + 7) 0).extractLsb' 0 4).toNat] ∧
    e.doorBoost = (image.getD (a + 8) 0).toNat

/-- The kinds that the share table takes (R11). -/
def Bulletin.forTable : Bulletin → Bool
  | .allowance .. | .lapse .. | .expel .. | .join .. | .status .. | .claim .. | .ret .. => true
  | .draft .. | .override .. | .cancel .. | .snapshot | .query .. | .report .. | .unknown _ => false

/-- The commands of the start-up, which alone change what the loader holds (R190 to R196). -/
def startsUp : Instr → Bool
  | .powerOnReset | .externalReset | .resetRelease _ | .optionReadDone .. | .optionReadFailed _ => true
  | _ => false

end Sys2Proof.Machine
end

