-- ==== Sys2Proof/Certificates/Slice0/Obligations.lean ====
section
/-! DEFINITION. The statements for the provers. Each docstring names the rule of the manual a statement follows; where it
rests on a choice of the model, the docstring names the entry of notes/assumptions. -/

section

open Sys2Proof Sys2Proof.Machine

/-! ## Steps -/

/-- A step takes the command at the front of the queue and is that command on the rest of the queue. -/
def Obligations.StepRunsFrontCommand : Prop :=
  ∀ (c : Instr) (rest : List Instr) (s : State), s.pending = c :: rest → step s = exec c { s with pending := rest }

/-- On an empty queue the station makes the event that is due, a frame start first, and else lets one millisecond pass; an
expiry is due exactly when its timer stands at 0, and a millisecond takes 1 off every running timer, starts and stops none, and
changes nothing else: all of it the model's choice (entry 2, DESIGN CHOICE). -/
def Obligations.EmptyQueueStep : Prop :=
  (∀ s : State, s.pending = [] →
    (∀ c, s.nextDue = some c → step s = exec c s) ∧ (s.nextDue = none → step s = .next (passMillisecond s))) ∧
  (∀ s : State,
    (s.mayStart = true → s.nextDue = some .frameStart) ∧
      (s.mayStart = false → s.nextDue = s.dueExpiries.head?) ∧
      (s.nextDue = none ↔ s.mayStart = false ∧ ∀ c, c ∉ s.dueExpiries)) ∧
  (∀ (s : State) (c : Instr), c ∈ s.dueExpiries ↔
    (s.supply.debounce = some 0 ∧ c = .lineLevelChange s.pins.sensors) ∨
    (s.supply.settle = some 0 ∧ c = .settleTimerExpiry s.pins.sensors) ∨
    (s.supply.rideThrough = some 0 ∧ c = .rideThroughExpiry s.pins.sensors) ∨
    (s.supply.qualify = some 0 ∧ c = .qualifyTimerExpiry s.pins.sensors) ∨
    (s.doors.door0.debounce = some 0 ∧ c = .doorLevelChange s.pins.sensors 0) ∨
    (s.doors.door1.debounce = some 0 ∧ c = .doorLevelChange s.pins.sensors 1) ∨
    (s.doors.door0.longOpen = some 0 ∧ c = .longOpenExpiry s.pins.sensors 0) ∨
    (s.doors.door1.longOpen = some 0 ∧ c = .longOpenExpiry s.pins.sensors 1) ∨
    (s.doors.tail = some 0 ∧ c = .tailTimerExpiry s.pins.sensors) ∨
    (∃ e ∈ s.doors.spill, e.timer = some 0 ∧ c = .spillTimerExpiry s.pins.sensors (Fin.ofNat 8 e.station)) ∨
    (s.doors.outdoorAge = some 0 ∧ c = .outdoorAgeExpiry s.pins.sensors) ∨
    (s.defrost.fogDebounce = some 0 ∧ c = .fogLevelChange s.pins.sensors) ∨
    (s.defrost.phase = some 0 ∧
      (s.defrost.state = .ramp → c = .rampTimerExpiry s.pins.sensors) ∧
      (s.defrost.state = .hold → c = .holdTimerExpiry s.pins.sensors) ∧
      (s.defrost.state ≠ .ramp → s.defrost.state ≠ .hold → c = .trimTimerExpiry s.pins.sensors)) ∨
    (∃ kind, s.overrides.expiry kind = some 0 ∧ c = .slotExpiry s.pins.sensors kind) ∨
    (s.overrides.panelSilence = some 0 ∧ c = .panelSilenceExpiry s.pins.sensors) ∨
    (s.member.census = some 0 ∧ c = .censusTimerExpiry s.pins.sensors) ∨
    (s.member.catchUp = some 0 ∧ c = .catchUpTimerExpiry s.pins.sensors) ∨
    (∃ a ∈ s.member.ages, a.left = some 0 ∧ c = .silenceAgeLimit (Fin.ofNat 8 a.station)) ∨
    (s.share.leaseTimer = some 0 ∧ c = .leaseTimerExpiry) ∨
    (∃ (i : Fin 4) (g : Stage), s.zone.stages[i.val]? = some g ∧ (g.timer = .afterOn 0 ∨ g.timer = .afterOff 0) ∧
      c = .stageMinimumTimerExpiry s.pins.sensors i) ∨
    (s.zone.period = some 0 ∧ c = .periodicEvaluation s.pins.sensors) ∨
    (s.share.spacingTimer = some 0 ∧ c = .claimSpacingExpiry) ∨
    (s.share.returnTimer = .running 0 ∧ c = .returnTimerExpiry) ∨
    (s.member.statusPeriod = some 0 ∧ c = .statusPeriodExpiry) ∨
    (s.stats.second = some 0 ∧ c = .statisticsSecond) ∨
    (s.bus.mute = some 0 ∧ c = .muteTimerExpiry) ∨ (s.bus.idleWait = some 0 ∧ c = .busIdle2ms)) ∧
  (∀ (o : Overrides) (kind : OverrideKind), o.expiry kind =
    match kind with
    | .setpointOffset => o.setpointOffset.bind (·.expiry)
    | .fanForce => o.fanForce.bind (·.expiry)
    | .zoneOff => o.zoneOff.bind (·.expiry)
    | .boostInhibit => o.boostInhibit.bind (·.expiry)
    | .economy => o.economy.bind (·.expiry)
    | .defrostMode => o.defrostMode.bind (·.expiry)) ∧
  ∀ s : State, passMillisecond s =
    { s with
      share := { s.share with
        leaseTimer := s.share.leaseTimer.map (· - 1), spacingTimer := s.share.spacingTimer.map (· - 1)
        returnTimer := match s.share.returnTimer with
          | .running n => .running (n - 1)
          | .stopped => .stopped
          | .expired => .expired }
      supply := { s.supply with
        debounce := s.supply.debounce.map (· - 1), settle := s.supply.settle.map (· - 1)
        rideThrough := s.supply.rideThrough.map (· - 1), qualify := s.supply.qualify.map (· - 1) }
      zone := { s.zone with
        period := s.zone.period.map (· - 1)
        stages := s.zone.stages.map (fun g => { g with
          timer := match g.timer with
            | .clear => .clear
            | .afterOn n => .afterOn (n - 1)
            | .afterOff n => .afterOff (n - 1) }) }
      doors := { s.doors with
        door0 := { s.doors.door0 with
          debounce := s.doors.door0.debounce.map (· - 1), longOpen := s.doors.door0.longOpen.map (· - 1) }
        door1 := { s.doors.door1 with
          debounce := s.doors.door1.debounce.map (· - 1), longOpen := s.doors.door1.longOpen.map (· - 1) }
        tail := s.doors.tail.map (· - 1), outdoorAge := s.doors.outdoorAge.map (· - 1)
        spill := s.doors.spill.map (fun e => { e with timer := e.timer.map (· - 1) }) }
      defrost := { s.defrost with
        phase := s.defrost.phase.map (· - 1), fogDebounce := s.defrost.fogDebounce.map (· - 1) }
      overrides :=
        { setpointOffset := s.overrides.setpointOffset.map (fun x => { x with expiry := x.expiry.map (· - 1) })
          fanForce := s.overrides.fanForce.map (fun x => { x with expiry := x.expiry.map (· - 1) })
          zoneOff := s.overrides.zoneOff.map (fun x => { x with expiry := x.expiry.map (· - 1) })
          boostInhibit := s.overrides.boostInhibit.map (fun x => { x with expiry := x.expiry.map (· - 1) })
          economy := s.overrides.economy.map (fun x => { x with expiry := x.expiry.map (· - 1) })
          defrostMode := s.overrides.defrostMode.map (fun x => { x with expiry := x.expiry.map (· - 1) })
          panelSilence := s.overrides.panelSilence.map (· - 1) }
      member := { s.member with
        census := s.member.census.map (· - 1), catchUp := s.member.catchUp.map (· - 1)
        statusPeriod := s.member.statusPeriod.map (· - 1)
        ages := s.member.ages.map (fun a => { a with left := a.left.map (· - 1) }) }
      bus := { s.bus with mute := s.bus.mute.map (· - 1), idleWait := s.bus.idleWait.map (· - 1) }
      stats := { s.stats with second := s.stats.second.map (· - 1) } }

/-- No command stops the station, also where the event it names cannot occur, and then it changes little or nothing (entries
1 and 2, DESIGN CHOICES); none touches the queue of waiting commands, which is the outside world's also across the two
resets (entry 4, DESIGN CHOICE); and only a reset and the load change what the loader holds (R190, R191). -/
def Obligations.CommandsCompleteAndKeepTheLoad : Prop :=
  ∀ (c : Instr) (s : State),
    ∃ t, exec c s = .next t ∧ t.pending = s.pending ∧ (startsUp c = false → t.loader = s.loader)

/-! ## The share table's own rules -/

/-- R6; R7: free is what the pool has beyond the borrowed units of all rows. -/
def Obligations.PoolSizeByLease : Prop :=
  ∀ t : ShareTable,
    t.free = t.pool - (t.rows.map (·.borrowed)).sum ∧
    (t.leaseState = .noLease → t.pool = 0) ∧ (t.leaseState = .current → t.pool = t.allowance - t.reserved) ∧
      (t.leaseState = .lapsed → t.pool = 0) ∧
      ∀ rows, (rows.map (·.dedicated)).sum = t.reserved → ({ t with rows } : ShareTable).pool = t.pool

/-- R40: what the recall order is, and that the rows a load builds stand in it (that they stay in it is a clause of
TableLawKept); R41: in the first pass a row gives the smaller of what is still to meet after the rows before it and its
free-to-recall units; R45: the claim queue stands. -/
def Obligations.FirstPassGivesInRecallOrder : Prop :=
  (∀ a b : Row, a.recalledBefore b = true ↔ a.weight < b.weight ∨ (a.weight = b.weight ∧ b.station < a.station)) ∧
    (∀ roster : List RosterEntry, (roster.map (·.station)).Nodup →
      (ShareTable.ofRoster roster).rows.Pairwise (fun a b => a.recalledBefore b = true) ∧
        (ShareTable.ofRoster roster).rows.Perm (roster.map rowOfEntry)) ∧
    ∀ (t : ShareTable) (need : Nat) (before after : List Row) (r : Row), t.rows = before ++ r :: after →
      ∃ before' after',
        (t.safetyRecall need).rows =
            before' ++
              { r with
                owed := r.owed + min (need - (before.map (fun x => x.borrowed - x.safety - x.owed)).sum)
                  (r.borrowed - r.safety - r.owed) } :: after' ∧
          before'.length = before.length ∧ after'.length = after.length ∧ (t.safetyRecall need).queue = t.queue

/-- R14, R43: the allowance recall brings the held part down to the pool, raising owed values only: the first pass alone
where the free-to-recall units of all rows meet the shortfall, and else all of these and, row by row, what is then left of
the shortfall from what a row still holds. -/
def Obligations.AllowanceRecallMeetsPool : Prop :=
  ∀ t : ShareTable,
    (RowsLaw t →
      t.recallExcess.held = min t.held t.pool ∧ RowsLaw t.recallExcess ∧ t.recallExcess.queue = t.queue ∧
        t.recallExcess.rows.map (fun r => { r with owed := 0 }) = t.rows.map (fun r => { r with owed := 0 }) ∧
        ∀ p ∈ t.rows.zip t.recallExcess.rows, p.1.owed ≤ p.2.owed) ∧
      (t.held - t.pool ≤ (t.rows.map (fun x => x.borrowed - x.safety - x.owed)).sum →
        t.recallExcess = t.safetyRecall (t.held - t.pool)) ∧
      ((t.rows.map (fun x => x.borrowed - x.safety - x.owed)).sum < t.held - t.pool →
        ∀ (before after : List Row) (r : Row), t.rows = before ++ r :: after →
          ∃ before' after',
            t.recallExcess.rows =
                before' ++
                  { r with
                    owed := r.owed + (r.borrowed - r.safety - r.owed) +
                      min
                        (t.held - t.pool - (t.rows.map (fun x => x.borrowed - x.safety - x.owed)).sum -
                          (before.map (fun x => x.borrowed - (x.owed + (x.borrowed - x.safety - x.owed)))).sum)
                        (r.borrowed - (r.owed + (r.borrowed - r.safety - r.owed))) } :: after' ∧
              before'.length = before.length ∧ after'.length = after.length)

/-- R28: the queue order, SAFETY before DRAFT before NORMAL, and the order in which any entries are put. -/
def Obligations.ClaimQueueOrder : Prop :=
  (Rank.safety.code = 1 ∧ Rank.draft.code = 2 ∧ Rank.normal.code = 3) ∧
  (∀ a b : Entry, a.before b = true ↔
      a.rank.code < b.rank.code ∨
        (a.rank = b.rank ∧ (b.standing < a.standing ∨ (a.standing = b.standing ∧ a.station < b.station)))) ∧
    ∀ entries : List Entry,
      (queueOrder entries).Pairwise (fun a b => b.before a = false) ∧ (queueOrder entries).Perm entries

/-- R35 to R37, R42: a service round. -/
def Obligations.ServiceRoundServesTheHead : Prop :=
  ∀ t : ShareTable,
    (t.queue = [] → t.serviceRound = t) ∧
      ∀ (e : Entry) (rest : List Entry), t.queue = e :: rest →
        (t.overdrawn = false → e.units ≤ t.free →
          t.serviceRound =
            ({ t with
                rows := t.rows.map (fun r =>
                  if r.station = e.station then
                    { r with
                      borrowed := r.borrowed + e.units
                      safety := if e.rank = .safety then r.safety + e.units else r.safety }
                  else r)
                queue := queueOrder (rest.map (fun x =>
                  { x with standing := min 255 (x.standing + (t.rowOf x.station).weight) })) } :
              ShareTable).serviceRound) ∧
          (t.overdrawn = true ∨ t.free < e.units → ¬(e.rank = .safety ∧ t.leaseState = .current) →
            t.serviceRound = t) ∧
          (t.overdrawn = true ∨ t.free < e.units → e.rank = .safety → t.leaseState = .current →
            t.serviceRound = t.safetyRecall (e.units - t.free - t.owedSum))

/-- R8, row by row, and the law of R9: the usable units of all rows stay within the limit they are curtailed against, and
together with the held part within the allowance, in every table whose held part is within its pool. -/
def Obligations.UsableAndHeldWithinAllowance : Prop :=
  ∀ t : ShareTable,
    (∀ r : Row,
      (t.leaseState = .noLease → t.usableOf r = r.dedicated) ∧
        (t.leaseState = .current → t.reserved ≤ t.allowance → t.usableOf r = r.dedicated) ∧
        (t.leaseState = .current → t.allowance < t.reserved →
          t.usableOf r = r.dedicated * t.allowance / t.reserved) ∧
        (t.leaseState = .lapsed → t.reserved ≤ t.fallback → t.usableOf r = r.dedicated) ∧
        (t.leaseState = .lapsed → t.fallback < t.reserved →
          t.usableOf r = r.dedicated * t.fallback / t.reserved)) ∧
      (t.leaseState = .current → t.usableSum ≤ min t.allowance t.reserved) ∧
      (t.leaseState = .lapsed → t.usableSum ≤ min t.fallback t.reserved) ∧
      (t.leaseState = .noLease → t.usableSum = t.reserved) ∧ (HeldLaw t → AllowanceLaw t)

/-! ## Frames that the share table takes

The overdrawn flag is evaluated before the service round and at the end of every taking, also of one that the rules ignore or
refuse: the model's reading of R10 and R11 (entry 10, DEDUCED; unsafe in one case). Without a change of rows, queue or lease that
leaves a table as it is, but for a mark that no table in which the mark is lawful (`FlagLaw`) bears. -/

/-- R10, R13, R14, R55: ALLOWANCE, with the own LAPSE that has not started; R44: RECALLS; R115, R119: the defrost unit's look at the
taking; R50, R71, R72: the evaluation that it calls for. That the overdrawn flag is evaluated before and after the service round,
and at an invalid ALLOWANCE too, where R13 says no change, is the model's reading (entry 10, DEDUCED). What the evaluation makes of
aside, wish, CLAIM and RETURN rests on the readings of entries 7, 8, 9 and 29 (DEDUCED) and the choices of entries 32, 41 and 43
(DESIGN CHOICES). -/
def Obligations.AllowanceTaken : Prop :=
  ∀ (codes : Sensors) (units leaseTime fallback tag : Byte) (s : State), s.running = true →
    ∃ t, exec (.allowance codes 9 units leaseTime fallback tag) s = .next t ∧
      (1 ≤ leaseTime.toNat ∧ leaseTime.toNat ≤ 10 ∧ tag ≠ 0 →
        t.table =
            ((({ s.table with
                  allowance := units.toNat, fallback := fallback.toNat, leaseTag := tag, leaseState := .current } :
                ShareTable).recallExcess.evaluateOverdrawn false).serviceRound).evaluateOverdrawn false ∧
          t.table.allowance = units.toNat ∧ t.table.fallback = fallback.toNat ∧ t.table.leaseTag = tag ∧
          t.table.leaseState = .current ∧ t.share.leaseTimer = some (leaseTime.toNat * 1000) ∧
          t.share.leaseExpired = false ∧ t.member.leaseNews = true ∧
          (s.flying .lapse = false → t.hasTx .lapse = false)) ∧
      (¬(1 ≤ leaseTime.toNat ∧ leaseTime.toNat ≤ 10 ∧ tag ≠ 0) →
        t.table = s.table.evaluateOverdrawn false ∧ (FlagLaw s.table → t.table = s.table) ∧
          t.share.leaseTimer = s.share.leaseTimer ∧
          t.share.leaseExpired = s.share.leaseExpired ∧ t.member.leaseNews = s.member.leaseNews) ∧
      (RowsLaw s.table → RecallsCounted s t ∧ DefrostSees False s t) ∧
      TakingEvaluated codes s
        (s.takenInto t
          { s.share with leaseTimer := t.share.leaseTimer, leaseExpired := t.share.leaseExpired }) t ∧
      t.supply = s.supply ∧ t.doors = s.doors ∧ t.overrides = s.overrides

/-- R10, R15, R16, R55: LAPSE, with the own LAPSE that has not started, but for one that an entry to IN_STEP in the same taking queues
(R149); R44: RECALLS; R115, R119: the defrost unit's look at the taking; R50, R71, R72: the evaluation that it calls for. That the
overdrawn flag is evaluated at a LAPSE that does not apply too, where R15 says no change, is the model's reading (entry 10,
DEDUCED). What the evaluation makes of aside, wish, CLAIM and RETURN rests on the readings of entries 7, 8, 9 and 29 (DEDUCED) and
the choices of entries 32, 41 and 43 (DESIGN CHOICES). -/
def Obligations.LapseTaken : Prop :=
  ∀ (codes : Sensors) (address : BitVec 4) (tag : Byte) (s : State), s.running = true →
    s.passes address.toNat (.lapse tag) = true → s.hears address (.lapse tag) →
    ∃ t, exec (.lapse codes address tag) s = .next t ∧
      (s.table.leaseState = .current ∧ s.table.leaseTag = tag →
        t.table.leaseState = .lapsed ∧ t.table.queue = [] ∧ t.table.allowance = s.table.allowance ∧
          t.table.fallback = s.table.fallback ∧ t.table.leaseTag = s.table.leaseTag ∧
          t.share.leaseTimer = none ∧ t.member.leaseNews = true ∧
          (s.flying .lapse = false ∨ (s.ownFrame address.toNat (.lapse tag)).isSome = true →
            s.member.state ≠ .catchingUp ∨ s.share.leaseExpired = false → t.hasTx .lapse = false) ∧
          (RowsLaw s.table →
            t.table.rows = s.table.rows.map (fun r => { r with owed := r.borrowed }) ∧ t.table.overdrawn = false)) ∧
      (¬(s.table.leaseState = .current ∧ s.table.leaseTag = tag) →
        t.table = s.table.evaluateOverdrawn false ∧ (FlagLaw s.table → t.table = s.table) ∧
          t.share.leaseTimer = s.share.leaseTimer ∧ t.member.leaseNews = s.member.leaseNews) ∧
      (RowsLaw s.table → RecallsCounted s t) ∧
      (RowsLaw s.table →
        address.toNat ≠ s.me ∨ s.member.state = .clash ∨ (s.ownFrame address.toNat (.lapse tag)).isSome = true →
        DefrostSees False s t) ∧
      TakingEvaluated codes s (s.takenInto t { s.share with leaseTimer := t.share.leaseTimer }) t ∧
      t.share.leaseExpired = s.share.leaseExpired ∧ t.supply = s.supply ∧ t.doors = s.doors ∧ t.overrides = s.overrides

/-- R10, R19, R106: EXPEL; R44: RECALLS; R104: the last stated activity, which an EXPEL naming the station makes "no", with the DRAFT of
an active boost; R115, R119: the defrost unit's look at the taking; R50, R71, R72: the evaluation that it calls for. That an EXPEL
of the own ABSENT row does not clear it is the model's choice (entry 36, DESIGN CHOICE); that the overdrawn flag is evaluated before
and after the service round, and at an EXPEL of an ABSENT or unknown row too, is its reading (entry 10, DEDUCED). What the
evaluation makes of aside, wish, CLAIM and RETURN rests on the readings of entries 7, 8, 9 and 29 (DEDUCED) and the choices of
entries 32, 41 and 43 (DESIGN CHOICES). -/
def Obligations.ExpelTaken : Prop :=
  ∀ (codes : Sensors) (address : BitVec 4) (station : Byte) (s : State), s.running = true →
    s.passes address.toNat (.expel station) = true → s.hears address (.expel station) →
    ∃ t, exec (.expel codes address station) s = .next t ∧
      (∀ r, s.table.row? station.toNat = some r → r.state ≠ .absent →
        t.table =
            (((s.table.clearRow station.toNat .absent).evaluateOverdrawn false).serviceRound).evaluateOverdrawn false ∧
          t.table.rowOf station.toNat = { r with state := .absent, borrowed := 0, safety := 0, owed := 0 } ∧
          t.table.hasEntry station.toNat = false) ∧
      ((s.table.row? station.toNat).all (fun r => r.state == .absent) = true →
        t.table = s.table.evaluateOverdrawn false ∧ (FlagLaw s.table → t.table = s.table)) ∧
      t.doors =
        { s.doors with
          spill := s.doors.spill.filter (fun e => e.station != station.toNat)
          lastStated := if station.toNat = s.me then false else s.doors.lastStated } ∧
      (station.toNat = s.me → s.doors.oneShot ≠ .idle → t.member.state ≠ .clash → t.sending .draft) ∧
      (RowsLaw s.table → RecallsCounted s t) ∧ TakingEvaluated codes s (s.takenInto t s.share) t ∧
      (RowsLaw s.table →
        address.toNat ≠ s.me ∨ s.member.state = .clash ∨ (s.ownFrame address.toNat (.expel station)).isSome = true →
        DefrostSees (station.toNat = s.me ∧ s.ownRow.state ≠ .absent) s t) ∧
      t.supply = s.supply ∧ t.overrides = s.overrides

/-- R10, R20, R21, R106: JOIN; R27, R152: with another tag the own entry goes too; R44: RECALLS; R104: the last stated
activity, which the own JOIN makes "no", with the DRAFT of an active boost; R115, R119: the defrost unit's look at the taking;
R50, R71, R72: the evaluation that it calls for. That with another tag the own entry goes after the sender's row, each with
its service round, and not before one common round, is the model's choice (entry 45, DESIGN CHOICE); that the overdrawn flag
is evaluated before and after each round, and where no round follows, is its reading (entry 10, DEDUCED). What the evaluation
makes of aside, wish, CLAIM and RETURN rests on the readings of entries 7, 8, 9 and 29 (DEDUCED) and the choices of entries
32, 41 and 43 (DESIGN CHOICES). -/
def Obligations.JoinTaken : Prop :=
  ∀ (codes : Sensors) (address : BitVec 4) (tag : Byte) (s : State), s.running = true →
    s.passes address.toNat (.join tag) = true → s.hears address (.join tag) →
    ∃ t, exec (.join codes address tag) s = .next t ∧
      (s.table.rowInUse address.toNat = true ↔
        0 < (s.table.rowOf address.toNat).borrowed ∨ s.table.hasEntry address.toNat = true) ∧
      (tag = s.tag →
        t.table =
          if s.table.rowInUse address.toNat then (s.table.clearRow address.toNat .present).roundServed
          else (s.table.clearRow address.toNat .present).evaluateOverdrawn false) ∧
      (tag ≠ s.tag →
        t.table =
          (if s.table.rowInUse address.toNat then (s.table.clearRow address.toNat .mismatched).roundServed
          else (s.table.clearRow address.toNat .mismatched).evaluateOverdrawn false).withoutEntryOf s.me) ∧
      (∀ r, s.table.row? address.toNat = some r →
        t.table.rowOf address.toNat =
          { r with state := if tag = s.tag then .present else .mismatched, borrowed := 0, safety := 0, owed := 0 }) ∧
      t.table.hasEntry address.toNat = false ∧
      t.doors =
        { s.doors with
          spill := s.doors.spill.filter (fun e => e.station != address.toNat)
          lastStated :=
            if (s.ownFrame address.toNat (.join tag)).isSome = true then false else s.doors.lastStated } ∧
      ((s.ownFrame address.toNat (.join tag)).isSome = true → s.doors.oneShot ≠ .idle → t.member.state ≠ .clash →
        t.sending .draft) ∧
      (RowsLaw s.table → RecallsCounted s t) ∧ TakingEvaluated codes s (s.takenInto t s.share) t ∧
      (RowsLaw s.table →
        address.toNat ≠ s.me ∨ s.member.state = .clash ∨ (s.ownFrame address.toNat (.join tag)).isSome = true →
        DefrostSees ((s.ownFrame address.toNat (.join tag)).isSome = true) s t) ∧
      t.supply = s.supply ∧ t.overrides = s.overrides

/-- R10, R22 to R24: STATUS, with the statements that are out of range (R22) and the values that a repair compares (R23), with
the count of a repair (R179), the spill entry of a row that becomes or is MISMATCHED (R106), the outdoor reading that a saloon
station learns (R102), and the heard set and the end of catch-up (R148) with the LAPSE of an expired lease (R149); R27, R152: with
another tag the own entry goes too; R44: RECALLS, where a statement of the own row is the change that the recall of the round comes
after; R151: the STATUS period, which an own STATUS restarts; R50, R71, R72: the evaluation that it calls for. That with another tag
the own entry goes after the sender's, each with its service round, and not before one common round, is the model's choice (entry
45, DESIGN CHOICE). That the overdrawn flag is evaluated before and after each round, and at a statement that is not used, and that
a rank SAFETY at a saloon row is out of range with 0 waiting units too, are its readings (entries 10 and 30, DEDUCED). What the
evaluation makes of aside, wish, CLAIM and RETURN rests on the readings of entries 7, 8, 9 and 29 (DEDUCED) and the choices of
entries 32, 41 and 43 (DESIGN CHOICES). -/
def Obligations.StatusTaken : Prop :=
  ∀ (codes : Sensors) (address : BitVec 4) (p : StatusPayload) (s : State) (r : Row), s.running = true →
    s.passes address.toNat (.status p) = true → s.hears address (.status p) →
    s.table.row? address.toNat = some r →
    (statementInRange r p = true ↔
      p.safety.toNat ≤ p.borrowed.toNat ∧ p.owed.toNat ≤ p.borrowed.toNat ∧ p.waiting.toNat ≤ 63 ∧
        (p.waiting ≠ 0 → p.rankAttention.toNat / 64 ≠ 0) ∧ (p.rankAttention.toNat / 64 = 1 → r.role = .cab)) ∧
    (statementInRange r p = true →
      (s.table.differs r p = true ↔
        r.borrowed ≠ p.borrowed.toNat ∨ r.safety ≠ p.safety.toNat ∨ r.owed ≠ p.owed.toNat ∨
          (p.waiting = 0 ∧ s.table.hasEntry address.toNat = true) ∨
          (p.waiting ≠ 0 ∧ ¬∃ e, s.table.entry? address.toNat = some e ∧ e.units = p.waiting.toNat ∧
            e.rank.code = p.rankAttention.toNat / 64 ∧ e.standing = p.standing.toNat))) ∧
    ∃ t, exec (.status codes address p) s = .next t ∧
      (p.tag = s.tag → statementInRange r p = true →
        r.state = .present ∨ (r.state = .absent ∧ (s.member.state = .listen ∨ s.member.state = .joining)) →
        t.table =
            ((({ s.table with
                  rows := s.table.rows.map (fun x =>
                    if x.station = address.toNat then
                      { x with
                        state := .present, borrowed := p.borrowed.toNat, safety := p.safety.toNat, owed := p.owed.toNat }
                    else x)
                  queue := match statedEntry address.toNat p with
                    | none => dropEntry address.toNat s.table.queue
                    | some e => setEntry e s.table.queue } :
              ShareTable).evaluateOverdrawn true).serviceRound).evaluateOverdrawn false ∧
          t.stats.counters.repairs =
            if r.state = .present ∧ s.table.differs r p = true then
              bumped s.loader.vt.counterFreeze 1 s.stats.counters.repairs
            else s.stats.counters.repairs) ∧
      (p.tag = s.tag →
        statementInRange r p = false ∨ r.state = .mismatched ∨
          (r.state = .absent ∧ s.member.state ≠ .listen ∧ s.member.state ≠ .joining) →
        t.table = s.table.evaluateOverdrawn false ∧ (FlagLaw s.table → t.table = s.table)) ∧
      (p.tag ≠ s.tag →
        (t.table.rowOf address.toNat).state = .mismatched ∧
          (t.table.rowOf address.toNat).borrowed = r.borrowed ∧ (t.table.rowOf address.toNat).safety = r.safety ∧
          t.table.hasEntry address.toNat = false ∧
          t.table =
            (if s.table.hasEntry address.toNat = true then
                ({ s.table with
                    rows := s.table.rows.map (fun x =>
                      if x.station = address.toNat then { x with state := .mismatched } else x)
                    queue := dropEntry address.toNat s.table.queue } : ShareTable).roundServed
              else
                ({ s.table with
                    rows := s.table.rows.map (fun x =>
                      if x.station = address.toNat then { x with state := .mismatched } else x)
                    queue := dropEntry address.toNat s.table.queue } : ShareTable).evaluateOverdrawn false).withoutEntryOf
              s.me) ∧
      (p.tag ≠ s.tag ∨ r.state = .mismatched →
        t.doors.spill = s.doors.spill.filter (fun e => e.station != address.toNat)) ∧
      (p.tag = s.tag → r.state ≠ .mismatched → t.doors.spill = s.doors.spill) ∧
      (s.isCab = false → s.cabStation = some address.toNat → p.tag = s.tag →
        t.doors.outdoor = (if p.outdoor = 0x80 then none else some p.outdoor.toInt) ∧
          t.doors.outdoorAge = some 10000) ∧
      (s.isCab = true ∨ s.cabStation ≠ some address.toNat ∨ p.tag ≠ s.tag →
        t.doors.outdoor = s.doors.outdoor ∧ t.doors.outdoorAge = s.doors.outdoorAge) ∧
      (s.member.state = .catchingUp → address.toNat ≠ s.me → p.tag = s.tag →
        t.member.heard =
            (if r.state = .present then
                s.member.heard.filter (fun h => h.station != address.toNat)
                  ++ [{ station := address.toNat, tagZero := p.leaseTagSeen == 0 }]
              else s.member.heard).filter (fun h => (t.table.rowOf h.station).state == .present) ∧
          ((∀ x ∈ t.table.rows, x.state = .present → x.station ≠ s.me → ∃ h ∈ t.member.heard, h.station = x.station) ∧
              (s.member.leaseNews = true ∨ ∀ h ∈ t.member.heard, h.tagZero = true) →
            t.member.state = .inStep ∧ t.member.catchUp = none ∧
              (s.share.leaseExpired = true → t.sending .lapse)) ∧
          (¬((∀ x ∈ t.table.rows, x.state = .present → x.station ≠ s.me →
                ∃ h ∈ t.member.heard, h.station = x.station) ∧
              (s.member.leaseNews = true ∨ ∀ h ∈ t.member.heard, h.tagZero = true)) →
            t.member.state = .catchingUp ∧ t.member.catchUp = s.member.catchUp)) ∧
      (RowsLaw s.table →
        t.stats.counters.recalls =
          if (if address.toNat = s.me ∧ p.tag = s.tag ∧ statementInRange r p = true ∧
                (r.state = .present ∨ (r.state = .absent ∧ (s.member.state = .listen ∨ s.member.state = .joining)))
              then p.owed.toNat else s.ownRow.owed) < t.ownRow.owed then
            bumped s.loader.vt.counterFreeze 1 s.stats.counters.recalls
          else s.stats.counters.recalls) ∧
      ((s.ownFrame address.toNat (.status p)).isSome = true →
        s.member.state = .catchingUp ∨ s.member.state = .inStep ∨ s.member.state = .mismatched →
        t.member.statusPeriod = some 2000) ∧
      TakingEvaluated codes s (s.takenInto t s.share) t ∧ t.supply = s.supply ∧ t.overrides = s.overrides

/-- R10, R30 to R34: CLAIM, and the claim spacing timer of an own one (R54); R44: RECALLS; R115, R119: the defrost unit's look
at the taking; R50, R71, R72: the evaluation that it calls for. That the overdrawn flag is evaluated before and after the service
round, and at a refused CLAIM too, is the model's reading (entry 10, DEDUCED). What the evaluation makes of aside, wish, CLAIM and
RETURN rests on the readings of entries 7, 8, 9 and 29 (DEDUCED) and the choices of entries 32, 41 and 43 (DESIGN CHOICES). -/
def Obligations.ClaimTaken : Prop :=
  ∀ (codes : Sensors) (address : BitVec 4) (units rank : Byte) (s : State) (r : Row), s.running = true →
    s.passes address.toNat (.claim units rank) = true → s.hears address (.claim units rank) →
    s.table.row? address.toNat = some r →
    ∃ t, exec (.claim codes address units rank) s = .next t ∧
      (r.state ≠ .present ∨ 63 < units.toNat ∨
          (units ≠ 0 ∧ (rankOf rank.toNat = none ∨ (rankOf rank.toNat = some .safety ∧ r.role ≠ .cab))) →
        t.table = s.table.evaluateOverdrawn false ∧ (FlagLaw s.table → t.table = s.table)) ∧
      (r.state = .present → units = 0 →
        t.table =
          if s.table.hasEntry address.toNat then
            ((({ s.table with queue := dropEntry address.toNat s.table.queue } :
              ShareTable).evaluateOverdrawn false).serviceRound).evaluateOverdrawn false
          else s.table.evaluateOverdrawn false) ∧
      (∀ k, r.state = .present → units ≠ 0 → units.toNat ≤ 63 → rankOf rank.toNat = some k →
        (k = .safety → r.role = .cab) →
        t.table =
          if s.table.queue = [] ∧ s.table.overdrawn = false ∧ s.table.leaseState = .current ∧
              units.toNat ≤ s.table.free then
            ({ s.table with
                rows := s.table.rows.map (fun x =>
                  if x.station = address.toNat then
                    { x with
                      borrowed := x.borrowed + units.toNat
                      safety := if k = .safety then x.safety + units.toNat else x.safety }
                  else x) } : ShareTable).evaluateOverdrawn false
          else
            ((({ s.table with
                  queue := setEntry
                    { station := address.toNat, units := units.toNat, rank := k
                      standing := s.table.keptStanding address.toNat } s.table.queue } :
                ShareTable).evaluateOverdrawn false).serviceRound).evaluateOverdrawn false) ∧
      t.share.spacingTimer =
        (if (s.ownFrame address.toNat (.claim units rank)).isSome ∧ 1 ≤ units.toNat ∧ units.toNat ≤ 63 then
          some s.loader.vt.claimSpacing
        else s.share.spacingTimer) ∧
      (RowsLaw s.table → RecallsCounted s t) ∧
      (RowsLaw s.table →
        address.toNat ≠ s.me ∨ s.member.state = .clash ∨ (s.ownFrame address.toNat (.claim units rank)).isSome = true →
        DefrostSees False s t) ∧
      TakingEvaluated codes s (s.takenInto t { s.share with spacingTimer := t.share.spacingTimer }) t ∧
      t.supply = s.supply ∧ t.doors = s.doors ∧ t.overrides = s.overrides

/-- R10, R56: RETURN; R44: RECALLS, where a RETURN of the own row lowers the own owed before the recall of the round; R115, R119: the
defrost unit's look at the RETURN of another station, and that the taking of the own RETURN leaves its state as it stands, but for
a WAITING that holds enough; R50, R59, R71, R72: the evaluation that it calls for, at an own RETURN always the share evaluation of
the accumulator lowered by its units. That the overdrawn flag is evaluated before and after the service round, and at a refused
RETURN too, where R56 says no change, is the model's reading (entry 10, DEDUCED). What the evaluation makes of aside, wish, CLAIM
and RETURN rests on the readings of entries 7, 8, 9 and 29 (DEDUCED) and the choices of entries 32, 41 and 43 (DESIGN CHOICES). -/
def Obligations.ReturnTaken : Prop :=
  ∀ (codes : Sensors) (address : BitVec 4) (units safetyUnits : Byte) (s : State) (r : Row), s.running = true →
    s.passes address.toNat (.ret units safetyUnits) = true → s.hears address (.ret units safetyUnits) →
    s.table.row? address.toNat = some r →
    ∃ t, exec (.ret codes address units safetyUnits) s = .next t ∧
      (units.toNat < safetyUnits.toNat ∨ r.state = .absent →
        t.table = s.table.evaluateOverdrawn false ∧ (FlagLaw s.table → t.table = s.table)) ∧
      (safetyUnits.toNat ≤ units.toNat → r.state ≠ .absent →
        t.table =
          ((({ s.table with
                rows := s.table.rows.map (fun x =>
                  if x.station = address.toNat then
                    { x with
                      borrowed := x.borrowed - min units.toNat x.borrowed
                      owed := x.owed - min units.toNat x.owed
                      safety := min (x.safety - min safetyUnits.toNat x.safety)
                        (x.borrowed - min units.toNat x.borrowed) }
                  else x) } : ShareTable).evaluateOverdrawn false).serviceRound).evaluateOverdrawn false) ∧
      (RowsLaw s.table →
        t.stats.counters.recalls =
          if (if address.toNat = s.me ∧ safetyUnits.toNat ≤ units.toNat ∧ r.state ≠ .absent then
                s.ownRow.owed - min units.toNat s.ownRow.owed else s.ownRow.owed) < t.ownRow.owed then
            bumped s.loader.vt.counterFreeze 1 s.stats.counters.recalls
          else s.stats.counters.recalls) ∧
      (RowsLaw s.table → address.toNat ≠ s.me → DefrostSees False s t) ∧
      (s.ownFrame address.toNat (.ret units safetyUnits) = none →
        TakingEvaluated codes s (s.takenInto t s.share) t) ∧
      ((s.ownFrame address.toNat (.ret units safetyUnits)).isSome = true →
        TakingEvaluated codes s (s.takenInto t (s.returnSettled units.toNat)) t ∧
        ShareDecided (s.takenInto t (s.returnSettled units.toNat)) t ∧
        (s.isCab = false ∨ s.defrost.state ≠ .waiting ∨ t.safetyHeld < s.loader.vt.defrostUnits →
          t.defrost = s.defrost) ∧
        (s.isCab = true → s.defrost.state = .waiting → s.loader.vt.defrostUnits ≤ t.safetyHeld → DefrostRamps s t)) ∧
      t.supply = s.supply ∧ t.doors = s.doors ∧ t.overrides = s.overrides

/-! ## Frames that the other blocks take -/

/-- R104 to R106: DRAFT; R50, R71, R72: the evaluation that a change of the spill figure calls for. What the evaluation makes of aside,
wish, CLAIM and RETURN rests on the readings of entries 7, 8, 9 and 29 (DEDUCED) and the choices of entries 32, 41 and 43 (DESIGN
CHOICES). -/
def Obligations.DraftTaken : Prop :=
  ∀ (codes : Sensors) (address : BitVec 4) (active : Byte) (s : State), s.running = true →
    s.passes address.toNat (.draft active) = true → s.hears address (.draft active) →
    ∃ t, exec (.draft codes address active) s = .next t ∧
      (s.entry.neighbours.contains address.toNat = true → address.toNat ≠ s.me →
        (s.table.rowOf address.toNat).state ≠ .mismatched →
        (active = 1 →
          t.doors.spill =
            s.doors.spill.filter (fun e => e.station != address.toNat)
              ++ [{ station := address.toNat, timer := some s.loader.vt.spillLimit }]) ∧
          (active = 0 → t.doors.spill = s.doors.spill.filter (fun e => e.station != address.toNat))) ∧
      (s.entry.neighbours.contains address.toNat = false ∨ address.toNat = s.me ∨
          (s.table.rowOf address.toNat).state = .mismatched ∨ (active ≠ 0 ∧ active ≠ 1) →
        t.doors.spill = s.doors.spill) ∧
      t.doors.lastStated =
        (if (s.ownFrame address.toNat (.draft active)).isSome then active == 1 else s.doors.lastStated) ∧
      TakingEvaluated codes s (s.takenInto t s.share) t ∧
      t.table = s.table ∧ t.supply = s.supply ∧ t.overrides = s.overrides

/-- R129 to R131, R135, R136, R139: OVERRIDE; ECONOMY withdraws the entry of a wish that would be NORMAL (R53, R140); a
change of the defrost mode, state by state (R122). A slot that is filled computes the setpoint again (R69), which sets the pending
flag where it moved (R70), and calls for an evaluation (R71, R72, R132); where none is filled setpoint and pending flag stand. That
OFF also ends PAUSED at a station in CLASH is the model's choice (entry 31, DESIGN CHOICE). What the evaluation makes of aside, wish,
CLAIM and RETURN rests on the readings of entries 7, 8, 9 and 29 (DEDUCED) and the choices of entries 32 and 43 (DESIGN CHOICES). -/
def Obligations.OverrideTaken : Prop :=
  ∀ (codes : Sensors) (kind mask value duration : Byte) (s : State), s.running = true →
    ∃ t, exec (.override codes 8 kind mask value duration) s = .next t ∧
      t.overrides =
        ((if maskHas mask s.me then
            (overrideKindOf kind).bind (fun k =>
              ({ s.overrides with panelSilence := some 30000 } : Overrides).filled s.isCab k value duration)
          else none).getD { s.overrides with panelSilence := some 30000 }) ∧
      (∀ k, maskHas mask s.me = true → overrideKindOf kind = some k →
        (s.overrides.filled s.isCab k value duration).isSome = true →
        t.zone.setpoint =
            some (max 20 (min 56 (s.entry.baseSetpoint +
              match t.overrides.setpointOffset with
              | some x => x.value
              | none => 0))) ∧
          t.zone.pendingFlag = (s.zone.pendingFlag || t.zone.setpoint != s.zone.setpoint) ∧
          ZoneEvaluated codes s (s.takenInto t s.share) t) ∧
      (maskHas mask s.me = false ∨ overrideKindOf kind = none ∨
          (∃ k, overrideKindOf kind = some k ∧ s.overrides.filled s.isCab k value duration = none) →
        t.zone.setpoint = s.zone.setpoint ∧ t.zone.pendingFlag = s.zone.pendingFlag ∧
          TakingEvaluated codes s (s.takenInto t s.share) t) ∧
      (maskHas mask s.me = true → kind = 1 → -12 ≤ value.toInt → value.toInt ≤ 12 →
        t.overrides.setpointOffset =
            some { value := value.toInt, expiry := if duration = 0 then none else some (duration.toNat * 10000) } ∧
          t.zone.setpoint = some (max 20 (min 56 (s.entry.baseSetpoint + value.toInt)))) ∧
      (maskHas mask s.me = true → kind = 2 → value.toNat ≤ 3 → t.zone.fan = value.toNat) ∧
      (maskHas mask s.me = true → kind = 3 → t.zone.mode = .heldOff) ∧
      (maskHas mask s.me = true → kind = 4 → BoostLaw s → t.doors.oneShot = .idle) ∧
      (maskHas mask s.me = true → kind = 5 → t.claimFigure = 0 → t.draftActive = false →
        t.share.wishUnits = 0 ∧ t.share.wishRank = .normal ∧
          (s.member.state = .inStep → (∃ e, s.ownEntry = some e ∧ 0 < e.units ∧ e.rank ≠ .safety) →
            t.sending .claim)) ∧
      (maskHas mask s.me = true → kind = 6 → s.isCab = true →
        (value = 0 → s.defrostMode ≠ .off →
          t.defrost.state = .off ∧ t.request = 0 ∧ t.safetyKept = 0 ∧ t.claimFigure = 0) ∧
          ((value = 1 ∧ s.defrostMode ≠ .auto) ∨ (value = 2 ∧ s.defrostMode ≠ .max) →
            (s.defrost.state = .off → value = 1 → s.defrost.fog = false ∨ s.coldOutside = false →
              t.defrost.state = .off) ∧
              (s.defrost.state = .off → value = 2 ∨ (s.defrost.fog = true ∧ s.coldOutside = true) →
                (s.live = false ∨ s.member.state = .clash → t.defrost.state = .paused ∧ t.defrost.pausedKept = 0) ∧
                  (s.live = true → s.member.state ≠ .clash → s.safetyHeld < s.loader.vt.defrostUnits →
                    t.defrost.state = .waiting) ∧
                  (s.live = true → s.member.state ≠ .clash → s.loader.vt.defrostUnits ≤ s.safetyHeld →
                    t.defrost.state = (if s.screenClear = true then .hold else .ramp))) ∧
              (s.defrost.state = .trim → value = 2 →
                t.defrost.state = (if s.screenClear = true then .hold else .ramp) ∧
                  t.defrost.phase =
                    some (if s.screenClear = true then s.loader.vt.holdTime else s.loader.vt.rampLimit)) ∧
              (s.defrost.state = .ramp ∨ s.defrost.state = .hold ∨ s.defrost.state = .paused ∨
                  (s.defrost.state = .trim ∧ value = 1) ∨
                  (s.defrost.state = .waiting ∧ s.safetyHeld < s.loader.vt.defrostUnits) →
                t.defrost = s.defrost))) ∧
      t.table = s.table ∧ t.supply = s.supply

/-- R134, R135: CANCEL; R132: what its emptied slots hand on. What the evaluation makes of aside, wish, CLAIM and RETURN rests on
the model's readings (entries 7, 8, 9 and 29, DEDUCED) and choices (entries 32 and 43, DESIGN CHOICES). -/
def Obligations.CancelTaken : Prop :=
  ∀ (codes : Sensors) (kind mask : Byte) (s : State), s.running = true →
    ∃ t, exec (.cancel codes 8 kind mask) s = .next t ∧
      t.overrides =
        (if maskHas mask s.me then
          (if kind = 0 then { Overrides.reset with panelSilence := some 30000 }
          else
            match overrideKindOf kind with
            | some k => ({ s.overrides with panelSilence := some 30000 } : Overrides).emptied k
            | none => { s.overrides with panelSilence := some 30000 })
        else { s.overrides with panelSilence := some 30000 }) ∧
      SlotsHandedOn codes s t ∧ t.table = s.table ∧ t.supply = s.supply

/-- R182, R184, R186: SNAPSHOT latches an EMPTY buffer and leaves a LATCHED one; QUERY sets the report request when accepted,
and a REPORT in flight is noted as replaced. -/
def Obligations.SnapshotAndQueryTaken : Prop :=
  (∀ (codes : Sensors) (address : BitVec 4) (s : State), s.running = true → 8 ≤ address.toNat →
    ∃ t, exec (.snapshot codes address) s = .next t ∧
      t.stats.snapshot = some (s.stats.snapshot.getD { record := s.zoneRecord, counters := s.stats.counters }) ∧
      t.stats.counters = s.stats.counters ∧ TakingEvaluated codes s (s.takenInto t s.share) t ∧ t.table = s.table) ∧
    ∀ (codes : Sensors) (address : BitVec 4) (target item flags : Byte) (s : State), s.running = true →
      8 ≤ address.toNat →
      ∃ t, exec (.query codes address target item flags) s = .next t ∧
        (∀ i, reportItemOf item = some i → target.toNat = s.me →
          (i = .row → (s.table.row? (flags.toNat / 16 % 8)).isSome = true) →
          s.member.state = .catchingUp ∨ s.member.state = .inStep ∨ s.member.state = .mismatched →
          t.stats.request =
              some
                { item := i, row := if i = .row then flags.toNat / 16 % 8 else 0
                  clear := (i == .zone || i == .page0 || i == .page1) && flags.getLsbD 0
                  part := if i = .snapshot then 1 else 0 } ∧
            t.stats.inFlight = s.stats.inFlight.map (fun f => { f with replaced := true }) ∧ t.sending .report) ∧
        (reportItemOf item = none ∨ target.toNat ≠ s.me ∨
            (reportItemOf item = some .row ∧ s.table.row? (flags.toNat / 16 % 8) = none) ∨
            s.member.state = .listen ∨ s.member.state = .joining ∨ s.member.state = .clash →
          t.stats = s.stats) ∧
        t.stats.snapshot = s.stats.snapshot ∧ t.stats.counters = s.stats.counters ∧
        TakingEvaluated codes s (s.takenInto t s.share) t ∧ t.table = s.table

/-- R170, R184, R185, R187: REPORT. `f.since` holds the marks and the ramp timeout that came after its frame start: clear at the frame
start (FrameStartOffersTheFirst), it gets each mark (CountersMarksAndTheSecond) and the ramp timeout (DefrostCycle); `f.replaced` is
set by a QUERY that is accepted during the flight (SnapshotAndQueryTaken). -/
def Obligations.ReportTaken : Prop :=
  ∀ (codes : Sensors) (address : BitVec 4) (data : List Byte) (s : State), s.running = true →
    s.passes address.toNat (.report data) = true → s.hears address (.report data) →
    ∃ t, exec (.report codes address data) s = .next t ∧ t.table = s.table ∧ t.supply = s.supply ∧
      t.doors = s.doors ∧ t.overrides = s.overrides ∧ TakingEvaluated codes s (s.takenInto t s.share) t ∧
      (s.ownFrame address.toNat (.report data) = none →
        t.stats.counters = s.stats.counters ∧ t.stats.snapshot = s.stats.snapshot ∧ t.stats.flags = s.stats.flags) ∧
      (∀ f, (s.ownFrame address.toNat (.report data)).isSome = true → s.stats.inFlight = some f →
        t.stats.inFlight = none ∧
          t.stats.counters =
            (if f.request.clear = true ∧ f.request.item = .page0 then
              { s.stats.counters with
                energy := s.stats.counters.energy - f.counters.energy
                waitSeconds := s.stats.counters.waitSeconds - f.counters.waitSeconds
                recalls := s.stats.counters.recalls - f.counters.recalls
                linkFails := s.stats.counters.linkFails - f.counters.linkFails
                repairs := s.stats.counters.repairs - f.counters.repairs }
            else if f.request.clear = true ∧ f.request.item = .page1 then
              { s.stats.counters with
                door0Opens := s.stats.counters.door0Opens - f.counters.door0Opens
                door0Seconds := s.stats.counters.door0Seconds - f.counters.door0Seconds
                door1Opens := s.stats.counters.door1Opens - f.counters.door1Opens
                door1Seconds := s.stats.counters.door1Seconds - f.counters.door1Seconds }
            else s.stats.counters) ∧
          t.stats.flags =
            (if f.request.clear = true ∧ f.request.item = .page0 then
              { s.stats.flags with half0 := f.since.half0, full0 := f.since.full0 }
            else if f.request.clear = true ∧ f.request.item = .page1 then
              { s.stats.flags with half1 := f.since.half1, full1 := f.since.full1 }
            else if f.request.clear = true ∧ f.request.item = .zone then
              { s.stats.flags with rampTimeout := f.since.rampTimeout }
            else s.stats.flags) ∧
          t.stats.snapshot =
            (if f.request.item = .snapshot ∧ f.part = 3 then none else s.stats.snapshot) ∧
          t.stats.request =
            (if f.replaced = true ∨ s.stats.request ≠ some f.request then s.stats.request
            else if f.request.item = .snapshot ∧ (f.part = 1 ∨ f.part = 2) then
              some { f.request with part := f.part + 1 }
            else none) ∧
          (f.replaced = false → s.stats.request = some f.request → f.request.item = .snapshot → f.part = 1 ∨ f.part = 2 →
            s.member.state ≠ .clash → t.hasTx .report = true))

/-- R169, with R154 and R155: the filter, and that no block takes what a frame that fails it carries, a frame of an unknown
kind included. Its address counts all the same: it sets its row's silence age to 0 (R154), which withdraws a pending expulsion
of that row (R155); and when it is the own address of a station that did not send the frame, CLASH follows (R157), where table, doors,
overrides, supply, counters and snapshot still stand. A frame that passes the filter sets its row's silence age to 0 too and
withdraws a pending expulsion of that row, and leaves one age for each other PRESENT row, at 0 or as it was (R154, R155). That the
frame brings the front-end codes of its moment is the model's choice (entry 3, DESIGN CHOICE), and that what R155 has withdrawn is
withdrawn at the end of the event its reading (entry 23, DEDUCED). A frame of any kind that passes the filter and is taken in
CATCHING_UP ends with the check of R148, and leaves the state but for the kinds that R152, R156 and R157 name. -/
def Obligations.FilteredFrameChangesNoBlock : Prop :=
  (∀ (s : State) (n : Nat) (x : Bulletin), s.passes n x = true ↔
    match x with
    | .allowance .. => n = 9
    | .override .. => n = 8
    | .cancel .. => n = 8
    | .snapshot => 8 ≤ n
    | .query .. => 8 ≤ n
    | .unknown _ => False
    | _ => n ≤ 7 ∧ ∃ e ∈ s.loader.vt.roster, e.station = n) ∧
    (∀ (c : Instr) (codes : Sensors) (address : BitVec 4) (b : Bulletin) (s : State),
      frameOf c = some (codes, address, b) → s.running = true → s.passes address.toNat b = true →
      ∃ t, exec c s = .next t ∧
        (∀ a ∈ t.member.ages, a.station = address.toNat → a.left = some 12000) ∧
        (∀ a ∈ t.member.ages, a.left = some 12000 ∨ a ∈ s.member.ages) ∧
        t.member.ages.map (·.station) =
          (t.table.rows.filter (fun r => r.state == .present && r.station != s.me)).map (·.station) ∧
        (s.flying .expel = false → t.member.expulsion ≠ some address.toNat) ∧ CatchUpFollows s t ∧
        (s.member.state = .catchingUp → s.hears address b →
          (∀ tag, b = .join tag → tag = s.tag) → (∀ p, b = .status p → p.tag = s.tag) →
          (∀ station, b = .expel station → station.toNat ≠ s.me) →
          address.toNat ≠ s.me ∨ (s.ownFrame address.toNat b).isSome = true →
          (t.member.state = .catchingUp ∨ t.member.state = .inStep) ∧
            ((∀ p, b ≠ .status p) →
              t.member.heard =
                s.member.heard.filter (fun h => (t.table.rowOf h.station).state == .present)) ∧
            ((∀ units leaseTime fallback tag, b ≠ .allowance units leaseTime fallback tag) → (∀ tag, b ≠ .lapse tag) →
              t.member.leaseNews = s.member.leaseNews))) ∧
    ∀ (c : Instr) (codes : Sensors) (address : BitVec 4) (b : Bulletin) (s : State),
      frameOf c = some (codes, address, b) → s.running = true → s.passes address.toNat b = false →
      ∃ t, exec c s = .next t ∧ t.table = s.table ∧ t.doors = s.doors ∧ t.overrides = s.overrides ∧
        t.supply = s.supply ∧ t.stats.counters = s.stats.counters ∧ t.stats.snapshot = s.stats.snapshot ∧
        (∀ a ∈ t.member.ages, a.station = address.toNat → a.left = some 12000) ∧
        (address.toNat ≠ s.me ∨ s.member.state = .clash → s.ownFrame address.toNat b = none →
          { t with
              moment := s.moment, pins := s.pins, bus := s.bus
              member := { t.member with ages := s.member.ages, expulsion := s.member.expulsion } } = s ∧
            t.pins = { s.pins with sensors := codes } ∧
            t.member.ages =
              s.member.ages.map (fun a => if a.station = address.toNat then { a with left := some 12000 } else a) ∧
            { t.bus with queue := s.bus.queue, inFlight := s.bus.inFlight } =
              { s.bus with idle := false, idleWait := none } ∧
            t.bus.queue.filter (fun e => e.kind != .expel) = s.bus.queue.filter (fun e => e.kind != .expel) ∧
            (s.flying .expel = false → t.bus.inFlight = s.bus.inFlight) ∧
            (s.flying .expel = false → t.member.expulsion ≠ some address.toNat))

/-- What a completed frame leaves alone, whatever it carries (R11, R170): the supply monitor, every block that does not take
its kind, and, at a station without a table, everything but the bus-idle detector. That the event brings the front-end codes
of its moment, and changes no other pin, is the model's choice (entry 3). -/
def Obligations.FrameLeavesOtherBlocksAlone : Prop :=
  ∀ (c : Instr) (codes : Sensors) (address : BitVec 4) (b : Bulletin) (s t : State),
    frameOf c = some (codes, address, b) → exec c s = .next t →
    t.supply = s.supply ∧ t.pins = { s.pins with sensors := codes } ∧ t.bus.idle = false ∧
      (b.forTable = false → t.table = s.table) ∧
      ((∀ kind mask value duration, b ≠ .override kind mask value duration) → (∀ kind mask, b ≠ .cancel kind mask) →
        { t.overrides with panelSilence := s.overrides.panelSilence } = s.overrides) ∧
      ((∀ data, b ≠ .report data) → b ≠ .snapshot → t.stats.snapshot = s.stats.snapshot) ∧
      (s.running = false →
        t = { s with
          moment := s.moment + 1, pins := { s.pins with sensors := codes }
          bus := { s.bus with idle := false, idleWait := none } })

/-! ## Membership at a taking -/

/-- R157, R84: a frame that bears the own address and is not the station's own brings CLASH. A frame of its own in flight,
which R168 rules out on a bus that carries one frame at a time, goes on without a renewal (entry 39, DESIGN CHOICE). -/
def Obligations.ForeignOwnAddressBringsClash : Prop :=
  ∀ (c : Instr) (codes : Sensors) (address : BitVec 4) (b : Bulletin) (s : State),
    frameOf c = some (codes, address, b) → s.running = true → address.toNat = s.me →
    s.ownFrame address.toNat b = none → s.member.state ≠ .clash →
    ∃ t, exec c s = .next t ∧ t.member.state = .clash ∧ t.fault = true ∧ t.bus.queue = [] ∧
      t.bus.inFlight = s.bus.inFlight.map (fun f => { f with renewal := none }) ∧
      (s.bus.inFlight = none → t.bus.drive = .released) ∧ t.stats.request = none ∧
      t.bus.mute = none ∧ t.member.census = none ∧ t.member.catchUp = none ∧ t.member.statusPeriod = none ∧
      t.member.expulsion = none ∧ t.airLoad = 0 ∧ t.defrostLoad = 0

/-- R146: the census ends. R147: the own JOIN, taken in JOINING, brings CATCHING_UP; R104: the last stated activity is "no"
from then on, and an active boost is stated again. Also where no other row is PRESENT: the check of R148 is made at the
takings in CATCHING_UP, and the own JOIN is taken in JOINING (entry 12, DEDUCED from row 7 of R159). -/
def Obligations.CensusAndOwnJoin : Prop :=
  (∀ (codes : Sensors) (s : State), s.running = true → s.member.census.isSome = true →
    ∃ t, exec (.censusTimerExpiry codes) s = .next t ∧ t.member.state = .joining ∧ t.member.census = none ∧
      t.sending .join ∧ t.table = s.table ∧ t.doors = s.doors ∧ t.overrides = s.overrides ∧ t.supply = s.supply) ∧
  ∀ (codes : Sensors) (address : BitVec 4) (s : State), s.running = true →
    s.passes address.toNat (.join s.tag) = true → s.hears address (.join s.tag) →
    (s.ownFrame address.toNat (.join s.tag)).isSome = true → s.member.state = .joining →
    ∃ t, exec (.join codes address s.tag) s = .next t ∧ t.member.state = .catchingUp ∧
      t.member.catchUp = some 12000 ∧ t.member.heard = [] ∧ t.member.statusPeriod = some 2000 ∧
      (∀ a ∈ t.member.ages, a.left = some 12000) ∧ t.hasTx .status = true ∧ t.doors.lastStated = false ∧
      (s.doors.oneShot ≠ .idle → t.hasTx .draft = true)

/-- R156: an EXPEL that names the station, taken as a member; R104: the last stated activity is "no" from then on, and an active boost
is stated again. -/
def Obligations.SelfExpulsion : Prop :=
  ∀ (codes : Sensors) (address : BitVec 4) (station : Byte) (s : State) (r : Row), s.running = true →
    s.passes address.toNat (.expel station) = true → s.hears address (.expel station) → address.toNat ≠ s.me →
    station.toNat = s.me → s.table.row? s.me = some r → r.state ≠ .absent →
    s.member.state = .catchingUp ∨ s.member.state = .inStep →
    ∃ t, exec (.expel codes address station) s = .next t ∧ t.member.state = .joining ∧ t.share.aside = 0 ∧
      t.share.commit = 0 ∧ t.member.catchUp = none ∧ t.member.heard = [] ∧ t.member.statusPeriod = none ∧
      (s.member.state = .inStep → t.member.expulsion = none) ∧ t.sending .join ∧ t.spendable = t.usable ∧
      t.doors.lastStated = false ∧ (s.doors.oneShot ≠ .idle → t.sending .draft) ∧
      (s.bus.inFlight = none → SendLaw s →
        t.hasTx .claim = false ∧ t.hasTx .lapse = false ∧ t.hasTx .expel = false ∧ t.hasTx .status = false ∧
          (0 < s.share.aside → t.hasTx .ret = false))

/-- R27, R152, R153: another table tag seen in a JOIN or a STATUS; the own entry goes in every state, after the sender's round where
there is one (entry 45, DESIGN CHOICE). -/
def Obligations.OtherTagBringsMismatched : Prop :=
  ∀ (c : Instr) (codes : Sensors) (address : BitVec 4) (b : Bulletin) (tag : Byte) (s : State),
    frameOf c = some (codes, address, b) → (b = .join tag ∨ ∃ p, b = .status p ∧ p.tag = tag) → tag ≠ s.tag →
    s.running = true → s.passes address.toNat b = true → s.hears address b → address.toNat ≠ s.me →
    (s.table.row? address.toNat).isSome = true →
    ∃ t, exec c s = .next t ∧ t.table.hasEntry s.me = false ∧ t.fault = true ∧
      (s.member.state = .mismatched ∨ s.member.state = .clash → t.member.state = s.member.state) ∧
      (s.member.state ≠ .mismatched → s.member.state ≠ .clash →
        t.member.state = .mismatched ∧ t.stats.flags.config = true ∧
          t.member.census = none ∧ t.member.catchUp = none ∧ t.member.heard = [] ∧ t.member.statusPeriod = some 2000 ∧
          t.sending .status ∧ t.share.aside = t.ownRow.borrowed ∧ t.spendable = t.usable ∧
          (s.bus.inFlight = none →
            t.hasTx .join = false ∧ t.hasTx .claim = false ∧
              (s.member.state = .inStep → t.hasTx .lapse = false ∧ t.hasTx .expel = false)))

/-- R104, R173, R174: at the completion of an own frame nothing is in flight, the own-failure count falls by 1, not below 0,
and the entry leaves the queue: an entry of its kind that waits afterwards is the renewal, with the age of its first request,
or was asked for in this taking; a renewal of a STATUS, a DRAFT or a REPORT waits afterwards. After an own DRAFT, outside
CLASH, one waits whenever the activity differs from the one carried, with or without a request, with the age of its first
request or of this event (entry 21, DEDUCED), and none when it does not differ and none was requested. At an own RETURN the
shed commitment and aside fall by what it carried, within their bounds (R49, R64), and the return timer starts afresh or stops
(R59); reclaim or set-aside, the wish, its CLAIM and the triggers of R57 then follow from that lowered aside (R50 to R54;
readings of entries 7, 8, 9 and 29, DEDUCED, choices of entries 32 and 43, DESIGN CHOICES). At an own STATUS the STATUS period
restarts (R151). -/
def Obligations.OwnFrameCompletes : Prop :=
  ∀ (c : Instr) (codes : Sensors) (address : BitVec 4) (b : Bulletin) (s : State) (f : OwnFrame),
    frameOf c = some (codes, address, b) → s.running = true → s.hears address b →
    s.ownFrame address.toNat b = some f →
    ∃ t, exec c s = .next t ∧ t.bus.inFlight = none ∧ t.bus.failures = s.bus.failures - 1 ∧
      t.bus.standing = s.bus.standing ∧ t.bus.drive = .released ∧ t.inFlightReturn = (0, 0) ∧
      (∀ e ∈ t.bus.queue, e.kind = f.kind → e.age = s.moment + 1 ∨ f.renewal = some e.age) ∧
      (∀ age, f.renewal = some age → b.txKind = some f.kind → s.member.state ≠ .clash →
        f.kind = .status ∨ f.kind = .draft ∨ f.kind = .report → { kind := f.kind, age } ∈ t.bus.queue) ∧
      (∀ active, b = .draft active → f.kind = .draft → s.member.state ≠ .clash →
        ((active = 1 ↔ s.doors.oneShot = .idle) →
            { kind := .draft, age := f.renewal.getD (s.moment + 1) } ∈ t.bus.queue) ∧
          (¬(active = 1 ↔ s.doors.oneShot = .idle) → f.renewal = none → t.hasTx .draft = false)) ∧
      (∀ p, b = .status p → s.passes address.toNat b = true →
        s.member.state = .catchingUp ∨ s.member.state = .inStep ∨ s.member.state = .mismatched →
        t.member.statusPeriod = some 2000) ∧
      ∀ units safetyUnits, b = .ret units safetyUnits → s.passes address.toNat b = true →
        ShareDecided (s.takenInto t (s.returnSettled units.toNat)) t ∧
          t.share.commit =
            (if s.supply.state = .shed then t.ownRow.borrowed
            else min (s.share.commit - units.toNat) t.ownRow.borrowed) ∧
          (s.supply.state = .shed ∨ s.member.state = .mismatched → t.share.aside = t.ownRow.borrowed) ∧
          (s.supply.state ≠ .shed → s.member.state ≠ .mismatched → t.borrowedCounts = false →
            t.share.aside = max (min (s.share.aside - units.toNat) t.ownRow.borrowed) t.asideFloor) ∧
          t.share.returnTimer =
            (if 0 < t.share.aside then .running s.loader.vt.returnTimer else .stopped)

/-! ## The bus -/

/-- R163, R165, R172, R199: the frame start offers the entry of lowest class, then the oldest, then that of the lower kind
code, and fixes its class (R58, R172) and its payload: R54, R55, R58, R104, R155, R172; the statement of R150 as R200 lays it
out; the REPORT of R183 and R187 as R202 lays it out, which has no place for the fan level of R86 (entry 33, DESIGN CHOICE),
with the report in flight that a REPORT's frame start begins (R183 to R185). That a frame start where none may start changes
nothing but the moment number is the model's choice (entries 1 and 20, DESIGN CHOICES). -/
def Obligations.FrameStartOffersTheFirst : Prop :=
  (MemberState.unconfigured.code = 0 ∧ MemberState.listen.code = 1 ∧ MemberState.joining.code = 2 ∧
    MemberState.catchingUp.code = 3 ∧ MemberState.inStep.code = 4 ∧ MemberState.mismatched.code = 5 ∧
    MemberState.clash.code = 6) ∧
  (SupplyState.settling.code = 0 ∧ SupplyState.live.code = 1 ∧ SupplyState.rideThrough.code = 2 ∧
    SupplyState.shed.code = 3) ∧
  (ZoneMode.active.code = 0 ∧ ZoneMode.heldOff.code = 1 ∧ ZoneMode.limp.code = 2) ∧
  (DoorState.unsampled.code = 0 ∧ DoorState.closed.code = 1 ∧ DoorState.opened.code = 2 ∧
    DoorState.longOpen.code = 3) ∧
  (OneShot.idle.code = 0 ∧ OneShot.held.code = 1 ∧ OneShot.tail.code = 2) ∧
  (DefrostState.off.code = 0 ∧ DefrostState.waiting.code = 1 ∧ DefrostState.ramp.code = 2 ∧
    DefrostState.hold.code = 3 ∧ DefrostState.trim.code = 4 ∧ DefrostState.paused.code = 5) ∧
  (Rank.safety.code = 1 ∧ Rank.draft.code = 2 ∧ Rank.normal.code = 3) ∧
  (RowState.absent.code = 0 ∧ RowState.present.code = 1 ∧ RowState.mismatched.code = 2) ∧
  (TxKind.join.code = 1 ∧ TxKind.status.code = 2 ∧ TxKind.claim.code = 3 ∧ TxKind.ret.code = 4 ∧
    TxKind.draft.code = 5 ∧ TxKind.lapse.code = 6 ∧ TxKind.expel.code = 7 ∧ TxKind.report.code = 8) ∧
  ∀ s : State,
    (s.mayStart = true ↔
      s.running = true ∧ s.member.state ≠ .clash ∧ s.bus.standing = .active ∧ s.bus.idle = true ∧
        s.bus.inFlight = none ∧ s.bus.queue ≠ []) ∧
    (s.mayStart = true →
      ∃ e ∈ s.bus.queue,
        (∀ x ∈ s.bus.queue,
          s.classFor e.kind < s.classFor x.kind ∨
            (s.classFor e.kind = s.classFor x.kind ∧
              (e.age < x.age ∨ (e.age = x.age ∧ e.kind.code.toNat ≤ x.kind.code.toNat)))) ∧
        ∃ t, exec .frameStart s = .next t ∧
          t.bus =
            { s.bus with
              inFlight :=
                some { kind := e.kind, bulletin := s.bulletinFor e.kind, cls := s.classFor e.kind, renewal := none }
              idle := false, idleWait := none, drive := .frame } ∧
          t.stats =
            { s.stats with
              inFlight :=
                if e.kind = .report then
                  s.stats.request.map (fun r =>
                    { request := r, part := if s.stats.snapshot.isSome = true then r.part else 0
                      counters := s.stats.counters, since := Attention.clear, replaced := false })
                else s.stats.inFlight } ∧
          { t with moment := s.moment, bus := s.bus, stats := s.stats } = s) ∧
      (s.mayStart = false → exec .frameStart s = .next { s with moment := s.moment + 1 }) ∧
      (s.classFor .lapse = 0 ∧ s.classFor .expel = 0 ∧ s.classFor .draft = 3 ∧ s.classFor .join = 5 ∧
        s.classFor .status = 5 ∧ s.classFor .report = 6 ∧
        s.classFor .ret =
          (if 0 < s.ownRow.owed ∨ s.supply.state = .shed then 1
          else if s.table.queue ≠ [] ∨ s.loader.vt.returnBatch ≤ s.share.aside ∨ s.share.returnTimer = .expired then 4
          else 7) ∧
        s.classFor .claim =
          (match (if s.share.wishUnits = 0 then (s.ownEntry.map (·.rank)).getD s.share.wishRank else s.share.wishRank) with
          | .safety => 1
          | .draft => 3
          | .normal => 4)) ∧
      (s.bulletinFor .lapse = .lapse s.table.leaseTag ∧ s.bulletinFor .join = .join s.tag ∧
        s.bulletinFor .draft = .draft (if s.doors.oneShot = .idle then 0 else 1) ∧
        (∀ p, s.member.expulsion = some p → s.bulletinFor .expel = .expel (BitVec.ofNat 8 p)) ∧
        s.bulletinFor .claim =
          .claim (BitVec.ofNat 8 s.share.wishUnits)
            (match (if s.share.wishUnits = 0 then (s.ownEntry.map (·.rank)).getD s.share.wishRank
              else s.share.wishRank) with
            | .safety => 1
            | .draft => 2
            | .normal => 3) ∧
        s.bulletinFor .ret =
          .ret (BitVec.ofNat 8 s.share.aside)
            (BitVec.ofNat 8 (min s.ownRow.safety
              (max (s.share.aside - (s.ownRow.borrowed - s.ownRow.safety))
                (min s.share.aside (s.ownRow.safety - s.safetyKept))))) ∧
        s.bulletinFor .status =
          .status
            { flags := BitVec.ofNat 8 (s.member.state.code + (if s.supply.state = .shed then 8 else 0)
                + (if s.zone.pendingFlag = true then 16 else 0) + (if s.zone.fault = true then 32 else 0)
                + (if s.defrost.state = .off then 0 else 64))
              tag := s.tag
              borrowed := BitVec.ofNat 8 s.ownRow.borrowed
              safety := BitVec.ofNat 8 s.ownRow.safety
              owed := BitVec.ofNat 8 s.ownRow.owed
              waiting := BitVec.ofNat 8 (match s.ownEntry with | some e => e.units | none => 0)
              rankAttention := BitVec.ofNat 8 (64 * (match s.ownEntry with | some e => e.rank.code | none => 0)
                + (if s.stats.flags.half0 = true then 1 else 0) + (if s.stats.flags.full0 = true then 2 else 0)
                + (if s.stats.flags.half1 = true then 4 else 0) + (if s.stats.flags.full1 = true then 8 else 0)
                + (if s.stats.flags.config = true then 16 else 0)
                + (if s.stats.flags.rampTimeout = true then 32 else 0))
              standing := BitVec.ofNat 8 (match s.ownEntry with | some e => e.standing | none => 0)
              leaseTagSeen := s.table.leaseTag
              zoneTemp := match s.zone.temp with | some x => BitVec.ofInt 8 x | none => 0x80
              demand := BitVec.ofNat 8 s.zone.total
              outdoor :=
                if s.isCab = true then (match s.doors.outdoor with | some x => BitVec.ofInt 8 x | none => 0x80)
                else 0x80 }) ∧
      ∀ r, s.stats.request = some r →
        ∃ data, s.bulletinFor .report = .report data ∧
          (r.item = .zone → data =
            [BitVec.ofNat 8 (1 + 32 * s.doors.oneShot.code + (if s.overrides.economy.isSome = true then 128 else 0)),
              (match s.zone.temp with | some x => BitVec.ofInt 8 x | none => 0x80),
              (match s.doors.outdoor with | some x => BitVec.ofInt 8 x | none => 0x80),
              BitVec.ofNat 8 (min s.spendable 255), BitVec.ofNat 8 s.share.aside,
              BitVec.ofNat 8 ((match s.zone.setpoint with | some x => x.toNat | none => 0) + 64 * s.zone.mode.code),
              BitVec.ofNat 8 (s.zone.total + 64 * s.supply.state.code), BitVec.ofNat 8 (s.boost + 64 * s.factor),
              BitVec.ofNat 8 (s.stationLoad + (if s.zone.pendingFlag = true then 128 else 0)),
              BitVec.ofNat 8 (s.usable + 32 * s.defrost.state.code),
              BitVec.ofNat 8 (s.spillFigure + 32 * s.doors.spill.length
                + (if s.overrides.boostInhibit.isSome = true then 128 else 0)),
              BitVec.ofNat 8 (s.doors.door0.state.code + 4 * s.doors.door1.state.code
                + (if s.overrides.setpointOffset.isSome = true then 16 else 0)
                + (if s.overrides.fanForce.isSome = true then 32 else 0)
                + (if s.overrides.zoneOff.isSome = true then 64 else 0)
                + (if s.overrides.defrostMode.isSome = true then 128 else 0))]) ∧
          (r.item = .page0 → data = 2 :: s.stats.counters.page0) ∧
          (r.item = .page1 → data = 3 :: s.stats.counters.page1) ∧
          (∀ k : Counters,
            k.page0 =
                [k.energy.extractLsb' 24 8, k.energy.extractLsb' 16 8, k.energy.extractLsb' 8 8,
                  k.energy.extractLsb' 0 8, k.waitSeconds.extractLsb' 8 8, k.waitSeconds.extractLsb' 0 8,
                  k.recalls.extractLsb' 8 8, k.recalls.extractLsb' 0 8, k.linkFails, k.repairs] ∧
              k.page1 =
                [k.door0Opens.extractLsb' 8 8, k.door0Opens.extractLsb' 0 8, k.door0Seconds.extractLsb' 16 8,
                  k.door0Seconds.extractLsb' 8 8, k.door0Seconds.extractLsb' 0 8, k.door1Opens.extractLsb' 8 8,
                  k.door1Opens.extractLsb' 0 8, k.door1Seconds.extractLsb' 16 8, k.door1Seconds.extractLsb' 8 8,
                  k.door1Seconds.extractLsb' 0 8]) ∧
          (r.item = .snapshot → s.stats.snapshot = none → data = [4]) ∧
          (∀ p, r.item = .snapshot → s.stats.snapshot = some p →
            (r.part = 1 → data =
              BitVec.ofNat 8 (12 + 32 * p.record.oneShot.code + (if p.record.economy = true then 128 else 0)) ::
                p.record.bytes) ∧
              (r.part = 2 → data = 20 :: p.counters.page0) ∧ (r.part = 3 → data = 28 :: p.counters.page1)) ∧
          (∀ x, r.item = .row → s.table.row? r.row = some x → data =
            BitVec.ofNat 8 (5 + 8 * s.table.usableOf x) ::
              ((match s.table.entry? x.station with
                | some e => [BitVec.ofNat 8 (64 * e.rank.code + e.units), BitVec.ofNat 8 e.standing]
                | none => [BitVec.ofNat 8 x.state.code, 0]) ++
                [BitVec.ofNat 8 x.borrowed, BitVec.ofNat 8 x.safety, BitVec.ofNat 8 x.owed, s.table.leaseTag,
                  BitVec.ofNat 8 s.table.allowance, BitVec.ofNat 8 s.table.fallback, BitVec.ofNat 8 s.table.pool,
                  BitVec.ofNat 8 s.table.free,
                  BitVec.ofNat 8 (x.dedicated + (if s.table.leaseState = .lapsed then 32 else 0)
                    + (if s.table.overdrawn = true then 64 else 0))])) ∧
          (r.item = .queue → data =
            BitVec.ofNat 8 (6 + 8 * s.table.queue.length) ::
              (s.table.queue.take 3).flatMap (fun e =>
                [BitVec.ofNat 8 (64 * e.rank.code + e.units), BitVec.ofNat 8 e.station, BitVec.ofNat 8 e.standing]))

/-- R165, R166: what a sender finds in the bits it reads back of any frame: as long as each is the one it drove its frame goes
on, and the objection slot decides; the first other bit makes the frame lost, when it drove recessive in the arbitration, and
else it aborts. That a stuff bit right after the last address bit comes after the arbitration, and that OWN_FRAME_LOST brings
no bits, are the model's choice (entry 38, DESIGN CHOICE). R59, R173, R174, R184: what a void and a lost own frame lead to:
nothing is in flight, the entry stays queued with its age where the state lets its kind wait, and a void one counts; an abort
is driven also where it brings MUTE (entry 37). -/
def Obligations.OwnFrameVoidOrLost : Prop :=
  (∀ (f : Frame) (k : Nat) (b : Bool) (rest : List Bool),
    f.arbitrationBits = (stuff (f.plainBits.take 8)).length ∧ f.arbitrationBits < f.checkedBits ∧
      f.bits = stuff f.plainBits ++ true :: List.replicate 7 true ∧ f.checkedBits = (stuff f.plainBits).length ∧
      (k ≤ f.checkedBits → f.readBack (f.bits.take k) = .underWay) ∧
      f.readBack (f.bits.take f.checkedBits ++ true :: rest) = .completes ∧
      f.readBack (f.bits.take f.checkedBits ++ false :: rest) = .objected ∧
      (k < f.checkedBits → f.bits[k]? = some b →
        f.readBack (f.bits.take k ++ (!b) :: rest) =
          if k < f.arbitrationBits ∧ b = true then .lost else .aborts)) ∧
    ∀ (s : State) (f : OwnFrame), s.running = true → s.bus.inFlight = some f →
      (∀ heard,
        s.readsBack heard =
            some (Frame.readBack
              { cls := BitVec.ofNat 3 f.cls, address := BitVec.ofNat 4 s.me, kind := f.kind.code
                payload := f.bulletin.payload } heard) ∧
          (s.readsBack heard = some .objected ∨ s.readsBack heard = some .aborts →
            ∃ t, exec (.ownFrameVoid heard) s = .next t ∧ t.bus.inFlight = none ∧ t.stats.inFlight = none ∧
              t.bus.drive = (if s.readsBack heard = some .aborts then .abort else .released) ∧
              t.bus.failures = min 16 (s.bus.failures + 1) ∧
              (15 ≤ s.bus.failures → t.bus.standing = .mute ∧ t.bus.mute = some 2000) ∧
              (s.bus.failures < 15 → t.bus.standing = s.bus.standing ∧ t.bus.mute = s.bus.mute) ∧
              t.stats.counters.linkFails = bumped s.loader.vt.counterFreeze 1 s.stats.counters.linkFails ∧
              t.share = s.share ∧ t.table = s.table ∧ t.zone = s.zone ∧ t.doors = s.doors ∧
              t.stats.request = s.stats.request ∧
              ∀ e ∈ s.bus.queue, s.maySend e.kind = true → e.kind ≠ .expel → e ∈ t.bus.queue) ∧
          (s.readsBack heard = some .completes ∨ s.readsBack heard = some .underWay →
            exec (.ownFrameVoid heard) s = .next { s with moment := s.moment + 1 })) ∧
        ∀ c, (c = .ownFrameLost ∨ ∃ heard, c = .ownFrameVoid heard ∧ s.readsBack heard = some .lost) →
          ∃ t, exec c s = .next t ∧ t.bus.inFlight = none ∧ t.stats.inFlight = none ∧ t.bus.drive = .released ∧
            t.bus.failures = s.bus.failures ∧ t.bus.standing = s.bus.standing ∧ t.stats.counters = s.stats.counters ∧
            t.share = s.share ∧ t.table = s.table ∧ t.zone = s.zone ∧ t.doors = s.doors ∧
            t.stats.request = s.stats.request ∧
            ∀ e ∈ s.bus.queue, s.maySend e.kind = true → e.kind ≠ .expel → e ∈ t.bus.queue

/-- R167: what a receiver drives on an error, and that nothing is taken from the frame; which bits are which error is stated in
FrameRoundTrip. That bits which are sound or end too
early bring no answer, that a stuffing violation goes before a length fault, and that a station with a frame of its own in
flight does not object are the model's choice (entry 27, DESIGN CHOICE); what it drives stands until the bus becomes IDLE
(entry 22). -/
def Obligations.FrameErrorAnswered : Prop :=
  ∀ (heard : List Bool) (s : State),
    ∃ t, exec (.frameError heard) s = .next t ∧
      { t with moment := s.moment, bus := s.bus } = s ∧
      t.bus =
        { s.bus with
          idle := false, idleWait := none
          drive :=
            match receive heard with
            | .error e =>
              if s.running = true ∧ s.member.state ≠ .clash ∧ s.bus.standing = .active ∧ s.bus.inFlight = none then
                (match e with
                  | .stuffing => .errorSignal
                  | .lengthAboveTwelve => .errorSignal
                  | .lengthFault => .objection
                  | .check => .objection)
              else s.bus.drive
            | .sound _ => s.bus.drive
            | .incomplete => s.bus.drive }

/-- R57, R164, R174: the start bit, the bus-idle detector, the wait of the opportunistic RETURN, and the end of MUTE. -/
def Obligations.IdleDetectorAndMuteTimer : Prop :=
  ∀ s : State,
    exec .startBit s =
        .next { s with moment := s.moment + 1, bus := { s.bus with idle := false, idleWait := none } } ∧
      (s.bus.idle = false →
        exec .busIdle s =
          .next { s with
            moment := s.moment + 1, bus := { s.bus with idle := true, idleWait := some 2, drive := .released } }) ∧
      (s.bus.idleWait.isSome = true →
        ∃ t, exec .busIdle2ms s = .next t ∧ t.bus.idleWait = none ∧
          (s.bus.queue = [] → 0 < s.share.aside → s.running = true → s.member.state ≠ .clash → t.sending .ret) ∧
          (s.bus.queue ≠ [] ∨ s.share.aside = 0 → t.bus = { s.bus with idleWait := none }) ∧
          { t with moment := s.moment, bus := s.bus } = s) ∧
      (s.bus.mute.isSome = true →
        exec .muteTimerExpiry s =
          .next { s with
            moment := s.moment + 1, bus := { s.bus with mute := none, standing := .active, failures := 8 } })

/-! ## The membership unit's timers -/

/-- R18, R148: the catch-up time runs out: the catch-up lapse, then IN_STEP, with a LAPSE when the lease has expired locally (R149); a
LAPSE then makes no change until an ALLOWANCE has made the lease CURRENT. -/
def Obligations.CatchUpLapse : Prop :=
  ∀ (codes : Sensors) (s : State), s.running = true → s.member.catchUp.isSome = true →
    ∃ t, exec (.catchUpTimerExpiry codes) s = .next t ∧ t.member.state = .inStep ∧ t.member.catchUp = none ∧
      (s.share.leaseExpired = true → t.sending .lapse) ∧
      (s.table.leaseState = .noLease →
        t.table = { s.table with leaseState := .lapsed, fallback := s.table.reserved } ∧ t.table.pool = 0 ∧
          (∀ r ∈ t.table.rows, t.table.usableOf r = r.dedicated) ∧
          (FlagLaw s.table → ∀ me tag, (takeLapse me tag t.table).table = t.table)) ∧
      (s.table.leaseState ≠ .noLease → t.table = s.table) ∧
      t.doors = s.doors ∧ t.overrides = s.overrides ∧ t.supply = s.supply

/-- R151, R154, R155: the STATUS period runs out; a row falls silent; and in the three states that send STATUS one is queued,
or the one in flight renewed, at the taking of another station's JOIN and at every change of what `statusView` lists: the own
borrowed, safety, owed and entry, the membership state, the SHED, pending, sensor fault and defrost active flags, the attention
flags and the lease tag. A row is silent when its age has none left, or 0 where its own SILENCE_AGE_LIMIT is still to come (entry 23,
DEDUCED). That the EXPEL is queued when the age comes before a frame from the silent station, as R155 has it, is
the model's choice beside row 4 of R159 (entry 44, DESIGN CHOICE). -/
def Obligations.StatusPeriodAndSilence : Prop :=
  (∀ s : State, s.running = true → s.member.statusPeriod.isSome = true →
    ∃ t, exec .statusPeriodExpiry s = .next t ∧ t.member = { s.member with statusPeriod := none } ∧
      (s.member.state ≠ .clash → t.sending .status) ∧
      { t with moment := s.moment, member := s.member, bus := s.bus } = s) ∧
    (∀ s t : State, t.statusView = s.statusView ↔
      t.ownRow.borrowed = s.ownRow.borrowed ∧ t.ownRow.safety = s.ownRow.safety ∧ t.ownRow.owed = s.ownRow.owed ∧
        t.ownEntry = s.ownEntry ∧ t.member.state = s.member.state ∧
        (t.supply.state = .shed ↔ s.supply.state = .shed) ∧ t.zone.pendingFlag = s.zone.pendingFlag ∧
        t.zone.fault = s.zone.fault ∧ (t.defrost.state = .off ↔ s.defrost.state = .off) ∧
        t.stats.flags = s.stats.flags ∧ t.table.leaseTag = s.table.leaseTag) ∧
    (∀ (c : Instr) (s t : State), PhaseLaw s → exec c s = .next t →
      t.member.state = .catchingUp ∨ t.member.state = .inStep ∨ t.member.state = .mismatched →
      (t.statusView ≠ s.statusView ∨
        ∃ codes address tag, c = .join codes address tag ∧ s.running = true ∧ address.toNat ≠ s.me ∧
          s.passes address.toNat (.join tag) = true) →
      (t.flying .status = false ∧ t.hasTx .status = true) ∨
        ∃ f, t.bus.inFlight = some f ∧ f.kind = .status ∧ f.renewal.isSome = true) ∧
    ∀ (station : Fin 8) (s : State), s.running = true →
      (∃ a ∈ s.member.ages, a.station = station.val ∧ a.left.isSome = true) →
      ∃ t, exec (.silenceAgeLimit station) s = .next t ∧
        t.member.ages =
          s.member.ages.map (fun a => if a.station = station.val then { a with left := none } else a) ∧
        (s.member.state = .inStep → s.member.expulsion = none → s.hasTx .expel = false →
          t.sending .expel ∧
            ∃ p, t.member.expulsion = some p ∧
              (∃ a ∈ t.member.ages, a.station = p ∧ (a.left = none ∨ a.left = some 0)) ∧
              ∀ a ∈ t.member.ages, a.left = none ∨ a.left = some 0 → p ≤ a.station) ∧
        { t with moment := s.moment, member := s.member, bus := s.bus } = s

/-! ## The share unit's timers and the supply monitor -/

/-- R48, R54, R55, R57: the lease, claim spacing and return timers run out, with the share evaluation of the first two (R50); and
what a share evaluation does in each of its parts: the bounds of aside (R49, R64, R153), spendable (R48), the claim wish (R53), the
CLAIM it leads to (R54), reclaim (R51), set-aside (R52) and the return triggers (R57); a completed frame that raises the own owed
or makes the table congested leaves a RETURN waiting or in flight. The model's own readings: a CLAIM that waits is withdrawn when
its wish is held (entry 8), when a trigger of R57 acts (entry 9), every fall of aside to 0 stops the return timer, at the bounds
too (entry 7), and bounds and cut act at an event that is no taking (entry 29), all DEDUCED. The model's choices: the event that loses
the line moves no aside, and the safety units that a paused defrost unit keeps in RIDE_THROUGH are not set aside (R62 and R120
before R52; entry 32, DESIGN CHOICE); its SAFETY entry stands there (R120 before R54; entry 43, DESIGN CHOICE). A WAITING defrost
unit with enough safety units held, which no run reaches, goes on to RAMP in any event. -/
def Obligations.ShareUnitTimers : Prop :=
  (∀ s : State, s.running = true →
    (s.share.leaseTimer.isSome = true →
      ∃ t, exec .leaseTimerExpiry s = .next t ∧ t.share.leaseTimer = none ∧ t.share.leaseExpired = true ∧
        t.spendable = t.usable ∧ (s.member.state = .inStep → t.sending .lapse) ∧
        (s.isCab = false ∨ s.defrost.state ≠ .waiting ∨ s.safetyHeld < s.loader.vt.defrostUnits →
          t.defrost = s.defrost ∧
            ∀ e : State, e = { s with share := { s.share with leaseTimer := none, leaseExpired := true } } →
              ShareEvaluated e t ∧ StagesOnlyCut e t) ∧
        t.table = s.table ∧ t.doors = s.doors ∧ t.overrides = s.overrides ∧ t.supply = s.supply) ∧
      (s.share.spacingTimer.isSome = true →
        ∃ t, exec .claimSpacingExpiry s = .next t ∧ t.share.spacingTimer = none ∧ t.table = s.table ∧
          (t.share.wishUnits, t.share.wishRank) = t.wish ∧ ClaimFollowsWish t ∧
          (s.isCab = false ∨ s.defrost.state ≠ .waiting ∨ s.safetyHeld < s.loader.vt.defrostUnits →
            t.defrost = s.defrost ∧
              ∀ e : State, e = { s with share := { s.share with spacingTimer := none } } →
                ShareEvaluated e t ∧ StagesOnlyCut e t) ∧
          t.doors = s.doors ∧ t.overrides = s.overrides ∧ t.supply = s.supply) ∧
      ∀ n, s.share.returnTimer = .running n →
        ∃ t, exec .returnTimerExpiry s = .next t ∧ t.share = { s.share with returnTimer := .expired } ∧
          (0 < s.share.aside → s.member.state ≠ .clash → t.sending .ret) ∧ (s.share.aside = 0 → t.bus = s.bus) ∧
          { t with moment := s.moment, share := s.share, bus := s.bus } = s) ∧
    (∀ s : State, s.spendable =
      if s.member.state = .inStep ∧ s.share.leaseExpired = false then
        s.usable + s.ownRow.borrowed - max s.ownRow.owed s.share.aside
      else s.usable) ∧
    (∀ s : State, s.wish =
      (if s.supply.state = .shed then 0
        else if 0 < s.claimFigure then min 63 s.claimFigure
        else if s.ownEntry.any (fun e => e.rank == .safety) = true then 0
        else if s.draftActive = false ∧ (s.overrides.economy.isSome = true ∨ s.zone.mode = .limp) then 0
        else min 63 (min s.capacity (s.zone.base + s.boost + s.spillFigure) + s.request - s.spendable - s.reclaimable),
        if s.supply.state ≠ .shed ∧ 0 < s.claimFigure then .safety
        else if s.draftActive = true then .draft else .normal)) ∧
    (∀ s : State, s.wishMatches = true ↔
      (s.ownEntry = none ∧ s.share.wishUnits = 0) ∨
        ∃ e, s.ownEntry = some e ∧ e.units = s.share.wishUnits ∧ e.rank = s.share.wishRank) ∧
    (∀ s : State, s.entryStands = true ↔
      s.supply.state = .rideThrough ∧ s.defrost.state = .paused ∧ ∃ e, s.ownEntry = some e ∧ e.rank = .safety) ∧
    (∀ s : State, { claimDecision s with bus := s.bus } = s ∧ ClaimFollowsWish (claimDecision s)) ∧
    (∀ s : State,
      { applyBounds s with share := s.share, bus := s.bus } = s ∧
        (applyBounds s).share =
          { s.share with
            aside := (applyBounds s).share.aside, commit := (applyBounds s).share.commit
            returnTimer := (applyBounds s).share.returnTimer } ∧
        (applyBounds s).share.commit =
          (if s.supply.state = .shed then s.ownRow.borrowed else min s.share.commit s.ownRow.borrowed) ∧
        (applyBounds s).share.aside =
          (if s.supply.state = .shed ∨ s.member.state = .mismatched then s.ownRow.borrowed
          else
            max (min s.share.aside s.ownRow.borrowed)
              (max s.ownRow.owed
                (max (min s.share.commit s.ownRow.borrowed) (s.ownRow.safety - s.safetyKept)))) ∧
        (applyBounds s).share.returnTimer =
          (if s.share.aside = 0 ∧ 0 < (applyBounds s).share.aside then .running s.loader.vt.returnTimer
          else if 0 < s.share.aside ∧ (applyBounds s).share.aside = 0 then .stopped
          else s.share.returnTimer)) ∧
    (∀ (ev : Ev) (before s : State),
      (returnTriggered ev before s = true ↔
        s.supply.state = .shed ∨ s.loader.vt.returnBatch ≤ s.share.aside ∨ s.share.returnTimer = .expired ∨
          (0 < s.ownRow.owed ∧
            (ev.recalled = true ∨ ev.returnDone = true ∨ before.ownRow.owed < s.ownRow.owed)) ∨
          (s.table.queue ≠ [] ∧
            (ev.returnDone = true ∨ before.table.queue = [] ∨ before.share.aside < s.share.aside))) ∧
        { triggerReturn ev before s with bus := s.bus } = s ∧
        (returnTriggered ev before s = true → 0 < s.share.aside → s.running = true → s.member.state ≠ .clash →
          (triggerReturn ev before s).sending .ret) ∧
        (returnTriggered ev before s = false ∨ s.share.aside = 0 → triggerReturn ev before s = s)) ∧
    (∀ (c : Instr) (codes : Sensors) (address : BitVec 4) (b : Bulletin) (s : State),
      frameOf c = some (codes, address, b) → s.running = true → RowsLaw s.table →
      ∃ t, exec c s = .next t ∧
        (s.ownRow.owed < t.ownRow.owed → t.member.state ≠ .clash → t.sending .ret) ∧
        (s.table.queue = [] → t.table.queue ≠ [] → 0 < t.share.aside → t.member.state ≠ .clash → t.sending .ret)) ∧
    ∀ before s : State,
      s.reclaimable =
          s.share.aside - max (max s.ownRow.owed (max s.share.commit (s.ownRow.safety - s.safetyKept))) s.inFlightReturn.1 ∧
        s.wanted = min s.capacity (s.zone.base + s.boost + s.spillFigure) + s.request ∧
        (s.member.state ≠ .inStep ∨ s.share.leaseExpired = true ∨
            (before.supply.state = .live ∧ s.supply.state = .rideThrough) →
          adjustAside before s = s) ∧
        { adjustAside before s with share := s.share, bus := s.bus } = s ∧
        (adjustAside before s).share =
          { s.share with
            aside := (adjustAside before s).share.aside, returnTimer := (adjustAside before s).share.returnTimer } ∧
        (s.keptInGap =
          if s.supply.state = .rideThrough ∧ s.defrost.state = .paused then
            min s.safetyKept (min s.safetyHeld (s.ownRow.borrowed - s.share.aside))
          else 0) ∧
        (s.member.state = .inStep → s.share.leaseExpired = false →
          ¬(before.supply.state = .live ∧ s.supply.state = .rideThrough) →
          (s.spendable < s.wanted →
            (adjustAside before s).share.aside = s.share.aside - min (s.wanted - s.spendable) s.reclaimable) ∧
            (s.wanted ≤ s.spendable → s.keptInGap = 0 →
              (adjustAside before s).share.aside =
                s.share.aside +
                  min (s.spendable - max s.wanted s.stationLoad) (s.ownRow.borrowed - s.share.aside)) ∧
            (s.wanted ≤ s.spendable → 0 < s.keptInGap →
              (adjustAside before s).share.aside =
                s.share.aside +
                  min (s.spendable - max (s.wanted + s.keptInGap) s.stationLoad)
                    (s.ownRow.borrowed - s.share.aside - s.keptInGap)) ∧
            (s.share.aside = 0 → 0 < (adjustAside before s).share.aside →
              (adjustAside before s).share.returnTimer = .running s.loader.vt.returnTimer) ∧
            (0 < s.share.aside → (adjustAside before s).share.aside = 0 →
              (adjustAside before s).share.returnTimer = .stopped ∧
                (s.flying .ret = false → (adjustAside before s).hasTx .ret = false)) ∧
            (0 < s.share.aside → 0 < (adjustAside before s).share.aside →
              (adjustAside before s).share.returnTimer = s.share.returnTimer))

/-- R61 to R64: the settle, ride-through and qualify timers run out; entry to SHED gives up everything borrowed. R114, R115,
R120, R121: what the defrost unit does in the same event. That it counts units committed to a RETURN as held after a SHED is
the model's choice (entry 35, DESIGN CHOICE). -/
def Obligations.SupplyTimers : Prop :=
  ∀ (codes : Sensors) (s : State), s.running = true →
    (s.supply.settle.isSome = true →
      ∃ t, exec (.settleTimerExpiry codes) s = .next t ∧ t.table = s.table ∧ t.overrides = s.overrides ∧
        t.supply =
          (if s.supply.good = true then { s.supply with settle := none, state := .live }
          else { s.supply with settle := none, state := .rideThrough, rideThrough := some s.loader.vt.rideThrough }) ∧
        (s.supply.good = true → DefrostResumes s t) ∧ (s.supply.good = false → DefrostPauses s t)) ∧
      (s.supply.rideThrough.isSome = true → s.supply.state = .rideThrough →
        ∃ t, exec (.rideThroughExpiry codes) s = .next t ∧ t.table = s.table ∧ t.overrides = s.overrides ∧
          t.supply = { s.supply with rideThrough := none, state := .shed } ∧
          t.share.aside = s.ownRow.borrowed ∧ t.share.commit = s.ownRow.borrowed ∧
          (0 < s.ownRow.borrowed → s.member.state ≠ .clash → t.sending .ret) ∧
          (s.member.state = .inStep → (∃ e, s.ownEntry = some e ∧ 0 < e.units) →
            t.sending .claim ∧ t.share.wishUnits = 0) ∧
          t.airLoad = 0 ∧ t.defrostLoad = 0 ∧ DefrostPauses s t) ∧
      (s.supply.qualify.isSome = true →
        ∃ t, exec (.qualifyTimerExpiry codes) s = .next t ∧ t.table = s.table ∧ t.overrides = s.overrides ∧
          t.supply = { s.supply with qualify := none, state := .live } ∧ DefrostResumes s t)

/-- R62 to R64: the debounced line level changes; the loss of the line keeps an aside that is within its bounds (R62). R114,
R115, R120, R121: what the defrost unit does in the same event. -/
def Obligations.LineLevelMovesSupply : Prop :=
  ∀ (codes : Sensors) (s : State), s.supply.debounce.isSome = true →
    ∃ t, exec (.lineLevelChange codes) s = .next t ∧ t.table = s.table ∧ t.overrides = s.overrides ∧
      t.supply =
        (match s.supply.state, s.pins.line with
        | .settling, good => { s.supply with good, debounce := none }
        | .live, true => { s.supply with good := true, debounce := none }
        | .live, false =>
          { s.supply with
            good := false, debounce := none, state := .rideThrough, rideThrough := some s.loader.vt.rideThrough }
        | .rideThrough, true =>
          { s.supply with good := true, debounce := none, state := .live, rideThrough := none }
        | .rideThrough, false => { s.supply with good := false, debounce := none }
        | .shed, true => { s.supply with good := true, debounce := none, qualify := some 1000 }
        | .shed, false => { s.supply with good := false, debounce := none, qualify := none }) ∧
      (s.running = true → t.supply.state ≠ .live → t.airLoad = 0 ∧ t.defrostLoad = 0) ∧
      (s.running = true → s.supply.state = .live → s.pins.line = false →
        DefrostPauses s t ∧
          (s.member.state ≠ .mismatched →
            max s.ownRow.owed (max s.share.commit (s.ownRow.safety - s.safetyKept)) ≤ s.share.aside →
            s.share.aside ≤ s.ownRow.borrowed → t.share.aside = s.share.aside)) ∧
      (s.running = true → s.supply.state = .rideThrough → s.pins.line = true → DefrostResumes s t) ∧
      (s.supply.state = .settling ∨ s.supply.state = .shed ∨ (s.supply.state = .live ↔ s.pins.line = true) →
        s.defrost.state ≠ .waiting → t.defrost = s.defrost)

/-- R61, R90, R110: a change of a raw line, door or fog input starts its debouncing afresh, and acts on nothing else. That a
raw change where no debouncing runs moves the pin only is read from these rules (entry 26, DEDUCED), and so is the start of the
count (entry 17, DEDUCED); a raw change to the level that the pin already has is the model's case (entry 1, DESIGN CHOICE). -/
def Obligations.RawInputsOnlyDebounce : Prop :=
  (∀ (high : Bool) (s : State),
    exec (.lineRawChange high) s =
      .next { s with
        moment := s.moment + 1, pins := { s.pins with line := high }
        supply :=
          if s.pins.line ≠ high ∧ (s.loader.phase = .reading ∨ s.loader.phase = .loaded) then
            { s.supply with debounce := if high = s.supply.good then none else some 10 }
          else s.supply }) ∧
    (∀ (active : Bool) (s : State),
      exec (.fogRawChange active) s =
        .next { s with
          moment := s.moment + 1, pins := { s.pins with fog := active }
          defrost :=
            if s.pins.fog ≠ active ∧ s.running = true ∧ s.isCab = true then
              { s.defrost with fogDebounce := if active = s.defrost.fog then none else some 1000 }
            else s.defrost }) ∧
    (∀ (apart : Bool) (s : State),
      exec (.doorRawChange 0 apart) s =
        .next { s with
          moment := s.moment + 1, pins := { s.pins with door0 := apart }
          doors :=
            if s.pins.door0 ≠ apart ∧ s.running = true ∧ 0 < s.entry.doorCount then
              { s.doors with
                door0 := { s.doors.door0 with
                  debounce :=
                    if s.doors.door0.level = some (if apart then .apart else .shut) then none
                    else some s.loader.vt.debounce } }
            else s.doors }) ∧
    ∀ (apart : Bool) (s : State),
      exec (.doorRawChange 1 apart) s =
        .next { s with
          moment := s.moment + 1, pins := { s.pins with door1 := apart }
          doors :=
            if s.pins.door1 ≠ apart ∧ s.running = true ∧ 1 < s.entry.doorCount then
              { s.doors with
                door1 := { s.doors.door1 with
                  debounce :=
                    if s.doors.door1.level = some (if apart then .apart else .shut) then none
                    else some s.loader.vt.debounce } }
            else s.doors }

/-! ## The zone controller -/

/-- R67 to R76, R86, R101: a periodic evaluation, with the table of R67 for a sensor and its run of three periodic codes in
range, the zone temperature of R68, the demand of R75 and the rows of R86; what it makes of aside, wish, CLAIM and RETURN (R49 to
R54, R57) and of the stages (R79 to R84); and the cab's defrost unit with the readings it brings (R110, R114 to R116). That the
cab takes its readings before the evaluation's own steps (entry 28), and that one evaluation follows them (entry 6), is read from
the rules (DEDUCED). What the evaluation makes of aside, wish, CLAIM and RETURN rests on the model's readings (entries 7, 8, 9 and
29, DEDUCED) and choices (entries 32 and 43, DESIGN CHOICES). -/
def Obligations.PeriodicEvaluationMeasures : Prop :=
  (∀ (a : AirSensor) (code : Byte),
    (¬(-80 ≤ code.toInt ∧ code.toInt ≤ 120) →
      (∀ periodic, a.updated periodic code = { validity := .invalid, recovery := 0 }) ∧ a.value code = none) ∧
      (-80 ≤ code.toInt → code.toInt ≤ 120 →
        a.updated true code =
            (if a.validity = .invalid ∧ a.recovery < 2 then { validity := .invalid, recovery := a.recovery + 1 }
            else { validity := .valid, recovery := 0 }) ∧
          a.value code = if a.validity = .valid then some code.toInt else none)) ∧
  (∀ (a : AirSensor) (c1 c2 c3 : Byte), a.validity = .invalid → a.recovery = 0 →
    (-80 ≤ c1.toInt ∧ c1.toInt ≤ 120) → (-80 ≤ c2.toInt ∧ c2.toInt ≤ 120) → (-80 ≤ c3.toInt ∧ c3.toInt ≤ 120) →
    (a.updated true c1).validity = .invalid ∧ ((a.updated true c1).updated true c2).validity = .invalid ∧
      (((a.updated true c1).updated true c2).updated true c3).validity = .valid) ∧
  (∀ x y z : Int,
    (∃ m, zoneTempOf (some x) (some y) (some z) = some m ∧ m ∈ [x, y, z] ∧
        2 ≤ ([x, y, z].filter (fun v => decide (v ≤ m))).length ∧
        2 ≤ ([x, y, z].filter (fun v => decide (m ≤ v))).length) ∧
      zoneTempOf (some x) (some y) none = some (min x y) ∧ zoneTempOf (some x) none (some y) = some (min x y) ∧
      zoneTempOf none (some x) (some y) = some (min x y) ∧ zoneTempOf (some x) none none = some x ∧
      zoneTempOf none (some x) none = some x ∧ zoneTempOf none none (some x) = some x ∧
      zoneTempOf none none none = none) ∧
  (∀ (capacity gain : Nat) (p x : Int),
    activeDemand capacity gain (some p) (some x) = if p - x ≤ 0 then 0 else min capacity ((p - x).toNat * gain)) ∧
  ∀ (codes : Sensors) (s : State), s.running = true → s.zone.period.isSome = true →
    ∃ t, exec (.periodicEvaluation codes) s = .next t ∧ t.zone.period = some 1000 ∧ t.zone.pendingFlag = false ∧
      SensorsRead true codes s t ∧ ZoneMeasured codes t ∧
      t.doors = (if s.isCab = true then { s.doors with outdoor := readingOf codes.outdoor } else s.doors) ∧
      (∀ code : Byte,
        readingOf code = if -80 ≤ code.toInt ∧ code.toInt ≤ 120 then some code.toInt else none) ∧
      DefrostReads s { s with doors := t.doors, defrost := { s.defrost with screen := readingOf codes.screen } } t ∧
      ShareEvaluated
        { s with doors := t.doors, defrost := t.defrost, zone := { s.zone with base := t.zone.base } } t ∧
      StagesRegulated { s with doors := t.doors, defrost := t.defrost } t ∧
      t.zone.setpoint = s.zone.setpoint ∧ t.table = s.table ∧ t.overrides = s.overrides ∧ t.supply = s.supply

/-- R67, R71, R78, R82: a stage's minimum timer runs out: it is clear, unless the evaluation of that moment switches the stage,
which starts it again; what the evaluation makes of aside, wish, CLAIM and RETURN (R49 to R54, R57) and of all stages (R79 to
R84); it leaves the period and the pending flag as they stand, and an INVALID sensor's recovery
count with them. What it makes of aside, wish, CLAIM and RETURN rests on the model's readings (entries 7, 8, 9 and 29, DEDUCED) and
choices (entries 32 and 43, DESIGN CHOICES). -/
def Obligations.StageTimerClears : Prop :=
  ∀ (codes : Sensors) (stage : Fin 4) (s : State) (g : Stage), s.running = true →
    s.zone.stages[stage.val]? = some g → g.timer ≠ .clear →
    ∃ t, exec (.stageMinimumTimerExpiry codes stage) s = .next t ∧
      (∃ g', t.zone.stages[stage.val]? = some g' ∧ g'.size = g.size ∧
        g'.timer =
          (if g'.on = g.on then .clear
          else if g'.on = true then .afterOn s.loader.vt.stageMinimum else .afterOff s.loader.vt.stageMinimum)) ∧
      t.zone.period = s.zone.period ∧ t.zone.pendingFlag = s.zone.pendingFlag ∧ t.zone.setpoint = s.zone.setpoint ∧
      SensorsRead false codes s t ∧ ZoneMeasured codes t ∧ DefrostSees False s t ∧
      (∀ e : State,
        e = { s with
          defrost := t.defrost
          zone := { s.zone with
            base := t.zone.base, stages := s.zone.stages.modify stage.val (fun x => { x with timer := .clear }) } } →
        ShareEvaluated e t ∧ StagesRegulated e t) ∧
      (∀ (a : AirSensor) (code : Byte),
        a.updated false code =
          if -80 ≤ code.toInt ∧ code.toInt ≤ 120 then
            (if a.validity = .invalid then a else { validity := .valid, recovery := 0 })
          else { validity := .invalid, recovery := 0 }) ∧
      t.table = s.table ∧ t.doors = s.doors ∧
      t.overrides = s.overrides ∧ t.supply = s.supply

/-- R80, R81, R83: the choice of stages by the running sum, the two passes, and forcing. A switch OFF by the passes goes by
wanted and timer alone; a switch ON also by the load as it stands when the stage is reached: the stages before it as they are
switched, the others as the switch-off pass left them. -/
def Obligations.StageSwitchingRules : Prop :=
  ∀ (minimum target limit : Nat) (allowed : Bool) (stages : List Stage),
    (∀ (i : Nat) (g : Stage), stages[i]? = some g →
      (wantedFrom target 0 stages)[i]? =
        some (decide (0 < g.size ∧
          (((((stages.zip (wantedFrom target 0 stages)).take i).filter (·.2)).map (·.1.size)).sum + g.size ≤ target)))) ∧
    (∀ (i : Nat) (g g' : Stage), stages[i]? = some g →
      (switched minimum target limit allowed stages)[i]? = some g' →
      g'.size = g.size ∧ (g'.on = g.on → g' = g) ∧
        (g.on = false →
          (g'.on = true ↔
            (wantedFrom target 0 stages)[i]? = some true ∧ g.timer = .clear ∧ allowed = true ∧
              loadOf ((switched minimum target limit allowed stages).take i) +
                loadOf ((switched minimum target limit false stages).drop i) + g.size ≤ limit) ∧
            (g'.on = true → g'.timer = .afterOn minimum)) ∧
        (g.on = true →
          (g'.on = false ↔ (wantedFrom target 0 stages)[i]? = some false ∧ g.timer = .clear) ∧
            (g'.on = false → g'.timer = .afterOff minimum))) ∧
      (switched minimum target limit allowed stages).length = stages.length ∧
      (loadOf stages ≤ limit → loadOf (switched minimum target limit allowed stages) ≤ limit) ∧
      (((stages.zip (wantedFrom target 0 stages)).filter (·.2)).map (·.1.size)).sum ≤ target ∧
      loadOf (forced minimum limit stages) ≤ limit ∧
      ∃ kept, forced minimum limit stages =
          stages.take kept ++ (stages.drop kept).map (fun g =>
            if g.on = true then { g with on := false, timer := .afterOff minimum } else g) ∧
        (loadOf stages ≤ limit → forced minimum limit stages = stages) ∧
        ∀ n, kept < n → n ≤ stages.length → limit < loadOf (stages.take n)

/-! ## The door unit -/

/-- R91, R92, R95 to R97, R178: a door's debounced level changes; R104: the DRAFT of every change of the activity. -/
def Obligations.DoorLevelMovesDoorAndOneShot : Prop :=
  ∀ (codes : Sensors) (door : Fin 2) (s : State), s.running = true → (s.door door).debounce.isSome = true →
    ∃ t, exec (.doorLevelChange codes door) s = .next t ∧
      (t.door door).level = some (s.rawDoor door) ∧ (t.door door).debounce = none ∧
      t.door (if door = 0 then 1 else 0) = s.door (if door = 0 then 1 else 0) ∧
      ((s.door door).state = .unsampled → t.doors.oneShot = s.doors.oneShot ∧ t.stats.counters = s.stats.counters) ∧
      ((s.door door).state = .unsampled ∨ (s.door door).state = .closed → s.rawDoor door = .apart →
        (t.door door).state = .opened ∧ (t.door door).longOpen = some s.loader.vt.longOpen) ∧
      ((s.door door).state ≠ .closed → s.rawDoor door = .shut → (t.door door).state = .closed) ∧
      ((s.door door).state = .closed → s.rawDoor door = .apart →
        t.stats.counters =
            (if door = 0 then
              { s.stats.counters with
                door0Opens := bumped s.loader.vt.counterFreeze 1 s.stats.counters.door0Opens }
            else
              { s.stats.counters with
                door1Opens := bumped s.loader.vt.counterFreeze 1 s.stats.counters.door1Opens }) ∧
          (s.overrides.boostInhibit = none → t.doors.oneShot = .held ∧ t.doors.tail = none) ∧
          (s.overrides.boostInhibit.isSome = true → t.doors.oneShot = s.doors.oneShot) ∧
          (s.overrides.boostInhibit = none → s.doors.oneShot = .idle →
            (s.doors.lastStated = false → s.member.state ≠ .clash → t.sending .draft) ∧
              (s.doors.lastStated = true → s.flying .draft = false → t.hasTx .draft = false))) ∧
      ((s.door door).state = .opened ∨ (s.door door).state = .longOpen → s.rawDoor door = .shut →
        (t.door door).longOpen = none ∨ (s.door door).state = .longOpen) ∧
      ((s.door door).state = .opened ∨ (s.door door).state = .longOpen → s.rawDoor door = .shut →
        (s.door (if door = 0 then 1 else 0)).isOpen = false →
        (s.overrides.boostInhibit = none →
          t.doors.oneShot = .tail ∧ t.doors.tail = some (s.loader.vt.tailBase * s.factor)) ∧
          (s.overrides.boostInhibit.isSome = true → t.doors.oneShot = s.doors.oneShot)) ∧
      ((s.door door).state = .opened ∨ (s.door door).state = .longOpen → s.rawDoor door = .shut →
        ((s.door (if door = 0 then 1 else 0)).state = .opened → t.doors.oneShot = s.doors.oneShot) ∧
          ((s.door (if door = 0 then 1 else 0)).state = .longOpen →
            (s.doors.oneShot = .held →
              t.doors.oneShot = .idle ∧
                (s.doors.lastStated = true → s.member.state ≠ .clash → t.sending .draft)) ∧
              (s.doors.oneShot ≠ .held → t.doors.oneShot = s.doors.oneShot))) ∧
      DraftFollowsOneShot s t ∧
      t.table = s.table ∧ t.overrides = s.overrides ∧ t.supply = s.supply

/-- R92, R97, R98, R102, R106: the long-open, tail, spill and outdoor age timers run out; and the outdoor factor (R103), the
boost figure (R100) and the spill figure (R107); the DRAFT of a boost that ends (R104). -/
def Obligations.DoorUnitTimers : Prop :=
  (∀ s : State,
    s.factor =
        (match s.doors.outdoor with
        | some x => if 10 ≤ x then 1 else if -20 ≤ x then 2 else 3
        | none => 3) ∧
      s.boost =
        (if s.doors.oneShot = .idle then 0
        else min (s.zone.stages.map (·.size)).sum (s.entry.doorBoost * s.factor)) ∧
      s.spillFigure = (if s.doors.spill = [] then 0 else (s.entry.doorBoost * s.factor + 1) / 2)) ∧
  ∀ (codes : Sensors) (s : State), s.running = true →
    (∀ door, (s.door door).longOpen.isSome = true →
      ∃ t, exec (.longOpenExpiry codes door) s = .next t ∧
        t.door door = { s.door door with state := .longOpen, longOpen := none } ∧
        t.door (if door = 0 then 1 else 0) = s.door (if door = 0 then 1 else 0) ∧
        ((s.door (if door = 0 then 1 else 0)).state ≠ .opened → s.doors.oneShot = .held → t.doors.oneShot = .idle) ∧
        ((s.door (if door = 0 then 1 else 0)).state = .opened ∨ s.doors.oneShot ≠ .held →
          t.doors.oneShot = s.doors.oneShot) ∧
        DraftFollowsOneShot s t ∧ t.table = s.table ∧ t.overrides = s.overrides ∧ t.supply = s.supply) ∧
      (s.doors.tail.isSome = true →
        ∃ t, exec (.tailTimerExpiry codes) s = .next t ∧ t.doors = { s.doors with oneShot := .idle, tail := none } ∧
          (s.doors.oneShot ≠ .idle → s.doors.lastStated = true → s.member.state ≠ .clash → t.sending .draft) ∧
          DraftFollowsOneShot s t ∧ t.boost = 0 ∧ t.table = s.table ∧ t.overrides = s.overrides ∧ t.supply = s.supply) ∧
      (∀ station : Fin 8, (∃ e ∈ s.doors.spill, e.station = station.val) →
        ∃ t, exec (.spillTimerExpiry codes station) s = .next t ∧
          t.doors = { s.doors with spill := s.doors.spill.filter (fun e => e.station != station.val) } ∧
          t.table = s.table ∧ t.overrides = s.overrides ∧ t.supply = s.supply) ∧
      (s.doors.outdoorAge.isSome = true →
        ∃ t, exec (.outdoorAgeExpiry codes) s = .next t ∧ t.doors = { s.doors with outdoor := none, outdoorAge := none } ∧
          t.factor = 3 ∧ t.table = s.table ∧ t.overrides = s.overrides ∧ t.supply = s.supply)

/-! ## The defrost unit -/

/-- R110 to R112, R114 to R118: the three figures of each defrost state and the safety units held; the fog level changes, and
the ramp, hold and trim timers run out, where a ramp timeout is noted with a REPORT in flight (R185). A cold outside is a
reading below the auto threshold, or none. A WAITING state with enough safety units held, which no run reaches, goes on to
RAMP in any event. -/
def Obligations.DefrostCycle : Prop :=
  (∀ s : State,
    s.safetyHeld = min s.ownRow.safety (s.ownRow.borrowed - s.ownRow.owed) ∧
      (s.isCab = false → s.request = 0 ∧ s.safetyKept = 0 ∧ s.claimFigure = 0) ∧
      (s.isCab = true →
        (s.defrost.state = .off → s.request = 0 ∧ s.safetyKept = 0 ∧ s.claimFigure = 0) ∧
          (s.defrost.state = .waiting ∨ s.defrost.state = .ramp ∨ s.defrost.state = .hold →
            s.request = s.loader.vt.defrostUnits ∧ s.safetyKept = s.loader.vt.defrostUnits ∧
              s.claimFigure = s.loader.vt.defrostUnits - s.safetyHeld) ∧
          (s.defrost.state = .trim →
            s.request = s.loader.vt.trimUnits ∧ s.safetyKept = s.loader.vt.trimUnits ∧ s.claimFigure = 0) ∧
          (s.defrost.state = .paused →
            s.request = 0 ∧ s.safetyKept = s.defrost.pausedKept ∧ s.claimFigure = 0))) ∧
  ∀ (codes : Sensors) (s : State), s.running = true → s.isCab = true →
    (s.defrost.fogDebounce.isSome = true →
      ∃ t, exec (.fogLevelChange codes) s = .next t ∧ t.defrost.fog = s.pins.fog ∧ t.defrost.fogDebounce = none ∧
        (s.defrost.state = .trim → s.pins.fog = true →
          t.defrost.state = (if s.screenClear = true then .hold else .ramp) ∧
            t.defrost.phase = some (if s.screenClear = true then s.loader.vt.holdTime else s.loader.vt.rampLimit)) ∧
        (s.coldOutside = true ↔ ∀ x, s.doors.outdoor = some x → x < s.loader.vt.autoThreshold) ∧
        (s.screenClear = true ↔ ∃ x, s.defrost.screen = some x ∧ s.loader.vt.clearTemp ≤ x) ∧
        (s.defrost.state = .off →
          s.defrostMode = .max ∨ (s.defrostMode = .auto ∧ s.pins.fog = true ∧ s.coldOutside = true) →
          (s.live = true → s.member.state ≠ .clash → s.safetyHeld < s.loader.vt.defrostUnits →
            t.defrost.state = .waiting ∧ t.defrost.phase = none) ∧
            (s.live = true → s.member.state ≠ .clash → s.loader.vt.defrostUnits ≤ s.safetyHeld →
              t.defrost.state = (if s.screenClear = true then .hold else .ramp) ∧
                t.defrost.phase = some (if s.screenClear = true then s.loader.vt.holdTime else s.loader.vt.rampLimit)) ∧
            (s.live = false ∨ s.member.state = .clash → t.defrost.state = .paused ∧ t.defrost.pausedKept = 0)) ∧
        (s.defrost.state = .off →
          s.defrostMode = .off ∨ (s.defrostMode = .auto ∧ (s.pins.fog = false ∨ s.coldOutside = false)) →
          t.defrost.state = .off) ∧
        (s.defrost.state = .trim → s.pins.fog = false →
          t.defrost.state = .trim ∧ t.defrost.phase = s.defrost.phase) ∧
        (s.defrost.state = .waiting → s.safetyHeld < s.loader.vt.defrostUnits →
          t.defrost.state = .waiting ∧ t.defrost.phase = s.defrost.phase) ∧
        (s.defrost.state = .ramp ∨ s.defrost.state = .hold ∨ s.defrost.state = .paused →
          t.defrost.state = s.defrost.state ∧ t.defrost.phase = s.defrost.phase) ∧
        t.table = s.table ∧ t.doors = s.doors ∧ t.overrides = s.overrides ∧ t.supply = s.supply) ∧
      (s.defrost.state = .ramp → s.defrost.phase.isSome = true →
        ∃ t, exec (.rampTimerExpiry codes) s = .next t ∧
          t.defrost = { s.defrost with state := .hold, phase := some s.loader.vt.holdTime } ∧
          t.stats.flags = { s.stats.flags with rampTimeout := true } ∧ t.stats.counters = s.stats.counters ∧
          t.stats.inFlight = s.stats.inFlight.map (fun f => { f with since := { f.since with rampTimeout := true } }) ∧
          t.table = s.table ∧ t.doors = s.doors ∧ t.overrides = s.overrides ∧ t.supply = s.supply) ∧
      (s.defrost.state = .hold → s.defrost.phase.isSome = true →
        ∃ t, exec (.holdTimerExpiry codes) s = .next t ∧
          t.defrost =
            (if s.defrostMode = .auto ∧ s.defrost.fog = false then
              { s.defrost with state := .trim, phase := some s.loader.vt.trimTime }
            else { s.defrost with state := .hold, phase := some s.loader.vt.holdTime }) ∧
          t.table = s.table ∧ t.doors = s.doors ∧ t.overrides = s.overrides ∧ t.supply = s.supply) ∧
      (s.defrost.state = .trim → s.defrost.phase.isSome = true →
        ∃ t, exec (.trimTimerExpiry codes) s = .next t ∧ t.defrost = { s.defrost with state := .off, phase := none } ∧
          t.request = 0 ∧ t.safetyKept = 0 ∧ t.claimFigure = 0 ∧
          t.table = s.table ∧ t.doors = s.doors ∧ t.overrides = s.overrides ∧ t.supply = s.supply)

/-! ## Overrides, statistics, start-up -/

/-- R69, R133, R135: a slot's expiry timer and the panel silence timer run out; R132: what the emptied slots hand on.
What the evaluation makes of aside, wish, CLAIM and RETURN rests on the model's readings (entries 7, 8, 9 and 29, DEDUCED) and
choices (entries 32 and 43, DESIGN CHOICES). -/
def Obligations.SlotsEmptyByTime : Prop :=
  ∀ (codes : Sensors) (s : State), s.running = true →
    (∀ kind, (s.overrides.expiry kind).isSome = true →
      ∃ t, exec (.slotExpiry codes kind) s = .next t ∧ t.overrides = s.overrides.emptied kind ∧
        t.overrides.active kind = false ∧
        (kind = .setpointOffset → t.zone.setpoint = some (max 20 (min 56 s.entry.baseSetpoint))) ∧
        SlotsHandedOn codes s t ∧ t.table = s.table ∧ t.supply = s.supply) ∧
      (s.overrides.panelSilence.isSome = true →
        ∃ t, exec (.panelSilenceExpiry codes) s = .next t ∧
          t.overrides =
            { setpointOffset := s.overrides.setpointOffset.filter (fun x => x.expiry.isSome)
              fanForce := s.overrides.fanForce.filter (fun x => x.expiry.isSome)
              zoneOff := s.overrides.zoneOff.filter (fun x => x.expiry.isSome)
              boostInhibit := s.overrides.boostInhibit.filter (fun x => x.expiry.isSome)
              economy := s.overrides.economy.filter (fun x => x.expiry.isSome)
              defrostMode := s.overrides.defrostMode.filter (fun x => x.expiry.isSome)
              panelSilence := none } ∧
          SlotsHandedOn codes s t ∧ t.table = s.table ∧ t.supply = s.supply)

/-- R180, R181: what one increment makes of a counter, the marks it reaches and the flags they set, also among those that a REPORT in
flight notes from its frame start on (R185); R178, R179: a statistics second. -/
def Obligations.CountersMarksAndTheSecond : Prop :=
  (∀ (w amount : Nat) (c : BitVec w),
    (∀ freeze, c.toNat + amount < 2 ^ w → (bumped freeze amount c).toNat = c.toNat + amount) ∧
      (2 ^ w ≤ c.toNat + amount →
        bumped true amount c = BitVec.allOnes w ∧ (bumped false amount c).toNat = (c.toNat + amount) % 2 ^ w) ∧
      (∀ freeze, (marksOf freeze amount c).half = true ↔ c.msb = false ∧ (bumped freeze amount c).msb = true) ∧
      ((marksOf true amount c).full = true ↔ c ≠ BitVec.allOnes w ∧ bumped true amount c = BitVec.allOnes w) ∧
      ((marksOf false amount c).full = true ↔ 2 ^ w ≤ c.toNat + amount)) ∧
    (∀ (vt : VehicleTable) (k : Counter) (amount : Nat) (st : Stats),
      (st.count vt k amount).flags =
          (if vt.attentionMask.getLsbD k.place = true then st.flags
          else if k.place < 5 then
            { st.flags with
              half0 := st.flags.half0 || (st.counters.marks vt.counterFreeze k amount).half
              full0 := st.flags.full0 || (st.counters.marks vt.counterFreeze k amount).full }
          else
            { st.flags with
              half1 := st.flags.half1 || (st.counters.marks vt.counterFreeze k amount).half
              full1 := st.flags.full1 || (st.counters.marks vt.counterFreeze k amount).full }) ∧
        (st.count vt k amount).inFlight =
          st.inFlight.map (fun f => { f with
            since :=
              if vt.attentionMask.getLsbD k.place = true then f.since
              else if k.place < 5 then
                { f.since with
                  half0 := f.since.half0 || (st.counters.marks vt.counterFreeze k amount).half
                  full0 := f.since.full0 || (st.counters.marks vt.counterFreeze k amount).full }
              else
                { f.since with
                  half1 := f.since.half1 || (st.counters.marks vt.counterFreeze k amount).half
                  full1 := f.since.full1 || (st.counters.marks vt.counterFreeze k amount).full } }) ∧
        (st.count vt k amount).snapshot = st.snapshot ∧ (st.count vt k amount).request = st.request) ∧
    ∀ s : State, s.running = true → s.stats.second.isSome = true →
      ∃ t, exec .statisticsSecond s = .next t ∧ t.stats.second = some 1000 ∧
        t.stats.counters =
          { s.stats.counters with
            energy := bumped s.loader.vt.counterFreeze s.stationLoad s.stats.counters.energy
            waitSeconds :=
              if s.ownEntry.isSome = true then bumped s.loader.vt.counterFreeze 1 s.stats.counters.waitSeconds
              else s.stats.counters.waitSeconds
            door0Seconds :=
              if s.doors.door0.isOpen = true then bumped s.loader.vt.counterFreeze 1 s.stats.counters.door0Seconds
              else s.stats.counters.door0Seconds
            door1Seconds :=
              if s.doors.door1.isOpen = true then bumped s.loader.vt.counterFreeze 1 s.stats.counters.door1Seconds
              else s.stats.counters.door1Seconds } ∧
        t.stats.snapshot = s.stats.snapshot ∧ t.stats.request = s.stats.request ∧
        { t with moment := s.moment, stats := s.stats, bus := s.bus } = s

/-- R25, R47, R61, R87, R111, R128, R144, R175, R178, R181, R182, R186, R190, R196: the two resets and the release; the
pins and the waiting commands are the outside world's (entry 4, DESIGN CHOICE), and the line debounce starts at the release
(entry 17, DEDUCED). -/
def Obligations.ResetsAndRelease : Prop :=
  ∀ s : State,
    exec .powerOnReset s =
        .next { State.reset with pending := s.pending, moment := s.moment + 1, pins := s.pins } ∧
      exec .externalReset s =
        .next { State.reset with
          pending := s.pending, moment := s.moment + 1, pins := s.pins
          stats := { Stats.reset with
            counters := s.stats.counters, flags := { s.stats.flags with config := false } } } ∧
      (∀ straps, s.loader.phase = .inReset →
        exec (.resetRelease straps) s =
          .next { s with
            moment := s.moment + 1, loader := { s.loader with phase := .reading, strap := straps }
            supply := { s.supply with debounce := if s.pins.line = s.supply.good then none else some 10 } })

/-- R192 to R195: the load's result. With a table in force follow the first evaluation, which is periodic (R87), the start of door
and fog debouncing (R90, R110) and, at the cab, the readings with the first check of R114, which finds the supply SETTLING. That
debouncing begins anew at the load (entry 17), that the readings come before the evaluation (entry 28), that the event makes one
evaluation (entry 6) and that the pending flag, set by the first setpoint (entry 25), is cleared in it are the model's readings, all
DEDUCED; what the evaluation makes of aside, wish, CLAIM and RETURN rests on those of entries 7, 8, 9 and 29 and on the choices of
entries 32 and 43. -/
def Obligations.OptionLoadResult : Prop :=
  ∀ s : State, s.loader.phase = .reading →
    (∀ codes bytes,
      (tableFrom s.me bytes = none →
        ∃ t, exec (.optionReadDone codes bytes) s = .next t ∧ t.loader = { s.loader with phase := .failed } ∧
          t.member.state = .unconfigured ∧ t.fault = true ∧ t.table = s.table) ∧
      ∀ image vt, tableFrom s.me bytes = some (image, vt) →
        ∃ t, exec (.optionReadDone codes bytes) s = .next t ∧
          t.loader = { s.loader with phase := .loaded, image, vt } ∧ t.table = ShareTable.ofRoster vt.roster ∧
          t.member.state = .listen ∧ t.member.census = some 5000 ∧ t.member.leaseNews = false ∧
          t.supply = { s.supply with settle := some 3000 } ∧ t.zone.period = some 1000 ∧
          t.zone.setpoint = some (max 20 (min 56 (t.entry.baseSetpoint +
            (match s.overrides.setpointOffset with
            | some x => x.value
            | none => 0)))) ∧
          t.zone.stages.map (·.size) = t.entry.sizes ∧ t.stats.second = some 1000 ∧
          SensorsRead true codes s t ∧ ZoneMeasured codes t ∧ t.zone.pendingFlag = false ∧
          (s.supply.state ≠ .live →
            t.zone.stages = t.entry.sizes.map (fun size => { size, on := false, timer := .clear })) ∧
          (∀ e : State,
            e =
                { t with
                  share := s.share, bus := s.bus
                  zone := { t.zone with
                    stages := t.entry.sizes.map (fun size => { size, on := false, timer := .clear }) } } →
            ShareEvaluated e t ∧ StagesRegulated e t) ∧
          t.overrides = s.overrides ∧
          t.doors =
            { s.doors with
              door0 := { s.doors.door0 with
                debounce := if 0 < t.entry.doorCount then some vt.debounce else s.doors.door0.debounce }
              door1 := { s.doors.door1 with
                debounce := if 1 < t.entry.doorCount then some vt.debounce else s.doors.door1.debounce }
              outdoor := if t.isCab = true then readingOf codes.outdoor else s.doors.outdoor } ∧
          (s.defrost.state = .off →
            (t.isCab = false → t.defrost = { s.defrost with fogDebounce := none }) ∧
              (t.isCab = true →
                (¬DefrostWanted t →
                  t.defrost =
                    { s.defrost with
                      screen := readingOf codes.screen
                      fogDebounce := if s.pins.fog = true then some 1000 else none }) ∧
                  (DefrostWanted t → s.supply.state ≠ .live →
                    t.defrost =
                      { s.defrost with
                        state := .paused, phase := none, pausedKept := 0, screen := readingOf codes.screen
                        fogDebounce := if s.pins.fog = true then some 1000 else none })))) ∧
      ∀ cause, ∃ t, exec (.optionReadFailed cause) s = .next t ∧ t.loader = { s.loader with phase := .failed } ∧
        t.member.state = .unconfigured ∧ t.fault = true ∧ t.table = s.table

/-- R190 to R192, R203: a table comes into force only when every check holds, and it holds what the bytes spell by the layout of
R203; times are in milliseconds. That bits 7 to 1 of byte 20 are not looked at is read from the rules (entry 18, DEDUCED). -/
def Obligations.TableInForceIsChecked : Prop :=
  ∀ (strap : Nat) (bytes image : List Byte) (vt : VehicleTable), tableFrom strap bytes = some (image, vt) →
    image = bytes.take (22 + 9 * vt.roster.length) ∧ image.length = 22 + 9 * vt.roster.length ∧
      2 ≤ vt.roster.length ∧ vt.roster.length ≤ 8 ∧ vt.check = checkOf (byteBits (image.drop 2)) ∧
      SpellsFields image vt ∧ (∀ (k : Nat) (e : RosterEntry), vt.roster[k]? = some e → SpellsEntry image (22 + 9 * k) e) ∧
      (vt.roster.map (·.station)).Nodup ∧ (vt.roster.filter (fun e => e.role == .cab)).length = 1 ∧
      vt.rideThrough ∈ [250, 500, 1000, 2000, 4000] ∧ vt.returnBatch ∈ [1, 2, 4, 8] ∧
      vt.returnTimer ∈ [500, 1000, 2000, 4000] ∧ vt.claimSpacing ∈ [1000, 2000, 4000] ∧
      vt.stageMinimum ∈ [5000, 10000, 20000, 30000] ∧ vt.debounce ∈ [20, 40, 80, 160] ∧
      30000 ≤ vt.longOpen ∧ vt.longOpen ≤ 240000 ∧ vt.longOpen % 1000 = 0 ∧
      vt.tailBase ∈ [5000, 10000, 15000, 20000] ∧
      30000 ≤ vt.spillLimit ∧ vt.spillLimit ≤ 240000 ∧ vt.spillLimit % 1000 = 0 ∧
      1 ≤ vt.defrostUnits ∧ vt.defrostUnits ≤ 31 ∧
      -80 ≤ vt.clearTemp ∧ vt.clearTemp ≤ 120 ∧ -80 ≤ vt.autoThreshold ∧ vt.autoThreshold ≤ 120 ∧
      60000 ≤ vt.rampLimit ∧ vt.rampLimit ≤ 900000 ∧ vt.rampLimit % 60000 = 0 ∧
      60000 ≤ vt.holdTime ∧ vt.holdTime ≤ 900000 ∧ vt.holdTime % 60000 = 0 ∧
      60000 ≤ vt.trimTime ∧ vt.trimTime ≤ 900000 ∧ vt.trimTime % 60000 = 0 ∧
      image[19]? = some (if vt.counterFreeze = true then 1 else 0) ∧
      vt.trimUnits ≤ vt.defrostUnits ∧ (vt.roster.map (·.dedicated)).sum ≤ 248 ∧
      (∃ e ∈ vt.roster, e.station = strap) ∧
      ∀ e ∈ vt.roster, e.station ≤ 7 ∧ e.dedicated ≤ 31 ∧ e.weight ∈ [0, 1, 2, 4, 8] ∧ 1 ≤ e.gain ∧ e.gain ≤ 4 ∧
        -127 ≤ e.baseSetpoint ∧ e.baseSetpoint ≤ 127 ∧ e.doorCount ≤ 2 ∧ e.doorBoost ≤ 15 ∧ e.sizes.length = 4 ∧
        (∀ size ∈ e.sizes, size ≤ 15) ∧
        e.neighbours.length ≤ 2 ∧ e.neighbours.Nodup ∧
        ∀ n ∈ e.neighbours, n ≠ e.station ∧ ∃ o ∈ vt.roster, o.station = n

/-! ## Laws that every step keeps -/

/-- The laws hold at reset, and the values that the manual gives the reset hold there (R25, R47, R61, R87, R93 in 5.2, R106
in 5.5, R111, R128, R144, R175, R178, R181, R186). -/
def Obligations.ResetStateIsLawful : Prop :=
  TableLaw State.reset.table ∧ PhaseLaw State.reset ∧ LoadLaw State.reset ∧ AsideLaw State.reset ∧
    BoostLaw State.reset ∧ TransmitLaw State.reset ∧ SendLaw State.reset ∧ FailureLaw State.reset ∧
    State.reset.table.leaseState = .noLease ∧ State.reset.share.aside = 0 ∧ State.reset.share.leaseExpired = false ∧
    State.reset.supply.state = .settling ∧ State.reset.supply.good = false ∧ State.reset.zone.fan = 0 ∧
    State.reset.zone.temp = none ∧ State.reset.doors.oneShot = .idle ∧ State.reset.doors.spill = [] ∧
    State.reset.defrost.state = .off ∧ State.reset.overrides = Overrides.reset ∧
    State.reset.member.state = .undecided ∧ State.reset.bus.queue = [] ∧ State.reset.bus.standing = .active ∧
    State.reset.bus.failures = 0 ∧ State.reset.bus.idle = false ∧ State.reset.stats.counters = Counters.zero ∧
    State.reset.stats.flags = Attention.clear ∧ State.reset.stats.snapshot = none ∧ State.reset.fault = false

/-- R204: what each output pin shows; low in reset and during the load, but for BUS_TX, which is released, and with OPT_CLK and
OPT_DAT low in reset and in the read sequence during the load; every stage OFF, the fan off and FAULT on after a failed load (R158,
R195). The laws behind it hold at reset, and every step keeps them. That BUS_TX is released in reset and during the load, which is
not low (entry 42), and the port's pins by phase (entry 19) are the model's choices, DESIGN CHOICES. -/
def Obligations.OutputPins : Prop :=
  (∀ s : State,
    s.outputs.stages = s.zone.stages.map (·.on) ∧ (s.outputs.defrost = true ↔ 0 < s.outputs.defrostLoad) ∧
      s.outputs.defrostLoad =
        (if s.supply.state = .live ∧ s.running = true ∧ s.member.state ≠ .clash then min s.request s.spendable else 0) ∧
      s.outputs.fan = s.zone.fan ∧
      (s.outputs.fault = true ↔
        s.member.state = .unconfigured ∨ s.member.state = .mismatched ∨ s.member.state = .clash) ∧
      s.outputs.bus = s.bus.drive ∧
      s.outputs.memoryPort =
        (match s.loader.phase with
        | .inReset => .low
        | .reading => .reading
        | .checking | .loaded | .failed => .resting)) ∧
  (∀ s : State, PinLaw s →
    s.outputs.stages.length = 4 ∧ s.outputs.defrostLoad ≤ 31 ∧ s.outputs.fan ≤ 3) ∧
  (∀ s : State, QuietLaw s → s.loader.phase ≠ .loaded →
    (∀ on ∈ s.outputs.stages, on = false) ∧ s.outputs.defrost = false ∧ s.outputs.defrostLoad = 0 ∧ s.outputs.fan = 0 ∧
      s.outputs.bus = .released ∧ (s.outputs.fault = true ↔ s.loader.phase = .failed)) ∧
  PinLaw State.reset ∧ QuietLaw State.reset ∧
  ∀ s t : State, PinLaw s → QuietLaw s → step s = .next t → PinLaw t ∧ QuietLaw t

/-- R1 to R5, R9, R10, R27, R28, R40: every step keeps the share table lawful, the recall order of its rows and the order of
its claim queue among the laws. -/
def Obligations.TableLawKept : Prop :=
  ∀ s t : State, TableLaw s.table → step s = .next t → TableLaw t.table

/-- R83, R84, R113: every step keeps the station load within spendable, and at zero while the loads are not allowed; with it
goes the law that a table is in force exactly in the states that follow a successful load. -/
def Obligations.LoadLawKept : Prop :=
  ∀ s t : State, PhaseLaw s → LoadLaw s → step s = .next t → PhaseLaw t ∧ LoadLaw t

/-- R49: every step keeps aside between the own owed and the own borrowed. -/
def Obligations.AsideLawKept : Prop :=
  ∀ s t : State, PhaseLaw s → RowsLaw s.table → AsideLaw s → step s = .next t → RowsLaw t.table ∧ AsideLaw t

/-- R94: every step keeps the one-shot IDLE under a BOOST_INHIBIT slot; and an IDLE one-shot gives no boost. -/
def Obligations.BoostLawKept : Prop :=
  (∀ s : State, s.doors.oneShot = .idle → s.boost = 0) ∧
    ∀ s t : State, BoostLaw s → step s = .next t → BoostLaw t

/-- R145, R171, R174, R193: every step keeps one transmit entry per kind, no CLAIM, LAPSE or EXPEL waiting outside IN_STEP,
the own-failure count within 16, and a table in force exactly in the states that follow a successful load. That a CLAIM, LAPSE
or EXPEL whose frame outlived IN_STEP and then ends void or lost does not wait on, where R173 has it stay queued, is the
model's reading (entry 8, DEDUCED). -/
def Obligations.TransmitQueueLawsKept : Prop :=
  ∀ s t : State, step s = .next t →
    (PhaseLaw s → PhaseLaw t) ∧ (TransmitLaw s → TransmitLaw t) ∧ (PhaseLaw s → SendLaw s → SendLaw t) ∧
      (FailureLaw s → FailureLaw t)

/-- R180, R186, R187: a latched snapshot changes only by the completion of its last part or by a reset. -/
def Obligations.LatchedSnapshotStands : Prop :=
  ∀ (c : Instr) (s t : State) (p : Picture), s.stats.snapshot = some p → exec c s = .next t →
    t.stats.snapshot = some p ∨
      (t.stats.snapshot = none ∧
        (c = .powerOnReset ∨ c = .externalReset ∨
          ∃ codes address data f, c = .report codes address data ∧
            (s.ownFrame address.toNat (.report data)).isSome = true ∧ s.stats.inFlight = some f ∧
            f.request.item = .snapshot ∧ f.part = 3))

/-- R180, with freeze chosen: a counter decreases only by the completion of a clearing REPORT of its page or by a power-on
reset. -/
def Obligations.FrozenCountersDoNotFall : Prop :=
  ∀ (c : Instr) (s t : State), s.loader.vt.counterFreeze = true → exec c s = .next t →
    c = .powerOnReset ∨
      ((∃ codes address data f, c = .report codes address data ∧
          (s.ownFrame address.toNat (.report data)).isSome = true ∧ s.stats.inFlight = some f ∧
          f.request.clear = true ∧ (f.request.item = .page0 ∨ f.request.item = .page1)) ∨
        (s.stats.counters.energy ≤ t.stats.counters.energy ∧
          s.stats.counters.waitSeconds ≤ t.stats.counters.waitSeconds ∧
          s.stats.counters.recalls ≤ t.stats.counters.recalls ∧
          s.stats.counters.linkFails ≤ t.stats.counters.linkFails ∧
          s.stats.counters.repairs ≤ t.stats.counters.repairs ∧
          s.stats.counters.door0Opens ≤ t.stats.counters.door0Opens ∧
          s.stats.counters.door0Seconds ≤ t.stats.counters.door0Seconds ∧
          s.stats.counters.door1Opens ≤ t.stats.counters.door1Opens ∧
          s.stats.counters.door1Seconds ≤ t.stats.counters.door1Seconds))

/-- R12: two IN_STEP stations of one vehicle table whose share tables are equal, and that take the same bulletin, have equal
tables after it, unless the bulletin shows them another table tag. -/
def Obligations.ReplicasMoveTogether : Prop :=
  ∀ (c : Instr) (codes : Sensors) (address : BitVec 4) (b : Bulletin) (s s' t t' : State),
    frameOf c = some (codes, address, b) → s.member.state = .inStep → s'.member.state = .inStep →
    s.loader.vt = s'.loader.vt → s.table = s'.table → s.hears address b → s'.hears address b →
    (∀ tag, b = .join tag → tag = s.tag) → (∀ p, b = .status p → p.tag = s.tag) →
    exec c s = .next t → exec c s' = .next t' → t.table = t'.table

/-! ## Frames on the wire -/

/-- R161 to R163, R167, R198: a receiver reads from the bits of any frame with an accepted length the very frame that was
sent; no run of equal bits in the stuffed part is longer than five. And the four errors of R167, whatever the bits: a sixth equal bit
in the stuffed part, a length field above 12, a length that its kind does not accept, and a check field that is not the one
computed over the fields received. A length fault is found at the length field (R167), so also where the bits end before the
check field does; that a stuffing violation found after it goes before it is the model's choice (entry 27, DESIGN CHOICE). -/
def Obligations.FrameRoundTrip : Prop :=
  (∀ f : Frame, lengthAccepted f.kind.toNat f.payload.length = true →
    receive f.bits = .sound f ∧
      ∀ (before after : List Bool) (b : Bool), stuff f.plainBits ≠ before ++ List.replicate 6 b ++ after) ∧
  (∀ kind n : Nat, lengthAccepted kind n = true ↔
    (kind ∈ [1, 5, 6, 7] ∧ n = 1) ∨ (kind ∈ [3, 4, 11] ∧ n = 2) ∨ (kind = 2 ∧ n = 12) ∨ (kind = 8 ∧ 1 ≤ n ∧ n ≤ 12) ∨
      (kind ∈ [9, 10] ∧ n = 4) ∨ (kind = 12 ∧ n = 0) ∨ (kind = 13 ∧ n = 3) ∨
      ((kind = 0 ∨ 14 ≤ kind) ∧ n ≤ 12)) ∧
  ∀ (header body rest : List Bool) (kind n : Nat), header.length = 15 → kind = numberOf ((header.drop 7).take 4) →
    n = numberOf (header.drop 11) →
    (12 < n → receive (stuff (false :: header) ++ rest) = .error .lengthAboveTwelve) ∧
      (n ≤ 12 → lengthAccepted kind n = false → body.length < 8 * n + 16 →
        receive (stuff (false :: (header ++ body))) = .error .lengthFault) ∧
      (n ≤ 12 → lengthAccepted kind n = false → body.length = 8 * n + 16 →
        receive (stuff (false :: (header ++ body)) ++ rest) = .error .lengthFault) ∧
      (lengthAccepted kind n = true → body.length = 8 * n + 16 →
        body.drop (8 * n) ≠ bitsOf 16 (checkOf (header ++ body.take (8 * n))).toNat →
        receive (stuff (false :: (header ++ body)) ++ rest) = .error .check) ∧
      ∀ (k : Nat) (before : List Bool) (b : Bool), n ≤ 12 → body.length = 8 * n + 16 →
        k < (stuff (false :: (header ++ body))).length →
        (stuff (false :: (header ++ body))).take k = before ++ List.replicate 5 b →
        receive ((stuff (false :: (header ++ body))).take k ++ b :: rest) = .error .stuffing

end
end

