-- ==== Sys2Proof/Laws/State.lean ====
section
/-! SUPPORT. What each plain update of State leaves alone: one lemma per update, a field at a time, each true by rfl. -/

namespace Sys2Proof.Machine

/-! ## Beginning of an event -/

@[simp] theorem nextMoment_frame (s : State) :
    (nextMoment s).pending = s.pending ∧ (nextMoment s).pins = s.pins ∧ (nextMoment s).loader = s.loader ∧
    (nextMoment s).table = s.table ∧ (nextMoment s).share = s.share ∧ (nextMoment s).supply = s.supply ∧
    (nextMoment s).zone = s.zone ∧ (nextMoment s).doors = s.doors ∧ (nextMoment s).defrost = s.defrost ∧
    (nextMoment s).overrides = s.overrides ∧ (nextMoment s).member = s.member ∧ (nextMoment s).bus = s.bus ∧
    (nextMoment s).stats = s.stats :=
  ⟨rfl, rfl, rfl, rfl, rfl, rfl, rfl, rfl, rfl, rfl, rfl, rfl, rfl⟩

@[simp] theorem begin_frame (codes : Sensors) (s : State) :
    (begin codes s).pending = s.pending ∧ (begin codes s).loader = s.loader ∧ (begin codes s).table = s.table ∧
    (begin codes s).share = s.share ∧ (begin codes s).supply = s.supply ∧ (begin codes s).zone = s.zone ∧
    (begin codes s).doors = s.doors ∧ (begin codes s).defrost = s.defrost ∧
    (begin codes s).overrides = s.overrides ∧ (begin codes s).member = s.member ∧ (begin codes s).bus = s.bus ∧
    (begin codes s).stats = s.stats :=
  ⟨rfl, rfl, rfl, rfl, rfl, rfl, rfl, rfl, rfl, rfl, rfl, rfl⟩

/-! ## Share unit and zone controller -/

@[simp] theorem setCommit_frame (units : Nat) (s : State) :
    (setCommit units s).pending = s.pending ∧ (setCommit units s).moment = s.moment ∧
    (setCommit units s).pins = s.pins ∧ (setCommit units s).loader = s.loader ∧
    (setCommit units s).table = s.table ∧ (setCommit units s).supply = s.supply ∧
    (setCommit units s).zone = s.zone ∧ (setCommit units s).doors = s.doors ∧
    (setCommit units s).defrost = s.defrost ∧ (setCommit units s).overrides = s.overrides ∧
    (setCommit units s).member = s.member ∧ (setCommit units s).bus = s.bus ∧
    (setCommit units s).stats = s.stats :=
  ⟨rfl, rfl, rfl, rfl, rfl, rfl, rfl, rfl, rfl, rfl, rfl, rfl, rfl⟩

@[simp] theorem setWish_frame (s : State) :
    (setWish s).pending = s.pending ∧ (setWish s).moment = s.moment ∧ (setWish s).pins = s.pins ∧
    (setWish s).loader = s.loader ∧ (setWish s).table = s.table ∧ (setWish s).supply = s.supply ∧
    (setWish s).zone = s.zone ∧ (setWish s).doors = s.doors ∧ (setWish s).defrost = s.defrost ∧
    (setWish s).overrides = s.overrides ∧ (setWish s).member = s.member ∧ (setWish s).bus = s.bus ∧
    (setWish s).stats = s.stats :=
  ⟨rfl, rfl, rfl, rfl, rfl, rfl, rfl, rfl, rfl, rfl, rfl, rfl, rfl⟩

@[simp] theorem setStages_frame (stages : List Stage) (s : State) :
    (setStages stages s).pending = s.pending ∧ (setStages stages s).moment = s.moment ∧
    (setStages stages s).pins = s.pins ∧ (setStages stages s).loader = s.loader ∧
    (setStages stages s).table = s.table ∧ (setStages stages s).share = s.share ∧
    (setStages stages s).supply = s.supply ∧ (setStages stages s).doors = s.doors ∧
    (setStages stages s).defrost = s.defrost ∧ (setStages stages s).overrides = s.overrides ∧
    (setStages stages s).member = s.member ∧ (setStages stages s).bus = s.bus ∧
    (setStages stages s).stats = s.stats :=
  ⟨rfl, rfl, rfl, rfl, rfl, rfl, rfl, rfl, rfl, rfl, rfl, rfl, rfl⟩

@[simp] theorem setFan_frame (s : State) :
    (setFan s).pending = s.pending ∧ (setFan s).moment = s.moment ∧ (setFan s).pins = s.pins ∧
    (setFan s).loader = s.loader ∧ (setFan s).table = s.table ∧ (setFan s).share = s.share ∧
    (setFan s).supply = s.supply ∧ (setFan s).doors = s.doors ∧ (setFan s).defrost = s.defrost ∧
    (setFan s).overrides = s.overrides ∧ (setFan s).member = s.member ∧ (setFan s).bus = s.bus ∧
    (setFan s).stats = s.stats :=
  ⟨rfl, rfl, rfl, rfl, rfl, rfl, rfl, rfl, rfl, rfl, rfl, rfl, rfl⟩

@[simp] theorem readSensors_frame (periodic : Bool) (s : State) :
    (readSensors periodic s).pending = s.pending ∧ (readSensors periodic s).moment = s.moment ∧
    (readSensors periodic s).pins = s.pins ∧ (readSensors periodic s).loader = s.loader ∧
    (readSensors periodic s).table = s.table ∧ (readSensors periodic s).share = s.share ∧
    (readSensors periodic s).supply = s.supply ∧ (readSensors periodic s).doors = s.doors ∧
    (readSensors periodic s).defrost = s.defrost ∧ (readSensors periodic s).overrides = s.overrides ∧
    (readSensors periodic s).member = s.member ∧ (readSensors periodic s).bus = s.bus ∧
    (readSensors periodic s).stats = s.stats :=
  ⟨rfl, rfl, rfl, rfl, rfl, rfl, rfl, rfl, rfl, rfl, rfl, rfl, rfl⟩

@[simp] theorem recomputeSetpoint_frame (s : State) :
    (recomputeSetpoint s).pending = s.pending ∧ (recomputeSetpoint s).moment = s.moment ∧
    (recomputeSetpoint s).pins = s.pins ∧ (recomputeSetpoint s).loader = s.loader ∧
    (recomputeSetpoint s).table = s.table ∧ (recomputeSetpoint s).share = s.share ∧
    (recomputeSetpoint s).supply = s.supply ∧ (recomputeSetpoint s).doors = s.doors ∧
    (recomputeSetpoint s).defrost = s.defrost ∧ (recomputeSetpoint s).overrides = s.overrides ∧
    (recomputeSetpoint s).member = s.member ∧ (recomputeSetpoint s).bus = s.bus ∧
    (recomputeSetpoint s).stats = s.stats :=
  ⟨rfl, rfl, rfl, rfl, rfl, rfl, rfl, rfl, rfl, rfl, rfl, rfl, rfl⟩

@[simp] theorem decideMode_frame (s : State) :
    (decideMode s).pending = s.pending ∧ (decideMode s).moment = s.moment ∧ (decideMode s).pins = s.pins ∧
    (decideMode s).loader = s.loader ∧ (decideMode s).table = s.table ∧ (decideMode s).share = s.share ∧
    (decideMode s).supply = s.supply ∧ (decideMode s).doors = s.doors ∧ (decideMode s).defrost = s.defrost ∧
    (decideMode s).overrides = s.overrides ∧ (decideMode s).member = s.member ∧ (decideMode s).bus = s.bus ∧
    (decideMode s).stats = s.stats :=
  ⟨rfl, rfl, rfl, rfl, rfl, rfl, rfl, rfl, rfl, rfl, rfl, rfl, rfl⟩

@[simp] theorem clearPending_frame (periodic : Bool) (s : State) :
    (clearPending periodic s).pending = s.pending ∧ (clearPending periodic s).moment = s.moment ∧
    (clearPending periodic s).pins = s.pins ∧ (clearPending periodic s).loader = s.loader ∧
    (clearPending periodic s).table = s.table ∧ (clearPending periodic s).share = s.share ∧
    (clearPending periodic s).supply = s.supply ∧ (clearPending periodic s).doors = s.doors ∧
    (clearPending periodic s).defrost = s.defrost ∧ (clearPending periodic s).overrides = s.overrides ∧
    (clearPending periodic s).member = s.member ∧ (clearPending periodic s).bus = s.bus ∧
    (clearPending periodic s).stats = s.stats :=
  ⟨rfl, rfl, rfl, rfl, rfl, rfl, rfl, rfl, rfl, rfl, rfl, rfl, rfl⟩

@[simp] theorem decideDemand_frame (s : State) :
    (decideDemand s).pending = s.pending ∧ (decideDemand s).moment = s.moment ∧
    (decideDemand s).pins = s.pins ∧ (decideDemand s).loader = s.loader ∧ (decideDemand s).table = s.table ∧
    (decideDemand s).share = s.share ∧ (decideDemand s).supply = s.supply ∧ (decideDemand s).doors = s.doors ∧
    (decideDemand s).defrost = s.defrost ∧ (decideDemand s).overrides = s.overrides ∧
    (decideDemand s).member = s.member ∧ (decideDemand s).bus = s.bus ∧ (decideDemand s).stats = s.stats :=
  ⟨rfl, rfl, rfl, rfl, rfl, rfl, rfl, rfl, rfl, rfl, rfl, rfl, rfl⟩

@[simp] theorem measure_frame (periodic : Bool) (s : State) :
    (measure periodic s).pending = s.pending ∧ (measure periodic s).moment = s.moment ∧
    (measure periodic s).pins = s.pins ∧ (measure periodic s).loader = s.loader ∧
    (measure periodic s).table = s.table ∧ (measure periodic s).share = s.share ∧
    (measure periodic s).supply = s.supply ∧ (measure periodic s).doors = s.doors ∧
    (measure periodic s).defrost = s.defrost ∧ (measure periodic s).overrides = s.overrides ∧
    (measure periodic s).member = s.member ∧ (measure periodic s).bus = s.bus ∧
    (measure periodic s).stats = s.stats := by
  simp [measure]

@[simp] theorem switchStages_frame (s : State) :
    (switchStages s).pending = s.pending ∧ (switchStages s).moment = s.moment ∧
    (switchStages s).pins = s.pins ∧ (switchStages s).loader = s.loader ∧ (switchStages s).table = s.table ∧
    (switchStages s).share = s.share ∧ (switchStages s).supply = s.supply ∧ (switchStages s).doors = s.doors ∧
    (switchStages s).defrost = s.defrost ∧ (switchStages s).overrides = s.overrides ∧
    (switchStages s).member = s.member ∧ (switchStages s).bus = s.bus ∧ (switchStages s).stats = s.stats :=
  ⟨rfl, rfl, rfl, rfl, rfl, rfl, rfl, rfl, rfl, rfl, rfl, rfl, rfl⟩

/-! ## Statistics -/

@[simp] theorem count_frame (c : Counter) (amount : Nat) (s : State) :
    (count c amount s).pending = s.pending ∧ (count c amount s).moment = s.moment ∧
    (count c amount s).pins = s.pins ∧ (count c amount s).loader = s.loader ∧
    (count c amount s).table = s.table ∧ (count c amount s).share = s.share ∧
    (count c amount s).supply = s.supply ∧ (count c amount s).zone = s.zone ∧
    (count c amount s).doors = s.doors ∧ (count c amount s).defrost = s.defrost ∧
    (count c amount s).overrides = s.overrides ∧ (count c amount s).member = s.member ∧
    (count c amount s).bus = s.bus :=
  ⟨rfl, rfl, rfl, rfl, rfl, rfl, rfl, rfl, rfl, rfl, rfl, rfl, rfl⟩

@[simp] theorem noteRampTimeout_frame (s : State) :
    (noteRampTimeout s).pending = s.pending ∧ (noteRampTimeout s).moment = s.moment ∧
    (noteRampTimeout s).pins = s.pins ∧ (noteRampTimeout s).loader = s.loader ∧
    (noteRampTimeout s).table = s.table ∧ (noteRampTimeout s).share = s.share ∧
    (noteRampTimeout s).supply = s.supply ∧ (noteRampTimeout s).zone = s.zone ∧
    (noteRampTimeout s).doors = s.doors ∧ (noteRampTimeout s).defrost = s.defrost ∧
    (noteRampTimeout s).overrides = s.overrides ∧ (noteRampTimeout s).member = s.member ∧
    (noteRampTimeout s).bus = s.bus :=
  ⟨rfl, rfl, rfl, rfl, rfl, rfl, rfl, rfl, rfl, rfl, rfl, rfl, rfl⟩

@[simp] theorem noteConfig_frame (s : State) :
    (noteConfig s).pending = s.pending ∧ (noteConfig s).moment = s.moment ∧ (noteConfig s).pins = s.pins ∧
    (noteConfig s).loader = s.loader ∧ (noteConfig s).table = s.table ∧ (noteConfig s).share = s.share ∧
    (noteConfig s).supply = s.supply ∧ (noteConfig s).zone = s.zone ∧ (noteConfig s).doors = s.doors ∧
    (noteConfig s).defrost = s.defrost ∧ (noteConfig s).overrides = s.overrides ∧
    (noteConfig s).member = s.member ∧ (noteConfig s).bus = s.bus :=
  ⟨rfl, rfl, rfl, rfl, rfl, rfl, rfl, rfl, rfl, rfl, rfl, rfl, rfl⟩

@[simp] theorem replaceRequest_frame (r : ReportRequest) (s : State) :
    (replaceRequest r s).pending = s.pending ∧ (replaceRequest r s).moment = s.moment ∧
    (replaceRequest r s).pins = s.pins ∧ (replaceRequest r s).loader = s.loader ∧
    (replaceRequest r s).table = s.table ∧ (replaceRequest r s).share = s.share ∧
    (replaceRequest r s).supply = s.supply ∧ (replaceRequest r s).zone = s.zone ∧
    (replaceRequest r s).doors = s.doors ∧ (replaceRequest r s).defrost = s.defrost ∧
    (replaceRequest r s).overrides = s.overrides ∧ (replaceRequest r s).member = s.member ∧
    (replaceRequest r s).bus = s.bus :=
  ⟨rfl, rfl, rfl, rfl, rfl, rfl, rfl, rfl, rfl, rfl, rfl, rfl, rfl⟩

/-! ## Defrost and door units, overrides -/

@[simp] theorem setDefrost_frame (state : DefrostState) (phase : Timer) (s : State) :
    (setDefrost state phase s).pending = s.pending ∧ (setDefrost state phase s).moment = s.moment ∧
    (setDefrost state phase s).pins = s.pins ∧ (setDefrost state phase s).loader = s.loader ∧
    (setDefrost state phase s).table = s.table ∧ (setDefrost state phase s).share = s.share ∧
    (setDefrost state phase s).supply = s.supply ∧ (setDefrost state phase s).zone = s.zone ∧
    (setDefrost state phase s).doors = s.doors ∧ (setDefrost state phase s).overrides = s.overrides ∧
    (setDefrost state phase s).member = s.member ∧ (setDefrost state phase s).bus = s.bus ∧
    (setDefrost state phase s).stats = s.stats :=
  ⟨rfl, rfl, rfl, rfl, rfl, rfl, rfl, rfl, rfl, rfl, rfl, rfl, rfl⟩

@[simp] theorem enterHold_frame (s : State) :
    (enterHold s).pending = s.pending ∧ (enterHold s).moment = s.moment ∧ (enterHold s).pins = s.pins ∧
    (enterHold s).loader = s.loader ∧ (enterHold s).table = s.table ∧ (enterHold s).share = s.share ∧
    (enterHold s).supply = s.supply ∧ (enterHold s).zone = s.zone ∧ (enterHold s).doors = s.doors ∧
    (enterHold s).overrides = s.overrides ∧ (enterHold s).member = s.member ∧ (enterHold s).bus = s.bus ∧
    (enterHold s).stats = s.stats :=
  ⟨rfl, rfl, rfl, rfl, rfl, rfl, rfl, rfl, rfl, rfl, rfl, rfl, rfl⟩

@[simp] theorem enterOff_frame (s : State) :
    (enterOff s).pending = s.pending ∧ (enterOff s).moment = s.moment ∧ (enterOff s).pins = s.pins ∧
    (enterOff s).loader = s.loader ∧ (enterOff s).table = s.table ∧ (enterOff s).share = s.share ∧
    (enterOff s).supply = s.supply ∧ (enterOff s).zone = s.zone ∧ (enterOff s).doors = s.doors ∧
    (enterOff s).overrides = s.overrides ∧ (enterOff s).member = s.member ∧ (enterOff s).bus = s.bus ∧
    (enterOff s).stats = s.stats :=
  ⟨rfl, rfl, rfl, rfl, rfl, rfl, rfl, rfl, rfl, rfl, rfl, rfl, rfl⟩

@[simp] theorem enterPaused_frame (kept : Nat) (s : State) :
    (enterPaused kept s).pending = s.pending ∧ (enterPaused kept s).moment = s.moment ∧
    (enterPaused kept s).pins = s.pins ∧ (enterPaused kept s).loader = s.loader ∧
    (enterPaused kept s).table = s.table ∧ (enterPaused kept s).share = s.share ∧
    (enterPaused kept s).supply = s.supply ∧ (enterPaused kept s).zone = s.zone ∧
    (enterPaused kept s).doors = s.doors ∧ (enterPaused kept s).overrides = s.overrides ∧
    (enterPaused kept s).member = s.member ∧ (enterPaused kept s).bus = s.bus ∧
    (enterPaused kept s).stats = s.stats :=
  ⟨rfl, rfl, rfl, rfl, rfl, rfl, rfl, rfl, rfl, rfl, rfl, rfl, rfl⟩

@[simp] theorem setOutdoor_frame (reading : Option Int) (age : Timer) (s : State) :
    (setOutdoor reading age s).pending = s.pending ∧ (setOutdoor reading age s).moment = s.moment ∧
    (setOutdoor reading age s).pins = s.pins ∧ (setOutdoor reading age s).loader = s.loader ∧
    (setOutdoor reading age s).table = s.table ∧ (setOutdoor reading age s).share = s.share ∧
    (setOutdoor reading age s).supply = s.supply ∧ (setOutdoor reading age s).zone = s.zone ∧
    (setOutdoor reading age s).defrost = s.defrost ∧ (setOutdoor reading age s).overrides = s.overrides ∧
    (setOutdoor reading age s).member = s.member ∧ (setOutdoor reading age s).bus = s.bus ∧
    (setOutdoor reading age s).stats = s.stats :=
  ⟨rfl, rfl, rfl, rfl, rfl, rfl, rfl, rfl, rfl, rfl, rfl, rfl, rfl⟩

@[simp] theorem dropSpill_frame (station : Nat) (s : State) :
    (dropSpill station s).pending = s.pending ∧ (dropSpill station s).moment = s.moment ∧
    (dropSpill station s).pins = s.pins ∧ (dropSpill station s).loader = s.loader ∧
    (dropSpill station s).table = s.table ∧ (dropSpill station s).share = s.share ∧
    (dropSpill station s).supply = s.supply ∧ (dropSpill station s).zone = s.zone ∧
    (dropSpill station s).defrost = s.defrost ∧ (dropSpill station s).overrides = s.overrides ∧
    (dropSpill station s).member = s.member ∧ (dropSpill station s).bus = s.bus ∧
    (dropSpill station s).stats = s.stats :=
  ⟨rfl, rfl, rfl, rfl, rfl, rfl, rfl, rfl, rfl, rfl, rfl, rfl, rfl⟩

@[simp] theorem refreshSpill_frame (station : Nat) (s : State) :
    (refreshSpill station s).pending = s.pending ∧ (refreshSpill station s).moment = s.moment ∧
    (refreshSpill station s).pins = s.pins ∧ (refreshSpill station s).loader = s.loader ∧
    (refreshSpill station s).table = s.table ∧ (refreshSpill station s).share = s.share ∧
    (refreshSpill station s).supply = s.supply ∧ (refreshSpill station s).zone = s.zone ∧
    (refreshSpill station s).defrost = s.defrost ∧ (refreshSpill station s).overrides = s.overrides ∧
    (refreshSpill station s).member = s.member ∧ (refreshSpill station s).bus = s.bus ∧
    (refreshSpill station s).stats = s.stats :=
  ⟨rfl, rfl, rfl, rfl, rfl, rfl, rfl, rfl, rfl, rfl, rfl, rfl, rfl⟩

@[simp] theorem restartPanelSilence_frame (s : State) :
    (restartPanelSilence s).pending = s.pending ∧ (restartPanelSilence s).moment = s.moment ∧
    (restartPanelSilence s).pins = s.pins ∧ (restartPanelSilence s).loader = s.loader ∧
    (restartPanelSilence s).table = s.table ∧ (restartPanelSilence s).share = s.share ∧
    (restartPanelSilence s).supply = s.supply ∧ (restartPanelSilence s).zone = s.zone ∧
    (restartPanelSilence s).doors = s.doors ∧ (restartPanelSilence s).defrost = s.defrost ∧
    (restartPanelSilence s).member = s.member ∧ (restartPanelSilence s).bus = s.bus ∧
    (restartPanelSilence s).stats = s.stats :=
  ⟨rfl, rfl, rfl, rfl, rfl, rfl, rfl, rfl, rfl, rfl, rfl, rfl, rfl⟩

/-! ## Membership unit, bus interface, supply monitor -/

@[simp] theorem resetAge_frame (station : Nat) (s : State) :
    (resetAge station s).pending = s.pending ∧ (resetAge station s).moment = s.moment ∧
    (resetAge station s).pins = s.pins ∧ (resetAge station s).loader = s.loader ∧
    (resetAge station s).table = s.table ∧ (resetAge station s).share = s.share ∧
    (resetAge station s).supply = s.supply ∧ (resetAge station s).zone = s.zone ∧
    (resetAge station s).doors = s.doors ∧ (resetAge station s).defrost = s.defrost ∧
    (resetAge station s).overrides = s.overrides ∧ (resetAge station s).bus = s.bus ∧
    (resetAge station s).stats = s.stats :=
  ⟨rfl, rfl, rfl, rfl, rfl, rfl, rfl, rfl, rfl, rfl, rfl, rfl, rfl⟩

@[simp] theorem syncAges_frame (s : State) :
    (syncAges s).pending = s.pending ∧ (syncAges s).moment = s.moment ∧ (syncAges s).pins = s.pins ∧
    (syncAges s).loader = s.loader ∧ (syncAges s).table = s.table ∧ (syncAges s).share = s.share ∧
    (syncAges s).supply = s.supply ∧ (syncAges s).zone = s.zone ∧ (syncAges s).doors = s.doors ∧
    (syncAges s).defrost = s.defrost ∧ (syncAges s).overrides = s.overrides ∧ (syncAges s).bus = s.bus ∧
    (syncAges s).stats = s.stats :=
  ⟨rfl, rfl, rfl, rfl, rfl, rfl, rfl, rfl, rfl, rfl, rfl, rfl, rfl⟩

@[simp] theorem syncHeard_frame (s : State) :
    (syncHeard s).pending = s.pending ∧ (syncHeard s).moment = s.moment ∧ (syncHeard s).pins = s.pins ∧
    (syncHeard s).loader = s.loader ∧ (syncHeard s).table = s.table ∧ (syncHeard s).share = s.share ∧
    (syncHeard s).supply = s.supply ∧ (syncHeard s).zone = s.zone ∧ (syncHeard s).doors = s.doors ∧
    (syncHeard s).defrost = s.defrost ∧ (syncHeard s).overrides = s.overrides ∧ (syncHeard s).bus = s.bus ∧
    (syncHeard s).stats = s.stats :=
  ⟨rfl, rfl, rfl, rfl, rfl, rfl, rfl, rfl, rfl, rfl, rfl, rfl, rfl⟩

@[simp] theorem startFrame_frame (e : TxEntry) (s : State) :
    (startFrame e s).pending = s.pending ∧ (startFrame e s).moment = s.moment ∧
    (startFrame e s).pins = s.pins ∧ (startFrame e s).loader = s.loader ∧ (startFrame e s).table = s.table ∧
    (startFrame e s).share = s.share ∧ (startFrame e s).supply = s.supply ∧ (startFrame e s).zone = s.zone ∧
    (startFrame e s).doors = s.doors ∧ (startFrame e s).defrost = s.defrost ∧
    (startFrame e s).overrides = s.overrides ∧ (startFrame e s).member = s.member :=
  ⟨rfl, rfl, rfl, rfl, rfl, rfl, rfl, rfl, rfl, rfl, rfl, rfl⟩

@[simp] theorem ownFrameCompleted_frame (f : OwnFrame) (s : State) :
    (ownFrameCompleted f s).pending = s.pending ∧ (ownFrameCompleted f s).moment = s.moment ∧
    (ownFrameCompleted f s).pins = s.pins ∧ (ownFrameCompleted f s).loader = s.loader ∧
    (ownFrameCompleted f s).table = s.table ∧ (ownFrameCompleted f s).share = s.share ∧
    (ownFrameCompleted f s).supply = s.supply ∧ (ownFrameCompleted f s).zone = s.zone ∧
    (ownFrameCompleted f s).doors = s.doors ∧ (ownFrameCompleted f s).defrost = s.defrost ∧
    (ownFrameCompleted f s).overrides = s.overrides ∧ (ownFrameCompleted f s).member = s.member ∧
    (ownFrameCompleted f s).stats = s.stats :=
  ⟨rfl, rfl, rfl, rfl, rfl, rfl, rfl, rfl, rfl, rfl, rfl, rfl, rfl⟩

@[simp] theorem frameHeard_frame (s : State) :
    (frameHeard s).pending = s.pending ∧ (frameHeard s).moment = s.moment ∧ (frameHeard s).pins = s.pins ∧
    (frameHeard s).loader = s.loader ∧ (frameHeard s).table = s.table ∧ (frameHeard s).share = s.share ∧
    (frameHeard s).supply = s.supply ∧ (frameHeard s).zone = s.zone ∧ (frameHeard s).doors = s.doors ∧
    (frameHeard s).defrost = s.defrost ∧ (frameHeard s).overrides = s.overrides ∧
    (frameHeard s).member = s.member ∧ (frameHeard s).stats = s.stats :=
  ⟨rfl, rfl, rfl, rfl, rfl, rfl, rfl, rfl, rfl, rfl, rfl, rfl, rfl⟩

@[simp] theorem restartLineDebounce_frame (s : State) :
    (restartLineDebounce s).pending = s.pending ∧ (restartLineDebounce s).moment = s.moment ∧
    (restartLineDebounce s).pins = s.pins ∧ (restartLineDebounce s).loader = s.loader ∧
    (restartLineDebounce s).table = s.table ∧ (restartLineDebounce s).share = s.share ∧
    (restartLineDebounce s).zone = s.zone ∧ (restartLineDebounce s).doors = s.doors ∧
    (restartLineDebounce s).defrost = s.defrost ∧ (restartLineDebounce s).overrides = s.overrides ∧
    (restartLineDebounce s).member = s.member ∧ (restartLineDebounce s).bus = s.bus ∧
    (restartLineDebounce s).stats = s.stats :=
  ⟨rfl, rfl, rfl, rfl, rfl, rfl, rfl, rfl, rfl, rfl, rfl, rfl, rfl⟩

/-! ## One millisecond -/

@[simp] theorem passMillisecond_frame (s : State) :
    (passMillisecond s).pending = s.pending ∧ (passMillisecond s).moment = s.moment ∧
    (passMillisecond s).pins = s.pins ∧ (passMillisecond s).loader = s.loader ∧
    (passMillisecond s).table = s.table :=
  ⟨rfl, rfl, rfl, rfl, rfl⟩

end Sys2Proof.Machine
end

