-- ==== Sys2Proof/Laws/Operations.lean ====
section
/-! SUPPORT. What each named operation leaves alone: one lemma per operation, so that no proof about a command has to open
the operations it is built from. -/

namespace Sys2Proof.Machine

/-! ## Transmit queue requests -/

@[simp] theorem queueKind_frame (kind : TxKind) (s : State) :
    (queueKind kind s).pending = s.pending ∧ (queueKind kind s).moment = s.moment ∧
    (queueKind kind s).pins = s.pins ∧ (queueKind kind s).loader = s.loader ∧
    (queueKind kind s).table = s.table ∧ (queueKind kind s).share = s.share ∧
    (queueKind kind s).supply = s.supply ∧ (queueKind kind s).zone = s.zone ∧
    (queueKind kind s).doors = s.doors ∧ (queueKind kind s).defrost = s.defrost ∧
    (queueKind kind s).overrides = s.overrides ∧ (queueKind kind s).member = s.member ∧
    (queueKind kind s).stats = s.stats :=
  by
  unfold queueKind; (repeat' split) <;> simp

@[simp] theorem withdrawKind_frame (kind : TxKind) (s : State) :
    (withdrawKind kind s).pending = s.pending ∧ (withdrawKind kind s).moment = s.moment ∧
    (withdrawKind kind s).pins = s.pins ∧ (withdrawKind kind s).loader = s.loader ∧
    (withdrawKind kind s).table = s.table ∧ (withdrawKind kind s).share = s.share ∧
    (withdrawKind kind s).supply = s.supply ∧ (withdrawKind kind s).zone = s.zone ∧
    (withdrawKind kind s).doors = s.doors ∧ (withdrawKind kind s).defrost = s.defrost ∧
    (withdrawKind kind s).overrides = s.overrides ∧ (withdrawKind kind s).member = s.member ∧
    (withdrawKind kind s).stats = s.stats :=
  by
  unfold withdrawKind; (repeat' split) <;> simp

/-! ## Share unit -/

@[simp] theorem setAside_frame (units : Nat) (s : State) :
    (setAside units s).pending = s.pending ∧ (setAside units s).moment = s.moment ∧
    (setAside units s).pins = s.pins ∧ (setAside units s).loader = s.loader ∧
    (setAside units s).table = s.table ∧ (setAside units s).supply = s.supply ∧
    (setAside units s).zone = s.zone ∧ (setAside units s).doors = s.doors ∧
    (setAside units s).defrost = s.defrost ∧ (setAside units s).overrides = s.overrides ∧
    (setAside units s).member = s.member ∧ (setAside units s).stats = s.stats :=
  by
  unfold setAside; (repeat' split) <;> simp

@[simp] theorem applyBounds_frame (s : State) :
    (applyBounds s).pending = s.pending ∧ (applyBounds s).moment = s.moment ∧ (applyBounds s).pins = s.pins ∧
    (applyBounds s).loader = s.loader ∧ (applyBounds s).table = s.table ∧ (applyBounds s).supply = s.supply ∧
    (applyBounds s).zone = s.zone ∧ (applyBounds s).doors = s.doors ∧ (applyBounds s).defrost = s.defrost ∧
    (applyBounds s).overrides = s.overrides ∧ (applyBounds s).member = s.member ∧
    (applyBounds s).stats = s.stats :=
  by
  simp [applyBounds]

@[simp] theorem adjustAside_frame (before s : State) :
    (adjustAside before s).pending = s.pending ∧ (adjustAside before s).moment = s.moment ∧ (adjustAside before s).pins = s.pins ∧
    (adjustAside before s).loader = s.loader ∧ (adjustAside before s).table = s.table ∧ (adjustAside before s).supply = s.supply ∧
    (adjustAside before s).zone = s.zone ∧ (adjustAside before s).doors = s.doors ∧ (adjustAside before s).defrost = s.defrost ∧
    (adjustAside before s).overrides = s.overrides ∧ (adjustAside before s).member = s.member ∧
    (adjustAside before s).stats = s.stats :=
  by
  unfold adjustAside; (repeat' split) <;> simp

@[simp] theorem claimDecision_frame (s : State) :
    (claimDecision s).pending = s.pending ∧ (claimDecision s).moment = s.moment ∧
    (claimDecision s).pins = s.pins ∧ (claimDecision s).loader = s.loader ∧ (claimDecision s).table = s.table ∧
    (claimDecision s).share = s.share ∧ (claimDecision s).supply = s.supply ∧ (claimDecision s).zone = s.zone ∧
    (claimDecision s).doors = s.doors ∧ (claimDecision s).defrost = s.defrost ∧
    (claimDecision s).overrides = s.overrides ∧ (claimDecision s).member = s.member ∧
    (claimDecision s).stats = s.stats :=
  by
  unfold claimDecision; (repeat' split) <;> simp

@[simp] theorem queueReturn_frame (s : State) :
    (queueReturn s).pending = s.pending ∧ (queueReturn s).moment = s.moment ∧ (queueReturn s).pins = s.pins ∧
    (queueReturn s).loader = s.loader ∧ (queueReturn s).table = s.table ∧ (queueReturn s).share = s.share ∧
    (queueReturn s).supply = s.supply ∧ (queueReturn s).zone = s.zone ∧ (queueReturn s).doors = s.doors ∧
    (queueReturn s).defrost = s.defrost ∧ (queueReturn s).overrides = s.overrides ∧
    (queueReturn s).member = s.member ∧ (queueReturn s).stats = s.stats :=
  by
  unfold queueReturn; (repeat' split) <;> simp

@[simp] theorem triggerReturn_frame (ev : Ev) (before : State) (s : State) :
    (triggerReturn ev before s).pending = s.pending ∧ (triggerReturn ev before s).moment = s.moment ∧
    (triggerReturn ev before s).pins = s.pins ∧ (triggerReturn ev before s).loader = s.loader ∧
    (triggerReturn ev before s).table = s.table ∧ (triggerReturn ev before s).share = s.share ∧
    (triggerReturn ev before s).supply = s.supply ∧ (triggerReturn ev before s).zone = s.zone ∧
    (triggerReturn ev before s).doors = s.doors ∧ (triggerReturn ev before s).defrost = s.defrost ∧
    (triggerReturn ev before s).overrides = s.overrides ∧ (triggerReturn ev before s).member = s.member ∧
    (triggerReturn ev before s).stats = s.stats :=
  by
  unfold triggerReturn; (repeat' split) <;> simp

@[simp] theorem shareEvaluation_frame (ev : Ev) (before : State) (s : State) :
    (shareEvaluation ev before s).pending = s.pending ∧ (shareEvaluation ev before s).moment = s.moment ∧
    (shareEvaluation ev before s).pins = s.pins ∧ (shareEvaluation ev before s).loader = s.loader ∧
    (shareEvaluation ev before s).table = s.table ∧ (shareEvaluation ev before s).supply = s.supply ∧
    (shareEvaluation ev before s).zone = s.zone ∧ (shareEvaluation ev before s).doors = s.doors ∧
    (shareEvaluation ev before s).defrost = s.defrost ∧ (shareEvaluation ev before s).overrides = s.overrides ∧
    (shareEvaluation ev before s).member = s.member ∧ (shareEvaluation ev before s).stats = s.stats :=
  by
  simp [shareEvaluation]

@[simp] theorem settleReturn_frame (units : Nat) (s : State) :
    (settleReturn units s).pending = s.pending ∧ (settleReturn units s).moment = s.moment ∧
    (settleReturn units s).pins = s.pins ∧ (settleReturn units s).loader = s.loader ∧
    (settleReturn units s).table = s.table ∧ (settleReturn units s).supply = s.supply ∧
    (settleReturn units s).zone = s.zone ∧ (settleReturn units s).doors = s.doors ∧
    (settleReturn units s).defrost = s.defrost ∧ (settleReturn units s).overrides = s.overrides ∧
    (settleReturn units s).member = s.member ∧ (settleReturn units s).stats = s.stats :=
  by
  simp [settleReturn]

/-! ## Zone controller -/

@[simp] theorem cutStages_frame (s : State) :
    (cutStages s).pending = s.pending ∧ (cutStages s).moment = s.moment ∧ (cutStages s).pins = s.pins ∧
    (cutStages s).loader = s.loader ∧ (cutStages s).table = s.table ∧ (cutStages s).share = s.share ∧
    (cutStages s).supply = s.supply ∧ (cutStages s).doors = s.doors ∧ (cutStages s).defrost = s.defrost ∧
    (cutStages s).overrides = s.overrides ∧ (cutStages s).member = s.member ∧ (cutStages s).bus = s.bus ∧
    (cutStages s).stats = s.stats :=
  by
  unfold cutStages; (repeat' split) <;> simp

@[simp] theorem regulate_frame (ev : Ev) (before : State) (s : State) :
    (regulate ev before s).pending = s.pending ∧ (regulate ev before s).moment = s.moment ∧
    (regulate ev before s).pins = s.pins ∧ (regulate ev before s).loader = s.loader ∧
    (regulate ev before s).table = s.table ∧ (regulate ev before s).supply = s.supply ∧
    (regulate ev before s).doors = s.doors ∧ (regulate ev before s).defrost = s.defrost ∧
    (regulate ev before s).overrides = s.overrides ∧ (regulate ev before s).member = s.member ∧
    (regulate ev before s).stats = s.stats :=
  by
  simp [regulate]

@[simp] theorem zoneEvaluation_frame (ev : Ev) (before : State) (s : State) :
    (zoneEvaluation ev before s).pending = s.pending ∧ (zoneEvaluation ev before s).moment = s.moment ∧
    (zoneEvaluation ev before s).pins = s.pins ∧ (zoneEvaluation ev before s).loader = s.loader ∧
    (zoneEvaluation ev before s).table = s.table ∧ (zoneEvaluation ev before s).supply = s.supply ∧
    (zoneEvaluation ev before s).doors = s.doors ∧ (zoneEvaluation ev before s).defrost = s.defrost ∧
    (zoneEvaluation ev before s).overrides = s.overrides ∧ (zoneEvaluation ev before s).member = s.member ∧
    (zoneEvaluation ev before s).stats = s.stats :=
  by
  simp [zoneEvaluation]

/-! ## Statistics -/

@[simp] theorem countIf_frame (happened : Bool) (c : Counter) (s : State) :
    (countIf happened c s).pending = s.pending ∧ (countIf happened c s).moment = s.moment ∧
    (countIf happened c s).pins = s.pins ∧ (countIf happened c s).loader = s.loader ∧
    (countIf happened c s).table = s.table ∧ (countIf happened c s).share = s.share ∧
    (countIf happened c s).supply = s.supply ∧ (countIf happened c s).zone = s.zone ∧
    (countIf happened c s).doors = s.doors ∧ (countIf happened c s).defrost = s.defrost ∧
    (countIf happened c s).overrides = s.overrides ∧ (countIf happened c s).member = s.member ∧
    (countIf happened c s).bus = s.bus :=
  by
  unfold countIf; (repeat' split) <;> simp

@[simp] theorem countSecond_frame (s : State) :
    (countSecond s).pending = s.pending ∧ (countSecond s).moment = s.moment ∧ (countSecond s).pins = s.pins ∧
    (countSecond s).loader = s.loader ∧ (countSecond s).table = s.table ∧ (countSecond s).share = s.share ∧
    (countSecond s).supply = s.supply ∧ (countSecond s).zone = s.zone ∧ (countSecond s).doors = s.doors ∧
    (countSecond s).defrost = s.defrost ∧ (countSecond s).overrides = s.overrides ∧
    (countSecond s).member = s.member ∧ (countSecond s).bus = s.bus :=
  by
  simp [countSecond]

@[simp] theorem takeSnapshot_frame (s : State) :
    (takeSnapshot s).pending = s.pending ∧ (takeSnapshot s).moment = s.moment ∧
    (takeSnapshot s).pins = s.pins ∧ (takeSnapshot s).loader = s.loader ∧ (takeSnapshot s).table = s.table ∧
    (takeSnapshot s).share = s.share ∧ (takeSnapshot s).supply = s.supply ∧ (takeSnapshot s).zone = s.zone ∧
    (takeSnapshot s).doors = s.doors ∧ (takeSnapshot s).defrost = s.defrost ∧
    (takeSnapshot s).overrides = s.overrides ∧ (takeSnapshot s).member = s.member ∧
    (takeSnapshot s).bus = s.bus :=
  by
  unfold takeSnapshot; (repeat' split) <;> simp

@[simp] theorem takeQuery_frame (target : Byte) (item : Byte) (flags : Byte) (s : State) :
    (takeQuery target item flags s).pending = s.pending ∧ (takeQuery target item flags s).moment = s.moment ∧
    (takeQuery target item flags s).pins = s.pins ∧ (takeQuery target item flags s).loader = s.loader ∧
    (takeQuery target item flags s).table = s.table ∧ (takeQuery target item flags s).share = s.share ∧
    (takeQuery target item flags s).supply = s.supply ∧ (takeQuery target item flags s).zone = s.zone ∧
    (takeQuery target item flags s).doors = s.doors ∧ (takeQuery target item flags s).defrost = s.defrost ∧
    (takeQuery target item flags s).overrides = s.overrides ∧ (takeQuery target item flags s).member = s.member :=
  by
  unfold takeQuery; (repeat' split) <;> simp

@[simp] theorem reportCompleted_frame (s : State) :
    (reportCompleted s).pending = s.pending ∧ (reportCompleted s).moment = s.moment ∧
    (reportCompleted s).pins = s.pins ∧ (reportCompleted s).loader = s.loader ∧
    (reportCompleted s).table = s.table ∧ (reportCompleted s).share = s.share ∧
    (reportCompleted s).supply = s.supply ∧ (reportCompleted s).zone = s.zone ∧
    (reportCompleted s).doors = s.doors ∧ (reportCompleted s).defrost = s.defrost ∧
    (reportCompleted s).overrides = s.overrides ∧ (reportCompleted s).member = s.member :=
  by
  unfold reportCompleted; (repeat' split) <;> simp

/-! ## Door unit -/

@[simp] theorem setDoor_frame (door : Fin 2) (d : Door) (s : State) :
    (setDoor door d s).pending = s.pending ∧ (setDoor door d s).moment = s.moment ∧
    (setDoor door d s).pins = s.pins ∧ (setDoor door d s).loader = s.loader ∧
    (setDoor door d s).table = s.table ∧ (setDoor door d s).share = s.share ∧
    (setDoor door d s).supply = s.supply ∧ (setDoor door d s).zone = s.zone ∧
    (setDoor door d s).defrost = s.defrost ∧ (setDoor door d s).overrides = s.overrides ∧
    (setDoor door d s).member = s.member ∧ (setDoor door d s).bus = s.bus ∧ (setDoor door d s).stats = s.stats :=
  by
  unfold setDoor; (repeat' split) <;> simp

@[simp] theorem setRawDoor_frame (door : Fin 2) (apart : Bool) (s : State) :
    (setRawDoor door apart s).pending = s.pending ∧ (setRawDoor door apart s).moment = s.moment ∧
    (setRawDoor door apart s).loader = s.loader ∧ (setRawDoor door apart s).table = s.table ∧
    (setRawDoor door apart s).share = s.share ∧ (setRawDoor door apart s).supply = s.supply ∧
    (setRawDoor door apart s).zone = s.zone ∧ (setRawDoor door apart s).doors = s.doors ∧
    (setRawDoor door apart s).defrost = s.defrost ∧ (setRawDoor door apart s).overrides = s.overrides ∧
    (setRawDoor door apart s).member = s.member ∧ (setRawDoor door apart s).bus = s.bus ∧
    (setRawDoor door apart s).stats = s.stats :=
  by
  unfold setRawDoor; (repeat' split) <;> simp

@[simp] theorem restartDoorDebounce_frame (door : Fin 2) (s : State) :
    (restartDoorDebounce door s).pending = s.pending ∧ (restartDoorDebounce door s).moment = s.moment ∧
    (restartDoorDebounce door s).pins = s.pins ∧ (restartDoorDebounce door s).loader = s.loader ∧
    (restartDoorDebounce door s).table = s.table ∧ (restartDoorDebounce door s).share = s.share ∧
    (restartDoorDebounce door s).supply = s.supply ∧ (restartDoorDebounce door s).zone = s.zone ∧
    (restartDoorDebounce door s).defrost = s.defrost ∧ (restartDoorDebounce door s).overrides = s.overrides ∧
    (restartDoorDebounce door s).member = s.member ∧ (restartDoorDebounce door s).bus = s.bus ∧
    (restartDoorDebounce door s).stats = s.stats :=
  by
  simp [restartDoorDebounce]

@[simp] theorem stateActivity_frame (s : State) :
    (stateActivity s).pending = s.pending ∧ (stateActivity s).moment = s.moment ∧
    (stateActivity s).pins = s.pins ∧ (stateActivity s).loader = s.loader ∧ (stateActivity s).table = s.table ∧
    (stateActivity s).share = s.share ∧ (stateActivity s).supply = s.supply ∧ (stateActivity s).zone = s.zone ∧
    (stateActivity s).doors = s.doors ∧ (stateActivity s).defrost = s.defrost ∧
    (stateActivity s).overrides = s.overrides ∧ (stateActivity s).member = s.member ∧
    (stateActivity s).stats = s.stats :=
  by
  unfold stateActivity; (repeat' split) <;> simp

@[simp] theorem setOneShot_frame (o : OneShot) (tail : Timer) (s : State) :
    (setOneShot o tail s).pending = s.pending ∧ (setOneShot o tail s).moment = s.moment ∧
    (setOneShot o tail s).pins = s.pins ∧ (setOneShot o tail s).loader = s.loader ∧
    (setOneShot o tail s).table = s.table ∧ (setOneShot o tail s).share = s.share ∧
    (setOneShot o tail s).supply = s.supply ∧ (setOneShot o tail s).zone = s.zone ∧
    (setOneShot o tail s).defrost = s.defrost ∧ (setOneShot o tail s).overrides = s.overrides ∧
    (setOneShot o tail s).member = s.member ∧ (setOneShot o tail s).stats = s.stats :=
  by
  unfold setOneShot; dsimp only; (repeat' split) <;> simp

@[simp] theorem openingEdge_frame (s : State) :
    (openingEdge s).pending = s.pending ∧ (openingEdge s).moment = s.moment ∧ (openingEdge s).pins = s.pins ∧
    (openingEdge s).loader = s.loader ∧ (openingEdge s).table = s.table ∧ (openingEdge s).share = s.share ∧
    (openingEdge s).supply = s.supply ∧ (openingEdge s).zone = s.zone ∧ (openingEdge s).defrost = s.defrost ∧
    (openingEdge s).overrides = s.overrides ∧ (openingEdge s).member = s.member ∧
    (openingEdge s).stats = s.stats :=
  by
  unfold openingEdge; (repeat' split) <;> simp

@[simp] theorem checkLayover_frame (s : State) :
    (checkLayover s).pending = s.pending ∧ (checkLayover s).moment = s.moment ∧
    (checkLayover s).pins = s.pins ∧ (checkLayover s).loader = s.loader ∧ (checkLayover s).table = s.table ∧
    (checkLayover s).share = s.share ∧ (checkLayover s).supply = s.supply ∧ (checkLayover s).zone = s.zone ∧
    (checkLayover s).defrost = s.defrost ∧ (checkLayover s).overrides = s.overrides ∧
    (checkLayover s).member = s.member ∧ (checkLayover s).stats = s.stats :=
  by
  unfold checkLayover; (repeat' split) <;> simp

@[simp] theorem closingEdge_frame (s : State) :
    (closingEdge s).pending = s.pending ∧ (closingEdge s).moment = s.moment ∧ (closingEdge s).pins = s.pins ∧
    (closingEdge s).loader = s.loader ∧ (closingEdge s).table = s.table ∧ (closingEdge s).share = s.share ∧
    (closingEdge s).supply = s.supply ∧ (closingEdge s).zone = s.zone ∧ (closingEdge s).defrost = s.defrost ∧
    (closingEdge s).overrides = s.overrides ∧ (closingEdge s).member = s.member ∧
    (closingEdge s).stats = s.stats :=
  by
  unfold closingEdge; (repeat' split) <;> simp

@[simp] theorem doorTakesLevel_frame (door : Fin 2) (level : DoorLevel) (s : State) :
    (doorTakesLevel door level s).pending = s.pending ∧ (doorTakesLevel door level s).moment = s.moment ∧
    (doorTakesLevel door level s).pins = s.pins ∧ (doorTakesLevel door level s).loader = s.loader ∧
    (doorTakesLevel door level s).table = s.table ∧ (doorTakesLevel door level s).share = s.share ∧
    (doorTakesLevel door level s).supply = s.supply ∧ (doorTakesLevel door level s).zone = s.zone ∧
    (doorTakesLevel door level s).defrost = s.defrost ∧ (doorTakesLevel door level s).overrides = s.overrides ∧
    (doorTakesLevel door level s).member = s.member :=
  by
  unfold doorTakesLevel; dsimp only; (repeat' split) <;> simp

@[simp] theorem learnOutdoor_frame (sender : Nat) (p : StatusPayload) (s : State) :
    (learnOutdoor sender p s).pending = s.pending ∧ (learnOutdoor sender p s).moment = s.moment ∧
    (learnOutdoor sender p s).pins = s.pins ∧ (learnOutdoor sender p s).loader = s.loader ∧
    (learnOutdoor sender p s).table = s.table ∧ (learnOutdoor sender p s).share = s.share ∧
    (learnOutdoor sender p s).supply = s.supply ∧ (learnOutdoor sender p s).zone = s.zone ∧
    (learnOutdoor sender p s).defrost = s.defrost ∧ (learnOutdoor sender p s).overrides = s.overrides ∧
    (learnOutdoor sender p s).member = s.member ∧ (learnOutdoor sender p s).bus = s.bus ∧
    (learnOutdoor sender p s).stats = s.stats :=
  by
  unfold learnOutdoor; (repeat' split) <;> simp

@[simp] theorem takeDraft_frame (station : Nat) (active : Byte) (s : State) :
    (takeDraft station active s).pending = s.pending ∧ (takeDraft station active s).moment = s.moment ∧
    (takeDraft station active s).pins = s.pins ∧ (takeDraft station active s).loader = s.loader ∧
    (takeDraft station active s).table = s.table ∧ (takeDraft station active s).share = s.share ∧
    (takeDraft station active s).supply = s.supply ∧ (takeDraft station active s).zone = s.zone ∧
    (takeDraft station active s).defrost = s.defrost ∧ (takeDraft station active s).overrides = s.overrides ∧
    (takeDraft station active s).member = s.member ∧ (takeDraft station active s).bus = s.bus ∧
    (takeDraft station active s).stats = s.stats :=
  by
  unfold takeDraft; (repeat' split) <;> simp

@[simp] theorem forgetStated_frame (s : State) :
    (forgetStated s).pending = s.pending ∧ (forgetStated s).moment = s.moment ∧
    (forgetStated s).pins = s.pins ∧ (forgetStated s).loader = s.loader ∧ (forgetStated s).table = s.table ∧
    (forgetStated s).share = s.share ∧ (forgetStated s).supply = s.supply ∧ (forgetStated s).zone = s.zone ∧
    (forgetStated s).defrost = s.defrost ∧ (forgetStated s).overrides = s.overrides ∧
    (forgetStated s).member = s.member ∧ (forgetStated s).stats = s.stats :=
  by
  unfold forgetStated; dsimp only; (repeat' split) <;> simp

@[simp] theorem dropMismatchedSpill_frame (sender : Nat) (s : State) :
    (dropMismatchedSpill sender s).pending = s.pending ∧ (dropMismatchedSpill sender s).moment = s.moment ∧
    (dropMismatchedSpill sender s).pins = s.pins ∧ (dropMismatchedSpill sender s).loader = s.loader ∧
    (dropMismatchedSpill sender s).table = s.table ∧ (dropMismatchedSpill sender s).share = s.share ∧
    (dropMismatchedSpill sender s).supply = s.supply ∧ (dropMismatchedSpill sender s).zone = s.zone ∧
    (dropMismatchedSpill sender s).defrost = s.defrost ∧
    (dropMismatchedSpill sender s).overrides = s.overrides ∧ (dropMismatchedSpill sender s).member = s.member ∧
    (dropMismatchedSpill sender s).bus = s.bus ∧ (dropMismatchedSpill sender s).stats = s.stats :=
  by
  unfold dropMismatchedSpill; (repeat' split) <;> simp

/-! ## Defrost unit -/

@[simp] theorem compareScreen_frame (s : State) :
    (compareScreen s).pending = s.pending ∧ (compareScreen s).moment = s.moment ∧
    (compareScreen s).pins = s.pins ∧ (compareScreen s).loader = s.loader ∧ (compareScreen s).table = s.table ∧
    (compareScreen s).share = s.share ∧ (compareScreen s).supply = s.supply ∧ (compareScreen s).zone = s.zone ∧
    (compareScreen s).doors = s.doors ∧ (compareScreen s).overrides = s.overrides ∧
    (compareScreen s).member = s.member ∧ (compareScreen s).bus = s.bus ∧ (compareScreen s).stats = s.stats :=
  by
  unfold compareScreen; (repeat' split) <;> simp

@[simp] theorem enterRamp_frame (s : State) :
    (enterRamp s).pending = s.pending ∧ (enterRamp s).moment = s.moment ∧ (enterRamp s).pins = s.pins ∧
    (enterRamp s).loader = s.loader ∧ (enterRamp s).table = s.table ∧ (enterRamp s).share = s.share ∧
    (enterRamp s).supply = s.supply ∧ (enterRamp s).zone = s.zone ∧ (enterRamp s).doors = s.doors ∧
    (enterRamp s).overrides = s.overrides ∧ (enterRamp s).member = s.member ∧ (enterRamp s).bus = s.bus ∧
    (enterRamp s).stats = s.stats :=
  by
  simp [enterRamp]

@[simp] theorem leaveWaiting_frame (s : State) :
    (leaveWaiting s).pending = s.pending ∧ (leaveWaiting s).moment = s.moment ∧
    (leaveWaiting s).pins = s.pins ∧ (leaveWaiting s).loader = s.loader ∧ (leaveWaiting s).table = s.table ∧
    (leaveWaiting s).share = s.share ∧ (leaveWaiting s).supply = s.supply ∧ (leaveWaiting s).zone = s.zone ∧
    (leaveWaiting s).doors = s.doors ∧ (leaveWaiting s).overrides = s.overrides ∧
    (leaveWaiting s).member = s.member ∧ (leaveWaiting s).bus = s.bus ∧ (leaveWaiting s).stats = s.stats :=
  by
  unfold leaveWaiting; (repeat' split) <;> simp

@[simp] theorem enterWaiting_frame (s : State) :
    (enterWaiting s).pending = s.pending ∧ (enterWaiting s).moment = s.moment ∧
    (enterWaiting s).pins = s.pins ∧ (enterWaiting s).loader = s.loader ∧ (enterWaiting s).table = s.table ∧
    (enterWaiting s).share = s.share ∧ (enterWaiting s).supply = s.supply ∧ (enterWaiting s).zone = s.zone ∧
    (enterWaiting s).doors = s.doors ∧ (enterWaiting s).overrides = s.overrides ∧
    (enterWaiting s).member = s.member ∧ (enterWaiting s).bus = s.bus ∧ (enterWaiting s).stats = s.stats :=
  by
  simp [enterWaiting]

@[simp] theorem checkDefrost_frame (s : State) :
    (checkDefrost s).pending = s.pending ∧ (checkDefrost s).moment = s.moment ∧
    (checkDefrost s).pins = s.pins ∧ (checkDefrost s).loader = s.loader ∧ (checkDefrost s).table = s.table ∧
    (checkDefrost s).share = s.share ∧ (checkDefrost s).supply = s.supply ∧ (checkDefrost s).zone = s.zone ∧
    (checkDefrost s).doors = s.doors ∧ (checkDefrost s).overrides = s.overrides ∧
    (checkDefrost s).member = s.member ∧ (checkDefrost s).bus = s.bus ∧ (checkDefrost s).stats = s.stats :=
  by
  unfold checkDefrost; (repeat' split) <;> simp

@[simp] theorem pauseDefrost_frame (s : State) :
    (pauseDefrost s).pending = s.pending ∧ (pauseDefrost s).moment = s.moment ∧
    (pauseDefrost s).pins = s.pins ∧ (pauseDefrost s).loader = s.loader ∧ (pauseDefrost s).table = s.table ∧
    (pauseDefrost s).share = s.share ∧ (pauseDefrost s).supply = s.supply ∧ (pauseDefrost s).zone = s.zone ∧
    (pauseDefrost s).doors = s.doors ∧ (pauseDefrost s).overrides = s.overrides ∧
    (pauseDefrost s).member = s.member ∧ (pauseDefrost s).bus = s.bus ∧ (pauseDefrost s).stats = s.stats :=
  by
  unfold pauseDefrost; (repeat' split) <;> simp

@[simp] theorem resumeDefrost_frame (s : State) :
    (resumeDefrost s).pending = s.pending ∧ (resumeDefrost s).moment = s.moment ∧
    (resumeDefrost s).pins = s.pins ∧ (resumeDefrost s).loader = s.loader ∧ (resumeDefrost s).table = s.table ∧
    (resumeDefrost s).share = s.share ∧ (resumeDefrost s).supply = s.supply ∧ (resumeDefrost s).zone = s.zone ∧
    (resumeDefrost s).doors = s.doors ∧ (resumeDefrost s).overrides = s.overrides ∧
    (resumeDefrost s).member = s.member ∧ (resumeDefrost s).bus = s.bus ∧ (resumeDefrost s).stats = s.stats :=
  by
  unfold resumeDefrost; (repeat' split) <;> simp

@[simp] theorem defrostSeesSupply_frame (s : State) :
    (defrostSeesSupply s).pending = s.pending ∧ (defrostSeesSupply s).moment = s.moment ∧
    (defrostSeesSupply s).pins = s.pins ∧ (defrostSeesSupply s).loader = s.loader ∧
    (defrostSeesSupply s).table = s.table ∧ (defrostSeesSupply s).share = s.share ∧
    (defrostSeesSupply s).supply = s.supply ∧ (defrostSeesSupply s).zone = s.zone ∧
    (defrostSeesSupply s).doors = s.doors ∧ (defrostSeesSupply s).overrides = s.overrides ∧
    (defrostSeesSupply s).member = s.member ∧ (defrostSeesSupply s).bus = s.bus ∧
    (defrostSeesSupply s).stats = s.stats :=
  by
  unfold defrostSeesSupply; (repeat' split) <;> simp

@[simp] theorem setSupply_frame (state : SupplyState) (s : State) :
    (setSupply state s).pending = s.pending ∧ (setSupply state s).moment = s.moment ∧
    (setSupply state s).pins = s.pins ∧ (setSupply state s).loader = s.loader ∧
    (setSupply state s).table = s.table ∧ (setSupply state s).share = s.share ∧
    (setSupply state s).zone = s.zone ∧ (setSupply state s).doors = s.doors ∧
    (setSupply state s).overrides = s.overrides ∧ (setSupply state s).member = s.member ∧
    (setSupply state s).bus = s.bus ∧ (setSupply state s).stats = s.stats :=
  by
  simp [setSupply]

@[simp] theorem defrostSeesFog_frame (s : State) :
    (defrostSeesFog s).pending = s.pending ∧ (defrostSeesFog s).moment = s.moment ∧
    (defrostSeesFog s).pins = s.pins ∧ (defrostSeesFog s).loader = s.loader ∧
    (defrostSeesFog s).table = s.table ∧ (defrostSeesFog s).share = s.share ∧
    (defrostSeesFog s).supply = s.supply ∧ (defrostSeesFog s).zone = s.zone ∧
    (defrostSeesFog s).doors = s.doors ∧ (defrostSeesFog s).overrides = s.overrides ∧
    (defrostSeesFog s).member = s.member ∧ (defrostSeesFog s).bus = s.bus ∧ (defrostSeesFog s).stats = s.stats :=
  by
  unfold defrostSeesFog; (repeat' split) <;> simp

@[simp] theorem defrostSeesMode_frame (s : State) :
    (defrostSeesMode s).pending = s.pending ∧ (defrostSeesMode s).moment = s.moment ∧
    (defrostSeesMode s).pins = s.pins ∧ (defrostSeesMode s).loader = s.loader ∧
    (defrostSeesMode s).table = s.table ∧ (defrostSeesMode s).share = s.share ∧
    (defrostSeesMode s).supply = s.supply ∧ (defrostSeesMode s).zone = s.zone ∧
    (defrostSeesMode s).doors = s.doors ∧ (defrostSeesMode s).overrides = s.overrides ∧
    (defrostSeesMode s).member = s.member ∧ (defrostSeesMode s).bus = s.bus ∧
    (defrostSeesMode s).stats = s.stats :=
  by
  unfold defrostSeesMode; (repeat' split) <;> simp

@[simp] theorem holdExpires_frame (s : State) :
    (holdExpires s).pending = s.pending ∧ (holdExpires s).moment = s.moment ∧ (holdExpires s).pins = s.pins ∧
    (holdExpires s).loader = s.loader ∧ (holdExpires s).table = s.table ∧ (holdExpires s).share = s.share ∧
    (holdExpires s).supply = s.supply ∧ (holdExpires s).zone = s.zone ∧ (holdExpires s).doors = s.doors ∧
    (holdExpires s).overrides = s.overrides ∧ (holdExpires s).member = s.member ∧ (holdExpires s).bus = s.bus ∧
    (holdExpires s).stats = s.stats :=
  by
  unfold holdExpires; (repeat' split) <;> simp

@[simp] theorem readCabSensors_frame (s : State) :
    (readCabSensors s).pending = s.pending ∧ (readCabSensors s).moment = s.moment ∧
    (readCabSensors s).pins = s.pins ∧ (readCabSensors s).loader = s.loader ∧
    (readCabSensors s).table = s.table ∧ (readCabSensors s).share = s.share ∧
    (readCabSensors s).supply = s.supply ∧ (readCabSensors s).zone = s.zone ∧
    (readCabSensors s).overrides = s.overrides ∧ (readCabSensors s).member = s.member ∧
    (readCabSensors s).bus = s.bus ∧ (readCabSensors s).stats = s.stats :=
  by
  unfold readCabSensors; dsimp only; (repeat' split) <;> simp

@[simp] theorem defrostSeesTaking_frame (lost : Bool) (keptBefore : Nat) (s : State) :
    (defrostSeesTaking lost keptBefore s).pending = s.pending ∧
    (defrostSeesTaking lost keptBefore s).moment = s.moment ∧
    (defrostSeesTaking lost keptBefore s).pins = s.pins ∧
    (defrostSeesTaking lost keptBefore s).loader = s.loader ∧
    (defrostSeesTaking lost keptBefore s).table = s.table ∧
    (defrostSeesTaking lost keptBefore s).share = s.share ∧
    (defrostSeesTaking lost keptBefore s).supply = s.supply ∧
    (defrostSeesTaking lost keptBefore s).zone = s.zone ∧
    (defrostSeesTaking lost keptBefore s).doors = s.doors ∧
    (defrostSeesTaking lost keptBefore s).overrides = s.overrides ∧
    (defrostSeesTaking lost keptBefore s).member = s.member ∧
    (defrostSeesTaking lost keptBefore s).bus = s.bus ∧ (defrostSeesTaking lost keptBefore s).stats = s.stats :=
  by
  unfold defrostSeesTaking; (repeat' split) <;> simp

/-! ## Override table -/

@[simp] theorem handSlotsOn_frame (o : Overrides) (s : State) :
    (handSlotsOn o s).pending = s.pending ∧ (handSlotsOn o s).moment = s.moment ∧
    (handSlotsOn o s).pins = s.pins ∧ (handSlotsOn o s).loader = s.loader ∧ (handSlotsOn o s).table = s.table ∧
    (handSlotsOn o s).share = s.share ∧ (handSlotsOn o s).supply = s.supply ∧
    (handSlotsOn o s).member = s.member ∧ (handSlotsOn o s).stats = s.stats :=
  by
  unfold handSlotsOn; dsimp only; (repeat' split) <;> simp

/-! ## Membership unit -/

@[simp] theorem leaveInStep_frame (s : State) :
    (leaveInStep s).pending = s.pending ∧ (leaveInStep s).moment = s.moment ∧ (leaveInStep s).pins = s.pins ∧
    (leaveInStep s).loader = s.loader ∧ (leaveInStep s).table = s.table ∧ (leaveInStep s).share = s.share ∧
    (leaveInStep s).supply = s.supply ∧ (leaveInStep s).zone = s.zone ∧ (leaveInStep s).doors = s.doors ∧
    (leaveInStep s).defrost = s.defrost ∧ (leaveInStep s).overrides = s.overrides ∧
    (leaveInStep s).stats = s.stats :=
  by
  simp [leaveInStep]

@[simp] theorem dropReport_frame (s : State) :
    (dropReport s).pending = s.pending ∧ (dropReport s).moment = s.moment ∧ (dropReport s).pins = s.pins ∧
    (dropReport s).loader = s.loader ∧ (dropReport s).table = s.table ∧ (dropReport s).share = s.share ∧
    (dropReport s).supply = s.supply ∧ (dropReport s).zone = s.zone ∧ (dropReport s).doors = s.doors ∧
    (dropReport s).defrost = s.defrost ∧ (dropReport s).overrides = s.overrides ∧
    (dropReport s).member = s.member :=
  by
  simp [dropReport]

@[simp] theorem stopStatus_frame (s : State) :
    (stopStatus s).pending = s.pending ∧ (stopStatus s).moment = s.moment ∧ (stopStatus s).pins = s.pins ∧
    (stopStatus s).loader = s.loader ∧ (stopStatus s).table = s.table ∧ (stopStatus s).share = s.share ∧
    (stopStatus s).supply = s.supply ∧ (stopStatus s).zone = s.zone ∧ (stopStatus s).doors = s.doors ∧
    (stopStatus s).defrost = s.defrost ∧ (stopStatus s).overrides = s.overrides :=
  by
  simp [stopStatus]

@[simp] theorem startStatus_frame (s : State) :
    (startStatus s).pending = s.pending ∧ (startStatus s).moment = s.moment ∧ (startStatus s).pins = s.pins ∧
    (startStatus s).loader = s.loader ∧ (startStatus s).table = s.table ∧ (startStatus s).share = s.share ∧
    (startStatus s).supply = s.supply ∧ (startStatus s).zone = s.zone ∧ (startStatus s).doors = s.doors ∧
    (startStatus s).defrost = s.defrost ∧ (startStatus s).overrides = s.overrides ∧
    (startStatus s).stats = s.stats :=
  by
  simp [startStatus]

@[simp] theorem enterInStep_frame (s : State) :
    (enterInStep s).pending = s.pending ∧ (enterInStep s).moment = s.moment ∧ (enterInStep s).pins = s.pins ∧
    (enterInStep s).loader = s.loader ∧ (enterInStep s).table = s.table ∧ (enterInStep s).share = s.share ∧
    (enterInStep s).supply = s.supply ∧ (enterInStep s).zone = s.zone ∧ (enterInStep s).doors = s.doors ∧
    (enterInStep s).defrost = s.defrost ∧ (enterInStep s).overrides = s.overrides ∧
    (enterInStep s).stats = s.stats :=
  by
  unfold enterInStep; (repeat' split) <;> simp

@[simp] theorem enterClash_frame (s : State) :
    (enterClash s).pending = s.pending ∧ (enterClash s).moment = s.moment ∧ (enterClash s).pins = s.pins ∧
    (enterClash s).loader = s.loader ∧ (enterClash s).table = s.table ∧ (enterClash s).share = s.share ∧
    (enterClash s).supply = s.supply ∧ (enterClash s).zone = s.zone ∧ (enterClash s).doors = s.doors ∧
    (enterClash s).overrides = s.overrides :=
  by
  simp [enterClash]

@[simp] theorem entered_frame (m : MemberState) (s : State) :
    (entered m s).pending = s.pending ∧ (entered m s).moment = s.moment ∧ (entered m s).pins = s.pins ∧
    (entered m s).loader = s.loader ∧ (entered m s).table = s.table ∧ (entered m s).share = s.share ∧
    (entered m s).supply = s.supply ∧ (entered m s).zone = s.zone ∧ (entered m s).doors = s.doors ∧
    (entered m s).overrides = s.overrides :=
  by
  unfold entered; (repeat' split) <;> simp

@[simp] theorem setMember_frame (m : MemberState) (s : State) :
    (setMember m s).pending = s.pending ∧ (setMember m s).moment = s.moment ∧ (setMember m s).pins = s.pins ∧
    (setMember m s).loader = s.loader ∧ (setMember m s).table = s.table ∧ (setMember m s).share = s.share ∧
    (setMember m s).supply = s.supply ∧ (setMember m s).zone = s.zone ∧ (setMember m s).doors = s.doors ∧
    (setMember m s).overrides = s.overrides :=
  by
  unfold setMember; split <;> simp

@[simp] theorem dropSettledExpulsion_frame (s : State) :
    (dropSettledExpulsion s).pending = s.pending ∧ (dropSettledExpulsion s).moment = s.moment ∧
    (dropSettledExpulsion s).pins = s.pins ∧ (dropSettledExpulsion s).loader = s.loader ∧
    (dropSettledExpulsion s).table = s.table ∧ (dropSettledExpulsion s).share = s.share ∧
    (dropSettledExpulsion s).supply = s.supply ∧ (dropSettledExpulsion s).zone = s.zone ∧
    (dropSettledExpulsion s).doors = s.doors ∧ (dropSettledExpulsion s).defrost = s.defrost ∧
    (dropSettledExpulsion s).overrides = s.overrides ∧ (dropSettledExpulsion s).stats = s.stats :=
  by
  unfold dropSettledExpulsion; (repeat' split) <;> simp

@[simp] theorem proposeExpulsion_frame (s : State) :
    (proposeExpulsion s).pending = s.pending ∧ (proposeExpulsion s).moment = s.moment ∧
    (proposeExpulsion s).pins = s.pins ∧ (proposeExpulsion s).loader = s.loader ∧
    (proposeExpulsion s).table = s.table ∧ (proposeExpulsion s).share = s.share ∧
    (proposeExpulsion s).supply = s.supply ∧ (proposeExpulsion s).zone = s.zone ∧
    (proposeExpulsion s).doors = s.doors ∧ (proposeExpulsion s).defrost = s.defrost ∧
    (proposeExpulsion s).overrides = s.overrides ∧ (proposeExpulsion s).stats = s.stats :=
  by
  unfold proposeExpulsion; (repeat' split) <;> simp

@[simp] theorem checkExpulsion_frame (s : State) :
    (checkExpulsion s).pending = s.pending ∧ (checkExpulsion s).moment = s.moment ∧
    (checkExpulsion s).pins = s.pins ∧ (checkExpulsion s).loader = s.loader ∧
    (checkExpulsion s).table = s.table ∧ (checkExpulsion s).share = s.share ∧
    (checkExpulsion s).supply = s.supply ∧ (checkExpulsion s).zone = s.zone ∧
    (checkExpulsion s).doors = s.doors ∧ (checkExpulsion s).defrost = s.defrost ∧
    (checkExpulsion s).overrides = s.overrides ∧ (checkExpulsion s).stats = s.stats :=
  by
  simp [checkExpulsion]

@[simp] theorem hear_frame (station : Nat) (p : StatusPayload) (s : State) :
    (hear station p s).pending = s.pending ∧ (hear station p s).moment = s.moment ∧
    (hear station p s).pins = s.pins ∧ (hear station p s).loader = s.loader ∧
    (hear station p s).table = s.table ∧ (hear station p s).share = s.share ∧
    (hear station p s).supply = s.supply ∧ (hear station p s).zone = s.zone ∧
    (hear station p s).doors = s.doors ∧ (hear station p s).defrost = s.defrost ∧
    (hear station p s).overrides = s.overrides ∧ (hear station p s).bus = s.bus ∧
    (hear station p s).stats = s.stats :=
  by
  unfold hear; (repeat' split) <;> simp

@[simp] theorem checkCatchUp_frame (s : State) :
    (checkCatchUp s).pending = s.pending ∧ (checkCatchUp s).moment = s.moment ∧
    (checkCatchUp s).pins = s.pins ∧ (checkCatchUp s).loader = s.loader ∧ (checkCatchUp s).table = s.table ∧
    (checkCatchUp s).share = s.share ∧ (checkCatchUp s).supply = s.supply ∧ (checkCatchUp s).zone = s.zone ∧
    (checkCatchUp s).doors = s.doors ∧ (checkCatchUp s).overrides = s.overrides :=
  by
  unfold checkCatchUp; (repeat' split) <;> simp

@[simp] theorem enterMismatch_frame (s : State) :
    (enterMismatch s).pending = s.pending ∧ (enterMismatch s).moment = s.moment ∧
    (enterMismatch s).pins = s.pins ∧ (enterMismatch s).loader = s.loader ∧ (enterMismatch s).table = s.table ∧
    (enterMismatch s).share = s.share ∧ (enterMismatch s).supply = s.supply ∧ (enterMismatch s).zone = s.zone ∧
    (enterMismatch s).doors = s.doors ∧ (enterMismatch s).overrides = s.overrides :=
  by
  simp [enterMismatch]

@[simp] theorem ownJoinTaken_frame (s : State) :
    (ownJoinTaken s).pending = s.pending ∧ (ownJoinTaken s).moment = s.moment ∧
    (ownJoinTaken s).pins = s.pins ∧ (ownJoinTaken s).loader = s.loader ∧ (ownJoinTaken s).table = s.table ∧
    (ownJoinTaken s).share = s.share ∧ (ownJoinTaken s).supply = s.supply ∧ (ownJoinTaken s).zone = s.zone ∧
    (ownJoinTaken s).doors = s.doors ∧ (ownJoinTaken s).overrides = s.overrides :=
  by
  simp [ownJoinTaken]

@[simp] theorem selfExpelled_frame (s : State) :
    (selfExpelled s).pending = s.pending ∧ (selfExpelled s).moment = s.moment ∧
    (selfExpelled s).pins = s.pins ∧ (selfExpelled s).loader = s.loader ∧ (selfExpelled s).table = s.table ∧
    (selfExpelled s).share = s.share ∧ (selfExpelled s).supply = s.supply ∧ (selfExpelled s).zone = s.zone ∧
    (selfExpelled s).doors = s.doors ∧ (selfExpelled s).overrides = s.overrides :=
  by
  simp [selfExpelled]

/-! ## The end of an event -/

@[simp] theorem noteStatus_frame (before : State) (s : State) :
    (noteStatus before s).pending = s.pending ∧ (noteStatus before s).moment = s.moment ∧
    (noteStatus before s).pins = s.pins ∧ (noteStatus before s).loader = s.loader ∧
    (noteStatus before s).table = s.table ∧ (noteStatus before s).share = s.share ∧
    (noteStatus before s).supply = s.supply ∧ (noteStatus before s).zone = s.zone ∧
    (noteStatus before s).doors = s.doors ∧ (noteStatus before s).defrost = s.defrost ∧
    (noteStatus before s).overrides = s.overrides ∧ (noteStatus before s).member = s.member ∧
    (noteStatus before s).stats = s.stats :=
  by
  unfold noteStatus; (repeat' split) <;> simp

@[simp] theorem settle_frame (s : State) :
    (settle s).pending = s.pending ∧ (settle s).moment = s.moment ∧ (settle s).pins = s.pins ∧
    (settle s).loader = s.loader ∧ (settle s).table = s.table ∧ (settle s).supply = s.supply ∧
    (settle s).doors = s.doors ∧ (settle s).defrost = s.defrost ∧ (settle s).overrides = s.overrides ∧
    (settle s).member = s.member ∧ (settle s).stats = s.stats :=
  by
  simp [settle]

@[simp] theorem evaluate_frame (ev : Ev) (before : State) (s : State) :
    (evaluate ev before s).pending = s.pending ∧ (evaluate ev before s).moment = s.moment ∧
    (evaluate ev before s).pins = s.pins ∧ (evaluate ev before s).loader = s.loader ∧
    (evaluate ev before s).table = s.table ∧ (evaluate ev before s).supply = s.supply ∧
    (evaluate ev before s).doors = s.doors ∧ (evaluate ev before s).defrost = s.defrost ∧
    (evaluate ev before s).overrides = s.overrides ∧ (evaluate ev before s).member = s.member ∧
    (evaluate ev before s).stats = s.stats :=
  by
  unfold evaluate; (repeat' split) <;> simp

@[simp] theorem refreshFan_frame (before : State) (s : State) :
    (refreshFan before s).pending = s.pending ∧ (refreshFan before s).moment = s.moment ∧
    (refreshFan before s).pins = s.pins ∧ (refreshFan before s).loader = s.loader ∧
    (refreshFan before s).table = s.table ∧ (refreshFan before s).share = s.share ∧
    (refreshFan before s).supply = s.supply ∧ (refreshFan before s).doors = s.doors ∧
    (refreshFan before s).defrost = s.defrost ∧ (refreshFan before s).overrides = s.overrides ∧
    (refreshFan before s).member = s.member ∧ (refreshFan before s).bus = s.bus ∧
    (refreshFan before s).stats = s.stats :=
  by
  unfold refreshFan; (repeat' split) <;> simp

@[simp] theorem finishRunning_frame (ev : Ev) (before : State) (s : State) :
    (finishRunning ev before s).pending = s.pending ∧ (finishRunning ev before s).moment = s.moment ∧
    (finishRunning ev before s).pins = s.pins ∧ (finishRunning ev before s).loader = s.loader ∧
    (finishRunning ev before s).table = s.table ∧ (finishRunning ev before s).supply = s.supply ∧
    (finishRunning ev before s).doors = s.doors ∧ (finishRunning ev before s).overrides = s.overrides ∧
    (finishRunning ev before s).stats = s.stats :=
  by
  simp [finishRunning]

@[simp] theorem finish_frame (ev : Ev) (before : State) (s : State) :
    (finish ev before s).pending = s.pending ∧ (finish ev before s).moment = s.moment ∧
    (finish ev before s).pins = s.pins ∧ (finish ev before s).loader = s.loader ∧
    (finish ev before s).table = s.table ∧ (finish ev before s).supply = s.supply ∧
    (finish ev before s).doors = s.doors ∧ (finish ev before s).overrides = s.overrides ∧
    (finish ev before s).stats = s.stats :=
  by
  unfold finish; (repeat' split) <;> simp

/-! ## Bus interface -/

@[simp] theorem countFailure_frame (s : State) :
    (countFailure s).pending = s.pending ∧ (countFailure s).moment = s.moment ∧
    (countFailure s).pins = s.pins ∧ (countFailure s).loader = s.loader ∧ (countFailure s).table = s.table ∧
    (countFailure s).share = s.share ∧ (countFailure s).supply = s.supply ∧ (countFailure s).zone = s.zone ∧
    (countFailure s).doors = s.doors ∧ (countFailure s).defrost = s.defrost ∧
    (countFailure s).overrides = s.overrides ∧ (countFailure s).member = s.member ∧
    (countFailure s).stats = s.stats :=
  by
  unfold countFailure; dsimp only; (repeat' split) <;> simp

@[simp] theorem ownFrameEnds_frame (s : State) :
    (ownFrameEnds s).pending = s.pending ∧ (ownFrameEnds s).moment = s.moment ∧
    (ownFrameEnds s).pins = s.pins ∧ (ownFrameEnds s).loader = s.loader ∧ (ownFrameEnds s).table = s.table ∧
    (ownFrameEnds s).share = s.share ∧ (ownFrameEnds s).supply = s.supply ∧ (ownFrameEnds s).zone = s.zone ∧
    (ownFrameEnds s).doors = s.doors ∧ (ownFrameEnds s).defrost = s.defrost ∧
    (ownFrameEnds s).overrides = s.overrides ∧ (ownFrameEnds s).member = s.member :=
  ⟨rfl, rfl, rfl, rfl, rfl, rfl, rfl, rfl, rfl, rfl, rfl, rfl⟩

@[simp] theorem leaseRenewed_frame (seconds : Nat) (s : State) :
    (leaseRenewed seconds s).pending = s.pending ∧ (leaseRenewed seconds s).moment = s.moment ∧
    (leaseRenewed seconds s).pins = s.pins ∧ (leaseRenewed seconds s).loader = s.loader ∧
    (leaseRenewed seconds s).table = s.table ∧ (leaseRenewed seconds s).supply = s.supply ∧
    (leaseRenewed seconds s).zone = s.zone ∧ (leaseRenewed seconds s).doors = s.doors ∧
    (leaseRenewed seconds s).defrost = s.defrost ∧ (leaseRenewed seconds s).overrides = s.overrides ∧
    (leaseRenewed seconds s).stats = s.stats :=
  by
  simp [leaseRenewed]

@[simp] theorem leaseEnded_frame (s : State) :
    (leaseEnded s).pending = s.pending ∧ (leaseEnded s).moment = s.moment ∧ (leaseEnded s).pins = s.pins ∧
    (leaseEnded s).loader = s.loader ∧ (leaseEnded s).table = s.table ∧ (leaseEnded s).supply = s.supply ∧
    (leaseEnded s).zone = s.zone ∧ (leaseEnded s).doors = s.doors ∧ (leaseEnded s).defrost = s.defrost ∧
    (leaseEnded s).overrides = s.overrides ∧ (leaseEnded s).stats = s.stats :=
  by
  simp [leaseEnded]

@[simp] theorem expelSettled_frame (own : Option OwnFrame) (s : State) :
    (expelSettled own s).pending = s.pending ∧ (expelSettled own s).moment = s.moment ∧
    (expelSettled own s).pins = s.pins ∧ (expelSettled own s).loader = s.loader ∧
    (expelSettled own s).table = s.table ∧ (expelSettled own s).share = s.share ∧
    (expelSettled own s).supply = s.supply ∧ (expelSettled own s).zone = s.zone ∧
    (expelSettled own s).doors = s.doors ∧ (expelSettled own s).defrost = s.defrost ∧
    (expelSettled own s).overrides = s.overrides ∧ (expelSettled own s).bus = s.bus ∧
    (expelSettled own s).stats = s.stats :=
  by
  unfold expelSettled; (repeat' split) <;> simp

@[simp] theorem hearPanel_frame (address : Nat) (s : State) :
    (hearPanel address s).pending = s.pending ∧ (hearPanel address s).moment = s.moment ∧
    (hearPanel address s).pins = s.pins ∧ (hearPanel address s).loader = s.loader ∧
    (hearPanel address s).table = s.table ∧ (hearPanel address s).share = s.share ∧
    (hearPanel address s).supply = s.supply ∧ (hearPanel address s).zone = s.zone ∧
    (hearPanel address s).doors = s.doors ∧ (hearPanel address s).defrost = s.defrost ∧
    (hearPanel address s).member = s.member ∧ (hearPanel address s).bus = s.bus ∧
    (hearPanel address s).stats = s.stats :=
  by
  unfold hearPanel; (repeat' split) <;> simp

@[simp] theorem joinResponse_frame (own : Bool) (b : Bulletin) (s : State) :
    (joinResponse own b s).pending = s.pending ∧ (joinResponse own b s).moment = s.moment ∧
    (joinResponse own b s).pins = s.pins ∧ (joinResponse own b s).loader = s.loader ∧
    (joinResponse own b s).table = s.table ∧ (joinResponse own b s).share = s.share ∧
    (joinResponse own b s).supply = s.supply ∧ (joinResponse own b s).zone = s.zone ∧
    (joinResponse own b s).doors = s.doors ∧ (joinResponse own b s).overrides = s.overrides :=
  by
  unfold joinResponse; (repeat' split) <;> simp

@[simp] theorem clashResponse_frame (own : Bool) (address : Nat) (s : State) :
    (clashResponse own address s).pending = s.pending ∧ (clashResponse own address s).moment = s.moment ∧
    (clashResponse own address s).pins = s.pins ∧ (clashResponse own address s).loader = s.loader ∧
    (clashResponse own address s).table = s.table ∧ (clashResponse own address s).share = s.share ∧
    (clashResponse own address s).supply = s.supply ∧ (clashResponse own address s).zone = s.zone ∧
    (clashResponse own address s).doors = s.doors ∧ (clashResponse own address s).overrides = s.overrides :=
  by
  unfold clashResponse; (repeat' split) <;> simp

@[simp] theorem closeOwnFrame_frame (own : Option OwnFrame) (s : State) :
    (closeOwnFrame own s).pending = s.pending ∧ (closeOwnFrame own s).moment = s.moment ∧
    (closeOwnFrame own s).pins = s.pins ∧ (closeOwnFrame own s).loader = s.loader ∧
    (closeOwnFrame own s).table = s.table ∧ (closeOwnFrame own s).share = s.share ∧
    (closeOwnFrame own s).supply = s.supply ∧ (closeOwnFrame own s).zone = s.zone ∧
    (closeOwnFrame own s).doors = s.doors ∧ (closeOwnFrame own s).defrost = s.defrost ∧
    (closeOwnFrame own s).overrides = s.overrides ∧ (closeOwnFrame own s).member = s.member ∧
    (closeOwnFrame own s).stats = s.stats :=
  by
  unfold closeOwnFrame; (repeat' split) <;> simp

@[simp] theorem answerHeard_frame (heard : List Bool) (s : State) :
    (answerHeard heard s).pending = s.pending ∧ (answerHeard heard s).moment = s.moment ∧
    (answerHeard heard s).pins = s.pins ∧ (answerHeard heard s).loader = s.loader ∧
    (answerHeard heard s).table = s.table ∧ (answerHeard heard s).share = s.share ∧
    (answerHeard heard s).supply = s.supply ∧ (answerHeard heard s).zone = s.zone ∧
    (answerHeard heard s).doors = s.doors ∧ (answerHeard heard s).defrost = s.defrost ∧
    (answerHeard heard s).overrides = s.overrides ∧ (answerHeard heard s).member = s.member ∧
    (answerHeard heard s).stats = s.stats :=
  by
  unfold answerHeard; (repeat' split) <;> simp

@[simp] theorem startOffered_frame (s : State) :
    (startOffered s).pending = s.pending ∧ (startOffered s).moment = s.moment ∧
    (startOffered s).pins = s.pins ∧ (startOffered s).loader = s.loader ∧ (startOffered s).table = s.table ∧
    (startOffered s).share = s.share ∧ (startOffered s).supply = s.supply ∧ (startOffered s).zone = s.zone ∧
    (startOffered s).doors = s.doors ∧ (startOffered s).defrost = s.defrost ∧
    (startOffered s).overrides = s.overrides ∧ (startOffered s).member = s.member :=
  by
  unfold startOffered; (repeat' split) <;> simp

@[simp] theorem busBecomesIdle_frame (s : State) :
    (busBecomesIdle s).pending = s.pending ∧ (busBecomesIdle s).moment = s.moment ∧
    (busBecomesIdle s).pins = s.pins ∧ (busBecomesIdle s).loader = s.loader ∧
    (busBecomesIdle s).table = s.table ∧ (busBecomesIdle s).share = s.share ∧
    (busBecomesIdle s).supply = s.supply ∧ (busBecomesIdle s).zone = s.zone ∧
    (busBecomesIdle s).doors = s.doors ∧ (busBecomesIdle s).defrost = s.defrost ∧
    (busBecomesIdle s).overrides = s.overrides ∧ (busBecomesIdle s).member = s.member ∧
    (busBecomesIdle s).stats = s.stats :=
  by
  unfold busBecomesIdle; (repeat' split) <;> simp

@[simp] theorem idleWaitEnds_frame (s : State) :
    (idleWaitEnds s).pending = s.pending ∧ (idleWaitEnds s).moment = s.moment ∧
    (idleWaitEnds s).pins = s.pins ∧ (idleWaitEnds s).loader = s.loader ∧ (idleWaitEnds s).table = s.table ∧
    (idleWaitEnds s).share = s.share ∧ (idleWaitEnds s).supply = s.supply ∧ (idleWaitEnds s).zone = s.zone ∧
    (idleWaitEnds s).doors = s.doors ∧ (idleWaitEnds s).defrost = s.defrost ∧
    (idleWaitEnds s).overrides = s.overrides ∧ (idleWaitEnds s).member = s.member ∧
    (idleWaitEnds s).stats = s.stats :=
  by
  unfold idleWaitEnds; dsimp only; (repeat' split) <;> simp

@[simp] theorem muteEnds_frame (s : State) :
    (muteEnds s).pending = s.pending ∧ (muteEnds s).moment = s.moment ∧ (muteEnds s).pins = s.pins ∧
    (muteEnds s).loader = s.loader ∧ (muteEnds s).table = s.table ∧ (muteEnds s).share = s.share ∧
    (muteEnds s).supply = s.supply ∧ (muteEnds s).zone = s.zone ∧ (muteEnds s).doors = s.doors ∧
    (muteEnds s).defrost = s.defrost ∧ (muteEnds s).overrides = s.overrides ∧ (muteEnds s).member = s.member ∧
    (muteEnds s).stats = s.stats :=
  by
  unfold muteEnds; (repeat' split) <;> simp

@[simp] theorem catchUpResponse_frame (before : MemberState) (s : State) :
    (catchUpResponse before s).pending = s.pending ∧ (catchUpResponse before s).moment = s.moment ∧
    (catchUpResponse before s).pins = s.pins ∧ (catchUpResponse before s).loader = s.loader ∧
    (catchUpResponse before s).table = s.table ∧ (catchUpResponse before s).share = s.share ∧
    (catchUpResponse before s).supply = s.supply ∧ (catchUpResponse before s).zone = s.zone ∧
    (catchUpResponse before s).doors = s.doors ∧ (catchUpResponse before s).overrides = s.overrides :=
  by
  unfold catchUpResponse; (repeat' split) <;> simp

@[simp] theorem addressed_frame (own : Option OwnFrame) (address : Nat) (s : State) :
    (addressed own address s).pending = s.pending ∧ (addressed own address s).moment = s.moment ∧
    (addressed own address s).pins = s.pins ∧ (addressed own address s).loader = s.loader ∧
    (addressed own address s).table = s.table ∧ (addressed own address s).share = s.share ∧
    (addressed own address s).supply = s.supply ∧ (addressed own address s).zone = s.zone ∧
    (addressed own address s).doors = s.doors ∧ (addressed own address s).defrost = s.defrost ∧
    (addressed own address s).overrides = s.overrides ∧ (addressed own address s).stats = s.stats :=
  by
  simp [addressed]

@[simp] theorem ownFrameFails_frame (drive : Drive) (s : State) :
    (ownFrameFails drive s).pending = s.pending ∧ (ownFrameFails drive s).moment = s.moment ∧
    (ownFrameFails drive s).pins = s.pins ∧ (ownFrameFails drive s).loader = s.loader ∧
    (ownFrameFails drive s).table = s.table ∧ (ownFrameFails drive s).share = s.share ∧
    (ownFrameFails drive s).supply = s.supply ∧ (ownFrameFails drive s).zone = s.zone ∧
    (ownFrameFails drive s).doors = s.doors ∧ (ownFrameFails drive s).defrost = s.defrost ∧
    (ownFrameFails drive s).overrides = s.overrides :=
  by
  simp [ownFrameFails]

@[simp] theorem frameLost_frame (s : State) :
    (frameLost s).pending = s.pending ∧ (frameLost s).moment = s.moment ∧ (frameLost s).pins = s.pins ∧
    (frameLost s).loader = s.loader ∧ (frameLost s).table = s.table ∧ (frameLost s).share = s.share ∧
    (frameLost s).supply = s.supply ∧ (frameLost s).zone = s.zone ∧ (frameLost s).doors = s.doors ∧
    (frameLost s).defrost = s.defrost ∧ (frameLost s).overrides = s.overrides :=
  by
  unfold frameLost; (repeat' split) <;> simp

/-- Whatever a sender reads back, only bus state, membership unit and statistics change. -/
@[simp] theorem ownFrameReadBack_frame (heard : List Bool) (s : State) :
    (ownFrameReadBack heard s).pending = s.pending ∧ (ownFrameReadBack heard s).moment = s.moment ∧
    (ownFrameReadBack heard s).pins = s.pins ∧ (ownFrameReadBack heard s).loader = s.loader ∧
    (ownFrameReadBack heard s).table = s.table ∧ (ownFrameReadBack heard s).share = s.share ∧
    (ownFrameReadBack heard s).supply = s.supply ∧ (ownFrameReadBack heard s).zone = s.zone ∧
    (ownFrameReadBack heard s).doors = s.doors ∧ (ownFrameReadBack heard s).defrost = s.defrost ∧
    (ownFrameReadBack heard s).overrides = s.overrides :=
  by
  unfold ownFrameReadBack; (repeat' split) <;> simp

end Sys2Proof.Machine
end

