-- ==== Sys2Proof/Laws/Parts.lean ====
section
/-! SUPPORT. Which parts of the bus interface, the share unit, the zone controller and the membership unit the operations leave
alone. -/

namespace Sys2Proof.Machine

/-! ## The bus interface, but for its queue and its renewals -/

@[simp] theorem queueKind_bus (kind : TxKind) (s : State) :
    (queueKind kind s).bus.standing = s.bus.standing ∧ (queueKind kind s).bus.failures = s.bus.failures ∧
    (queueKind kind s).bus.mute = s.bus.mute ∧ (queueKind kind s).bus.idle = s.bus.idle ∧
    (queueKind kind s).bus.idleWait = s.bus.idleWait ∧ (queueKind kind s).bus.drive = s.bus.drive :=
  by
  unfold queueKind; (repeat' split) <;> simp

@[simp] theorem withdrawKind_bus (kind : TxKind) (s : State) :
    (withdrawKind kind s).bus.standing = s.bus.standing ∧ (withdrawKind kind s).bus.failures = s.bus.failures ∧
    (withdrawKind kind s).bus.mute = s.bus.mute ∧ (withdrawKind kind s).bus.idle = s.bus.idle ∧
    (withdrawKind kind s).bus.idleWait = s.bus.idleWait ∧ (withdrawKind kind s).bus.drive = s.bus.drive :=
  by
  unfold withdrawKind; (repeat' split) <;> simp

@[simp] theorem setAside_bus (units : Nat) (s : State) :
    (setAside units s).bus.standing = s.bus.standing ∧ (setAside units s).bus.failures = s.bus.failures ∧
    (setAside units s).bus.mute = s.bus.mute ∧ (setAside units s).bus.idle = s.bus.idle ∧
    (setAside units s).bus.idleWait = s.bus.idleWait ∧ (setAside units s).bus.drive = s.bus.drive :=
  by
  unfold setAside; (repeat' split) <;> simp

@[simp] theorem applyBounds_bus (s : State) :
    (applyBounds s).bus.standing = s.bus.standing ∧ (applyBounds s).bus.failures = s.bus.failures ∧
    (applyBounds s).bus.mute = s.bus.mute ∧ (applyBounds s).bus.idle = s.bus.idle ∧
    (applyBounds s).bus.idleWait = s.bus.idleWait ∧ (applyBounds s).bus.drive = s.bus.drive :=
  by
  simp [applyBounds]

@[simp] theorem adjustAside_bus (before s : State) :
    (adjustAside before s).bus.standing = s.bus.standing ∧ (adjustAside before s).bus.failures = s.bus.failures ∧
    (adjustAside before s).bus.mute = s.bus.mute ∧ (adjustAside before s).bus.idle = s.bus.idle ∧
    (adjustAside before s).bus.idleWait = s.bus.idleWait ∧ (adjustAside before s).bus.drive = s.bus.drive :=
  by
  unfold adjustAside; (repeat' split) <;> simp

@[simp] theorem claimDecision_bus (s : State) :
    (claimDecision s).bus.standing = s.bus.standing ∧ (claimDecision s).bus.failures = s.bus.failures ∧
    (claimDecision s).bus.mute = s.bus.mute ∧ (claimDecision s).bus.idle = s.bus.idle ∧
    (claimDecision s).bus.idleWait = s.bus.idleWait ∧ (claimDecision s).bus.drive = s.bus.drive :=
  by
  unfold claimDecision; (repeat' split) <;> simp

@[simp] theorem queueReturn_bus (s : State) :
    (queueReturn s).bus.standing = s.bus.standing ∧ (queueReturn s).bus.failures = s.bus.failures ∧
    (queueReturn s).bus.mute = s.bus.mute ∧ (queueReturn s).bus.idle = s.bus.idle ∧
    (queueReturn s).bus.idleWait = s.bus.idleWait ∧ (queueReturn s).bus.drive = s.bus.drive :=
  by
  unfold queueReturn; (repeat' split) <;> simp

@[simp] theorem triggerReturn_bus (ev : Ev) (before : State) (s : State) :
    (triggerReturn ev before s).bus.standing = s.bus.standing ∧
    (triggerReturn ev before s).bus.failures = s.bus.failures ∧
    (triggerReturn ev before s).bus.mute = s.bus.mute ∧ (triggerReturn ev before s).bus.idle = s.bus.idle ∧
    (triggerReturn ev before s).bus.idleWait = s.bus.idleWait ∧
    (triggerReturn ev before s).bus.drive = s.bus.drive :=
  by
  unfold triggerReturn; (repeat' split) <;> simp

@[simp] theorem shareEvaluation_bus (ev : Ev) (before : State) (s : State) :
    (shareEvaluation ev before s).bus.standing = s.bus.standing ∧
    (shareEvaluation ev before s).bus.failures = s.bus.failures ∧
    (shareEvaluation ev before s).bus.mute = s.bus.mute ∧ (shareEvaluation ev before s).bus.idle = s.bus.idle ∧
    (shareEvaluation ev before s).bus.idleWait = s.bus.idleWait ∧
    (shareEvaluation ev before s).bus.drive = s.bus.drive :=
  by
  simp [shareEvaluation]

@[simp] theorem settleReturn_bus (units : Nat) (s : State) :
    (settleReturn units s).bus.standing = s.bus.standing ∧
    (settleReturn units s).bus.failures = s.bus.failures ∧ (settleReturn units s).bus.mute = s.bus.mute ∧
    (settleReturn units s).bus.idle = s.bus.idle ∧ (settleReturn units s).bus.idleWait = s.bus.idleWait ∧
    (settleReturn units s).bus.drive = s.bus.drive :=
  by
  simp [settleReturn]

@[simp] theorem regulate_bus (ev : Ev) (before : State) (s : State) :
    (regulate ev before s).bus.standing = s.bus.standing ∧
    (regulate ev before s).bus.failures = s.bus.failures ∧ (regulate ev before s).bus.mute = s.bus.mute ∧
    (regulate ev before s).bus.idle = s.bus.idle ∧ (regulate ev before s).bus.idleWait = s.bus.idleWait ∧
    (regulate ev before s).bus.drive = s.bus.drive :=
  by
  simp [regulate]

@[simp] theorem zoneEvaluation_bus (ev : Ev) (before : State) (s : State) :
    (zoneEvaluation ev before s).bus.standing = s.bus.standing ∧
    (zoneEvaluation ev before s).bus.failures = s.bus.failures ∧
    (zoneEvaluation ev before s).bus.mute = s.bus.mute ∧ (zoneEvaluation ev before s).bus.idle = s.bus.idle ∧
    (zoneEvaluation ev before s).bus.idleWait = s.bus.idleWait ∧
    (zoneEvaluation ev before s).bus.drive = s.bus.drive :=
  by
  simp [zoneEvaluation]

@[simp] theorem stateActivity_bus (s : State) :
    (stateActivity s).bus.standing = s.bus.standing ∧ (stateActivity s).bus.failures = s.bus.failures ∧
    (stateActivity s).bus.mute = s.bus.mute ∧ (stateActivity s).bus.idle = s.bus.idle ∧
    (stateActivity s).bus.idleWait = s.bus.idleWait ∧ (stateActivity s).bus.drive = s.bus.drive :=
  by
  unfold stateActivity; (repeat' split) <;> simp

@[simp] theorem setOneShot_bus (o : OneShot) (tail : Timer) (s : State) :
    (setOneShot o tail s).bus.standing = s.bus.standing ∧ (setOneShot o tail s).bus.failures = s.bus.failures ∧
    (setOneShot o tail s).bus.mute = s.bus.mute ∧ (setOneShot o tail s).bus.idle = s.bus.idle ∧
    (setOneShot o tail s).bus.idleWait = s.bus.idleWait ∧ (setOneShot o tail s).bus.drive = s.bus.drive :=
  by
  unfold setOneShot; dsimp only; (repeat' split) <;> simp

@[simp] theorem openingEdge_bus (s : State) :
    (openingEdge s).bus.standing = s.bus.standing ∧ (openingEdge s).bus.failures = s.bus.failures ∧
    (openingEdge s).bus.mute = s.bus.mute ∧ (openingEdge s).bus.idle = s.bus.idle ∧
    (openingEdge s).bus.idleWait = s.bus.idleWait ∧ (openingEdge s).bus.drive = s.bus.drive :=
  by
  unfold openingEdge; (repeat' split) <;> simp

@[simp] theorem checkLayover_bus (s : State) :
    (checkLayover s).bus.standing = s.bus.standing ∧ (checkLayover s).bus.failures = s.bus.failures ∧
    (checkLayover s).bus.mute = s.bus.mute ∧ (checkLayover s).bus.idle = s.bus.idle ∧
    (checkLayover s).bus.idleWait = s.bus.idleWait ∧ (checkLayover s).bus.drive = s.bus.drive :=
  by
  unfold checkLayover; (repeat' split) <;> simp

@[simp] theorem closingEdge_bus (s : State) :
    (closingEdge s).bus.standing = s.bus.standing ∧ (closingEdge s).bus.failures = s.bus.failures ∧
    (closingEdge s).bus.mute = s.bus.mute ∧ (closingEdge s).bus.idle = s.bus.idle ∧
    (closingEdge s).bus.idleWait = s.bus.idleWait ∧ (closingEdge s).bus.drive = s.bus.drive :=
  by
  unfold closingEdge; (repeat' split) <;> simp

@[simp] theorem doorTakesLevel_bus (door : Fin 2) (level : DoorLevel) (s : State) :
    (doorTakesLevel door level s).bus.standing = s.bus.standing ∧
    (doorTakesLevel door level s).bus.failures = s.bus.failures ∧
    (doorTakesLevel door level s).bus.mute = s.bus.mute ∧ (doorTakesLevel door level s).bus.idle = s.bus.idle ∧
    (doorTakesLevel door level s).bus.idleWait = s.bus.idleWait ∧
    (doorTakesLevel door level s).bus.drive = s.bus.drive :=
  by
  unfold doorTakesLevel; dsimp only; (repeat' split) <;> simp

@[simp] theorem forgetStated_bus (s : State) :
    (forgetStated s).bus.standing = s.bus.standing ∧ (forgetStated s).bus.failures = s.bus.failures ∧
    (forgetStated s).bus.mute = s.bus.mute ∧ (forgetStated s).bus.idle = s.bus.idle ∧
    (forgetStated s).bus.idleWait = s.bus.idleWait ∧ (forgetStated s).bus.drive = s.bus.drive :=
  by
  unfold forgetStated; dsimp only; (repeat' split) <;> simp

@[simp] theorem handSlotsOn_bus (o : Overrides) (s : State) :
    (handSlotsOn o s).bus.standing = s.bus.standing ∧ (handSlotsOn o s).bus.failures = s.bus.failures ∧
    (handSlotsOn o s).bus.mute = s.bus.mute ∧ (handSlotsOn o s).bus.idle = s.bus.idle ∧
    (handSlotsOn o s).bus.idleWait = s.bus.idleWait ∧ (handSlotsOn o s).bus.drive = s.bus.drive :=
  by
  unfold handSlotsOn; dsimp only; (repeat' split) <;> simp

@[simp] theorem leaveInStep_bus (s : State) :
    (leaveInStep s).bus.standing = s.bus.standing ∧ (leaveInStep s).bus.failures = s.bus.failures ∧
    (leaveInStep s).bus.mute = s.bus.mute ∧ (leaveInStep s).bus.idle = s.bus.idle ∧
    (leaveInStep s).bus.idleWait = s.bus.idleWait ∧ (leaveInStep s).bus.drive = s.bus.drive :=
  by
  simp [leaveInStep]

@[simp] theorem dropReport_bus (s : State) :
    (dropReport s).bus.standing = s.bus.standing ∧ (dropReport s).bus.failures = s.bus.failures ∧
    (dropReport s).bus.mute = s.bus.mute ∧ (dropReport s).bus.idle = s.bus.idle ∧
    (dropReport s).bus.idleWait = s.bus.idleWait ∧ (dropReport s).bus.drive = s.bus.drive :=
  by
  simp [dropReport]

@[simp] theorem stopStatus_bus (s : State) :
    (stopStatus s).bus.standing = s.bus.standing ∧ (stopStatus s).bus.failures = s.bus.failures ∧
    (stopStatus s).bus.mute = s.bus.mute ∧ (stopStatus s).bus.idle = s.bus.idle ∧
    (stopStatus s).bus.idleWait = s.bus.idleWait ∧ (stopStatus s).bus.drive = s.bus.drive :=
  by
  simp [stopStatus]

@[simp] theorem startStatus_bus (s : State) :
    (startStatus s).bus.standing = s.bus.standing ∧ (startStatus s).bus.failures = s.bus.failures ∧
    (startStatus s).bus.mute = s.bus.mute ∧ (startStatus s).bus.idle = s.bus.idle ∧
    (startStatus s).bus.idleWait = s.bus.idleWait ∧ (startStatus s).bus.drive = s.bus.drive :=
  by
  simp [startStatus]

@[simp] theorem enterInStep_bus (s : State) :
    (enterInStep s).bus.standing = s.bus.standing ∧ (enterInStep s).bus.failures = s.bus.failures ∧
    (enterInStep s).bus.mute = s.bus.mute ∧ (enterInStep s).bus.idle = s.bus.idle ∧
    (enterInStep s).bus.idleWait = s.bus.idleWait ∧ (enterInStep s).bus.drive = s.bus.drive :=
  by
  unfold enterInStep; (repeat' split) <;> simp

@[simp] theorem takeQuery_bus (target : Byte) (item : Byte) (flags : Byte) (s : State) :
    (takeQuery target item flags s).bus.standing = s.bus.standing ∧
    (takeQuery target item flags s).bus.failures = s.bus.failures ∧
    (takeQuery target item flags s).bus.mute = s.bus.mute ∧
    (takeQuery target item flags s).bus.idle = s.bus.idle ∧
    (takeQuery target item flags s).bus.idleWait = s.bus.idleWait ∧
    (takeQuery target item flags s).bus.drive = s.bus.drive :=
  by
  unfold takeQuery; (repeat' split) <;> simp

@[simp] theorem reportCompleted_bus (s : State) :
    (reportCompleted s).bus.standing = s.bus.standing ∧ (reportCompleted s).bus.failures = s.bus.failures ∧
    (reportCompleted s).bus.mute = s.bus.mute ∧ (reportCompleted s).bus.idle = s.bus.idle ∧
    (reportCompleted s).bus.idleWait = s.bus.idleWait ∧ (reportCompleted s).bus.drive = s.bus.drive :=
  by
  unfold reportCompleted; (repeat' split) <;> simp

@[simp] theorem dropSettledExpulsion_bus (s : State) :
    (dropSettledExpulsion s).bus.standing = s.bus.standing ∧
    (dropSettledExpulsion s).bus.failures = s.bus.failures ∧ (dropSettledExpulsion s).bus.mute = s.bus.mute ∧
    (dropSettledExpulsion s).bus.idle = s.bus.idle ∧ (dropSettledExpulsion s).bus.idleWait = s.bus.idleWait ∧
    (dropSettledExpulsion s).bus.drive = s.bus.drive :=
  by
  unfold dropSettledExpulsion; (repeat' split) <;> simp

@[simp] theorem proposeExpulsion_bus (s : State) :
    (proposeExpulsion s).bus.standing = s.bus.standing ∧ (proposeExpulsion s).bus.failures = s.bus.failures ∧
    (proposeExpulsion s).bus.mute = s.bus.mute ∧ (proposeExpulsion s).bus.idle = s.bus.idle ∧
    (proposeExpulsion s).bus.idleWait = s.bus.idleWait ∧ (proposeExpulsion s).bus.drive = s.bus.drive :=
  by
  unfold proposeExpulsion; (repeat' split) <;> simp

@[simp] theorem checkExpulsion_bus (s : State) :
    (checkExpulsion s).bus.standing = s.bus.standing ∧ (checkExpulsion s).bus.failures = s.bus.failures ∧
    (checkExpulsion s).bus.mute = s.bus.mute ∧ (checkExpulsion s).bus.idle = s.bus.idle ∧
    (checkExpulsion s).bus.idleWait = s.bus.idleWait ∧ (checkExpulsion s).bus.drive = s.bus.drive :=
  by
  simp [checkExpulsion]

@[simp] theorem noteStatus_bus (before : State) (s : State) :
    (noteStatus before s).bus.standing = s.bus.standing ∧ (noteStatus before s).bus.failures = s.bus.failures ∧
    (noteStatus before s).bus.mute = s.bus.mute ∧ (noteStatus before s).bus.idle = s.bus.idle ∧
    (noteStatus before s).bus.idleWait = s.bus.idleWait ∧ (noteStatus before s).bus.drive = s.bus.drive :=
  by
  unfold noteStatus; (repeat' split) <;> simp

@[simp] theorem settle_bus (s : State) :
    (settle s).bus.standing = s.bus.standing ∧ (settle s).bus.failures = s.bus.failures ∧
    (settle s).bus.mute = s.bus.mute ∧ (settle s).bus.idle = s.bus.idle ∧
    (settle s).bus.idleWait = s.bus.idleWait ∧ (settle s).bus.drive = s.bus.drive :=
  by
  simp [settle]

@[simp] theorem evaluate_bus (ev : Ev) (before : State) (s : State) :
    (evaluate ev before s).bus.standing = s.bus.standing ∧
    (evaluate ev before s).bus.failures = s.bus.failures ∧ (evaluate ev before s).bus.mute = s.bus.mute ∧
    (evaluate ev before s).bus.idle = s.bus.idle ∧ (evaluate ev before s).bus.idleWait = s.bus.idleWait ∧
    (evaluate ev before s).bus.drive = s.bus.drive :=
  by
  unfold evaluate; (repeat' split) <;> simp

@[simp] theorem finishRunning_bus (ev : Ev) (before : State) (s : State) :
    (finishRunning ev before s).bus.standing = s.bus.standing ∧
    (finishRunning ev before s).bus.failures = s.bus.failures ∧
    (finishRunning ev before s).bus.mute = s.bus.mute ∧ (finishRunning ev before s).bus.idle = s.bus.idle ∧
    (finishRunning ev before s).bus.idleWait = s.bus.idleWait ∧
    (finishRunning ev before s).bus.drive = s.bus.drive :=
  by
  simp [finishRunning]

@[simp] theorem finish_bus (ev : Ev) (before : State) (s : State) :
    (finish ev before s).bus.standing = s.bus.standing ∧ (finish ev before s).bus.failures = s.bus.failures ∧
    (finish ev before s).bus.mute = s.bus.mute ∧ (finish ev before s).bus.idle = s.bus.idle ∧
    (finish ev before s).bus.idleWait = s.bus.idleWait ∧ (finish ev before s).bus.drive = s.bus.drive :=
  by
  unfold finish; (repeat' split) <;> simp

@[simp] theorem leaseRenewed_bus (seconds : Nat) (s : State) :
    (leaseRenewed seconds s).bus.standing = s.bus.standing ∧
    (leaseRenewed seconds s).bus.failures = s.bus.failures ∧ (leaseRenewed seconds s).bus.mute = s.bus.mute ∧
    (leaseRenewed seconds s).bus.idle = s.bus.idle ∧ (leaseRenewed seconds s).bus.idleWait = s.bus.idleWait ∧
    (leaseRenewed seconds s).bus.drive = s.bus.drive :=
  by
  simp [leaseRenewed]

@[simp] theorem leaseEnded_bus (s : State) :
    (leaseEnded s).bus.standing = s.bus.standing ∧ (leaseEnded s).bus.failures = s.bus.failures ∧
    (leaseEnded s).bus.mute = s.bus.mute ∧ (leaseEnded s).bus.idle = s.bus.idle ∧
    (leaseEnded s).bus.idleWait = s.bus.idleWait ∧ (leaseEnded s).bus.drive = s.bus.drive :=
  by
  simp [leaseEnded]

/-! ## The lease and the claim spacing timer -/

@[simp] theorem setAside_lease (units : Nat) (s : State) :
    (setAside units s).share.leaseExpired = s.share.leaseExpired ∧
    (setAside units s).share.leaseTimer = s.share.leaseTimer ∧
    (setAside units s).share.spacingTimer = s.share.spacingTimer :=
  by
  unfold setAside; (repeat' split) <;> simp

@[simp] theorem setCommit_lease (units : Nat) (s : State) :
    (setCommit units s).share.leaseExpired = s.share.leaseExpired ∧
    (setCommit units s).share.leaseTimer = s.share.leaseTimer ∧
    (setCommit units s).share.spacingTimer = s.share.spacingTimer :=
  by
  simp [setCommit]

@[simp] theorem setWish_lease (s : State) :
    (setWish s).share.leaseExpired = s.share.leaseExpired ∧ (setWish s).share.leaseTimer = s.share.leaseTimer ∧
    (setWish s).share.spacingTimer = s.share.spacingTimer :=
  by
  simp [setWish]

@[simp] theorem applyBounds_lease (s : State) :
    (applyBounds s).share.leaseExpired = s.share.leaseExpired ∧
    (applyBounds s).share.leaseTimer = s.share.leaseTimer ∧
    (applyBounds s).share.spacingTimer = s.share.spacingTimer :=
  by
  simp [applyBounds]

@[simp] theorem adjustAside_lease (before s : State) :
    (adjustAside before s).share.leaseExpired = s.share.leaseExpired ∧
    (adjustAside before s).share.leaseTimer = s.share.leaseTimer ∧
    (adjustAside before s).share.spacingTimer = s.share.spacingTimer :=
  by
  unfold adjustAside; (repeat' split) <;> simp

@[simp] theorem shareEvaluation_lease (ev : Ev) (before : State) (s : State) :
    (shareEvaluation ev before s).share.leaseExpired = s.share.leaseExpired ∧
    (shareEvaluation ev before s).share.leaseTimer = s.share.leaseTimer ∧
    (shareEvaluation ev before s).share.spacingTimer = s.share.spacingTimer :=
  by
  simp [shareEvaluation]

@[simp] theorem settleReturn_lease (units : Nat) (s : State) :
    (settleReturn units s).share.leaseExpired = s.share.leaseExpired ∧
    (settleReturn units s).share.leaseTimer = s.share.leaseTimer ∧
    (settleReturn units s).share.spacingTimer = s.share.spacingTimer :=
  by
  simp [settleReturn]

@[simp] theorem regulate_lease (ev : Ev) (before : State) (s : State) :
    (regulate ev before s).share.leaseExpired = s.share.leaseExpired ∧
    (regulate ev before s).share.leaseTimer = s.share.leaseTimer ∧
    (regulate ev before s).share.spacingTimer = s.share.spacingTimer :=
  by
  simp [regulate]

@[simp] theorem zoneEvaluation_lease (ev : Ev) (before : State) (s : State) :
    (zoneEvaluation ev before s).share.leaseExpired = s.share.leaseExpired ∧
    (zoneEvaluation ev before s).share.leaseTimer = s.share.leaseTimer ∧
    (zoneEvaluation ev before s).share.spacingTimer = s.share.spacingTimer :=
  by
  simp [zoneEvaluation]

@[simp] theorem settle_lease (s : State) :
    (settle s).share.leaseExpired = s.share.leaseExpired ∧ (settle s).share.leaseTimer = s.share.leaseTimer ∧
    (settle s).share.spacingTimer = s.share.spacingTimer :=
  by
  simp [settle]

@[simp] theorem evaluate_lease (ev : Ev) (before : State) (s : State) :
    (evaluate ev before s).share.leaseExpired = s.share.leaseExpired ∧
    (evaluate ev before s).share.leaseTimer = s.share.leaseTimer ∧
    (evaluate ev before s).share.spacingTimer = s.share.spacingTimer :=
  by
  unfold evaluate; (repeat' split) <;> simp

@[simp] theorem finishRunning_lease (ev : Ev) (before : State) (s : State) :
    (finishRunning ev before s).share.leaseExpired = s.share.leaseExpired ∧
    (finishRunning ev before s).share.leaseTimer = s.share.leaseTimer ∧
    (finishRunning ev before s).share.spacingTimer = s.share.spacingTimer :=
  by
  simp [finishRunning]

@[simp] theorem finish_lease (ev : Ev) (before : State) (s : State) :
    (finish ev before s).share.leaseExpired = s.share.leaseExpired ∧
    (finish ev before s).share.leaseTimer = s.share.leaseTimer ∧
    (finish ev before s).share.spacingTimer = s.share.spacingTimer :=
  by
  unfold finish; (repeat' split) <;> simp

/-! ## The effective setpoint and the evaluation period -/

@[simp] theorem setStages_setpoint (stages : List Stage) (s : State) :
    (setStages stages s).zone.setpoint = s.zone.setpoint ∧ (setStages stages s).zone.period = s.zone.period :=
  by
  simp [setStages]

@[simp] theorem cutStages_setpoint (s : State) :
    (cutStages s).zone.setpoint = s.zone.setpoint ∧ (cutStages s).zone.period = s.zone.period :=
  by
  unfold cutStages; (repeat' split) <;> simp

@[simp] theorem switchStages_setpoint (s : State) :
    (switchStages s).zone.setpoint = s.zone.setpoint ∧ (switchStages s).zone.period = s.zone.period :=
  by
  simp [switchStages]

@[simp] theorem setFan_setpoint (s : State) :
    (setFan s).zone.setpoint = s.zone.setpoint ∧ (setFan s).zone.period = s.zone.period :=
  by
  simp [setFan]

@[simp] theorem readSensors_setpoint (periodic : Bool) (s : State) :
    (readSensors periodic s).zone.setpoint = s.zone.setpoint ∧
    (readSensors periodic s).zone.period = s.zone.period :=
  by
  simp [readSensors]

@[simp] theorem decideMode_setpoint (s : State) :
    (decideMode s).zone.setpoint = s.zone.setpoint ∧ (decideMode s).zone.period = s.zone.period :=
  by
  simp [decideMode]

@[simp] theorem clearPending_setpoint (periodic : Bool) (s : State) :
    (clearPending periodic s).zone.setpoint = s.zone.setpoint ∧
    (clearPending periodic s).zone.period = s.zone.period :=
  by
  simp [clearPending]

@[simp] theorem decideDemand_setpoint (s : State) :
    (decideDemand s).zone.setpoint = s.zone.setpoint ∧ (decideDemand s).zone.period = s.zone.period :=
  by
  simp [decideDemand]

@[simp] theorem measure_setpoint (periodic : Bool) (s : State) :
    (measure periodic s).zone.setpoint = s.zone.setpoint ∧ (measure periodic s).zone.period = s.zone.period :=
  by
  simp [measure]

@[simp] theorem regulate_setpoint (ev : Ev) (before : State) (s : State) :
    (regulate ev before s).zone.setpoint = s.zone.setpoint ∧ (regulate ev before s).zone.period = s.zone.period :=
  by
  simp [regulate]

@[simp] theorem zoneEvaluation_setpoint (ev : Ev) (before : State) (s : State) :
    (zoneEvaluation ev before s).zone.setpoint = s.zone.setpoint ∧
    (zoneEvaluation ev before s).zone.period = s.zone.period :=
  by
  simp [zoneEvaluation]

@[simp] theorem settle_setpoint (s : State) :
    (settle s).zone.setpoint = s.zone.setpoint ∧ (settle s).zone.period = s.zone.period :=
  by
  simp [settle]

@[simp] theorem evaluate_setpoint (ev : Ev) (before : State) (s : State) :
    (evaluate ev before s).zone.setpoint = s.zone.setpoint ∧ (evaluate ev before s).zone.period = s.zone.period :=
  by
  unfold evaluate; (repeat' split) <;> simp

@[simp] theorem refreshFan_setpoint (before : State) (s : State) :
    (refreshFan before s).zone.setpoint = s.zone.setpoint ∧ (refreshFan before s).zone.period = s.zone.period :=
  by
  unfold refreshFan; (repeat' split) <;> simp

@[simp] theorem finishRunning_setpoint (ev : Ev) (before : State) (s : State) :
    (finishRunning ev before s).zone.setpoint = s.zone.setpoint ∧
    (finishRunning ev before s).zone.period = s.zone.period :=
  by
  simp [finishRunning]

@[simp] theorem finish_setpoint (ev : Ev) (before : State) (s : State) :
    (finish ev before s).zone.setpoint = s.zone.setpoint ∧ (finish ev before s).zone.period = s.zone.period :=
  by
  unfold finish; (repeat' split) <;> simp

/-! ## The membership unit, but for the pending expulsion -/

@[simp] theorem dropSettledExpulsion_member (s : State) :
    (dropSettledExpulsion s).member.state = s.member.state ∧
    (dropSettledExpulsion s).member.census = s.member.census ∧
    (dropSettledExpulsion s).member.catchUp = s.member.catchUp ∧
    (dropSettledExpulsion s).member.statusPeriod = s.member.statusPeriod ∧
    (dropSettledExpulsion s).member.heard = s.member.heard ∧
    (dropSettledExpulsion s).member.leaseNews = s.member.leaseNews ∧
    (dropSettledExpulsion s).member.ages = s.member.ages :=
  by
  unfold dropSettledExpulsion; (repeat' split) <;> simp

@[simp] theorem proposeExpulsion_member (s : State) :
    (proposeExpulsion s).member.state = s.member.state ∧ (proposeExpulsion s).member.census = s.member.census ∧
    (proposeExpulsion s).member.catchUp = s.member.catchUp ∧
    (proposeExpulsion s).member.statusPeriod = s.member.statusPeriod ∧
    (proposeExpulsion s).member.heard = s.member.heard ∧
    (proposeExpulsion s).member.leaseNews = s.member.leaseNews ∧
    (proposeExpulsion s).member.ages = s.member.ages :=
  by
  unfold proposeExpulsion; (repeat' split) <;> simp

@[simp] theorem checkExpulsion_member (s : State) :
    (checkExpulsion s).member.state = s.member.state ∧ (checkExpulsion s).member.census = s.member.census ∧
    (checkExpulsion s).member.catchUp = s.member.catchUp ∧
    (checkExpulsion s).member.statusPeriod = s.member.statusPeriod ∧
    (checkExpulsion s).member.heard = s.member.heard ∧
    (checkExpulsion s).member.leaseNews = s.member.leaseNews ∧ (checkExpulsion s).member.ages = s.member.ages :=
  by
  simp [checkExpulsion]

@[simp] theorem finishRunning_member (ev : Ev) (before : State) (s : State) :
    (finishRunning ev before s).member.state = s.member.state ∧
    (finishRunning ev before s).member.census = s.member.census ∧
    (finishRunning ev before s).member.catchUp = s.member.catchUp ∧
    (finishRunning ev before s).member.statusPeriod = s.member.statusPeriod ∧
    (finishRunning ev before s).member.heard = s.member.heard ∧
    (finishRunning ev before s).member.leaseNews = s.member.leaseNews ∧
    (finishRunning ev before s).member.ages = s.member.ages :=
  by
  simp [finishRunning]

@[simp] theorem finish_member (ev : Ev) (before : State) (s : State) :
    (finish ev before s).member.state = s.member.state ∧ (finish ev before s).member.census = s.member.census ∧
    (finish ev before s).member.catchUp = s.member.catchUp ∧
    (finish ev before s).member.statusPeriod = s.member.statusPeriod ∧
    (finish ev before s).member.heard = s.member.heard ∧
    (finish ev before s).member.leaseNews = s.member.leaseNews ∧
    (finish ev before s).member.ages = s.member.ages :=
  by
  unfold finish; (repeat' split) <;> simp

/-! ## The defrost unit, but for its state and phase timer -/

@[simp] theorem setDefrost_defrost (state : DefrostState) (phase : Timer) (s : State) :
    (setDefrost state phase s).defrost.pausedKept = s.defrost.pausedKept ∧
    (setDefrost state phase s).defrost.fog = s.defrost.fog ∧
    (setDefrost state phase s).defrost.fogDebounce = s.defrost.fogDebounce ∧
    (setDefrost state phase s).defrost.screen = s.defrost.screen :=
  by
  simp [setDefrost]

@[simp] theorem enterHold_defrost (s : State) :
    (enterHold s).defrost.pausedKept = s.defrost.pausedKept ∧ (enterHold s).defrost.fog = s.defrost.fog ∧
    (enterHold s).defrost.fogDebounce = s.defrost.fogDebounce ∧ (enterHold s).defrost.screen = s.defrost.screen :=
  by
  simp [enterHold]

@[simp] theorem compareScreen_defrost (s : State) :
    (compareScreen s).defrost.pausedKept = s.defrost.pausedKept ∧
    (compareScreen s).defrost.fog = s.defrost.fog ∧
    (compareScreen s).defrost.fogDebounce = s.defrost.fogDebounce ∧
    (compareScreen s).defrost.screen = s.defrost.screen :=
  by
  unfold compareScreen; (repeat' split) <;> simp

@[simp] theorem enterRamp_defrost (s : State) :
    (enterRamp s).defrost.pausedKept = s.defrost.pausedKept ∧ (enterRamp s).defrost.fog = s.defrost.fog ∧
    (enterRamp s).defrost.fogDebounce = s.defrost.fogDebounce ∧ (enterRamp s).defrost.screen = s.defrost.screen :=
  by
  simp [enterRamp]

@[simp] theorem leaveWaiting_defrost (s : State) :
    (leaveWaiting s).defrost.pausedKept = s.defrost.pausedKept ∧ (leaveWaiting s).defrost.fog = s.defrost.fog ∧
    (leaveWaiting s).defrost.fogDebounce = s.defrost.fogDebounce ∧
    (leaveWaiting s).defrost.screen = s.defrost.screen :=
  by
  unfold leaveWaiting; (repeat' split) <;> simp

@[simp] theorem enterWaiting_defrost (s : State) :
    (enterWaiting s).defrost.pausedKept = s.defrost.pausedKept ∧ (enterWaiting s).defrost.fog = s.defrost.fog ∧
    (enterWaiting s).defrost.fogDebounce = s.defrost.fogDebounce ∧
    (enterWaiting s).defrost.screen = s.defrost.screen :=
  by
  simp [enterWaiting]

@[simp] theorem defrostSeesTaking_defrost (lost : Bool) (keptBefore : Nat) (s : State) :
    (defrostSeesTaking lost keptBefore s).defrost.pausedKept = s.defrost.pausedKept ∧
    (defrostSeesTaking lost keptBefore s).defrost.fog = s.defrost.fog ∧
    (defrostSeesTaking lost keptBefore s).defrost.fogDebounce = s.defrost.fogDebounce ∧
    (defrostSeesTaking lost keptBefore s).defrost.screen = s.defrost.screen :=
  by
  unfold defrostSeesTaking; (repeat' split) <;> simp

@[simp] theorem finishRunning_defrost (ev : Ev) (before : State) (s : State) :
    (finishRunning ev before s).defrost.pausedKept = s.defrost.pausedKept ∧
    (finishRunning ev before s).defrost.fog = s.defrost.fog ∧
    (finishRunning ev before s).defrost.fogDebounce = s.defrost.fogDebounce ∧
    (finishRunning ev before s).defrost.screen = s.defrost.screen :=
  by
  simp [finishRunning]

@[simp] theorem finish_defrost (ev : Ev) (before : State) (s : State) :
    (finish ev before s).defrost.pausedKept = s.defrost.pausedKept ∧
    (finish ev before s).defrost.fog = s.defrost.fog ∧
    (finish ev before s).defrost.fogDebounce = s.defrost.fogDebounce ∧
    (finish ev before s).defrost.screen = s.defrost.screen :=
  by
  unfold finish; (repeat' split) <;> simp

/-! ## The statistics that membership changes leave alone -/

@[simp] theorem dropReport_stats (s : State) :
    (dropReport s).stats.counters = s.stats.counters ∧ (dropReport s).stats.flags = s.stats.flags ∧
    (dropReport s).stats.second = s.stats.second ∧ (dropReport s).stats.snapshot = s.stats.snapshot :=
  by
  simp [dropReport]

@[simp] theorem stopStatus_stats (s : State) :
    (stopStatus s).stats.counters = s.stats.counters ∧ (stopStatus s).stats.flags = s.stats.flags ∧
    (stopStatus s).stats.second = s.stats.second ∧ (stopStatus s).stats.snapshot = s.stats.snapshot :=
  by
  simp [stopStatus]

@[simp] theorem enterClash_stats (s : State) :
    (enterClash s).stats.counters = s.stats.counters ∧ (enterClash s).stats.flags = s.stats.flags ∧
    (enterClash s).stats.second = s.stats.second ∧ (enterClash s).stats.snapshot = s.stats.snapshot :=
  by
  simp [enterClash]

@[simp] theorem entered_stats (m : MemberState) (s : State) :
    (entered m s).stats.counters = s.stats.counters ∧ (entered m s).stats.flags = s.stats.flags ∧
    (entered m s).stats.second = s.stats.second ∧ (entered m s).stats.snapshot = s.stats.snapshot :=
  by
  unfold entered; (repeat' split) <;> simp

@[simp] theorem setMember_stats (m : MemberState) (s : State) :
    (setMember m s).stats.counters = s.stats.counters ∧ (setMember m s).stats.flags = s.stats.flags ∧
    (setMember m s).stats.second = s.stats.second ∧ (setMember m s).stats.snapshot = s.stats.snapshot :=
  by
  unfold setMember; split <;> simp

@[simp] theorem checkCatchUp_stats (s : State) :
    (checkCatchUp s).stats.counters = s.stats.counters ∧ (checkCatchUp s).stats.flags = s.stats.flags ∧
    (checkCatchUp s).stats.second = s.stats.second ∧ (checkCatchUp s).stats.snapshot = s.stats.snapshot :=
  by
  unfold checkCatchUp; (repeat' split) <;> simp

@[simp] theorem ownJoinTaken_stats (s : State) :
    (ownJoinTaken s).stats.counters = s.stats.counters ∧ (ownJoinTaken s).stats.flags = s.stats.flags ∧
    (ownJoinTaken s).stats.second = s.stats.second ∧ (ownJoinTaken s).stats.snapshot = s.stats.snapshot :=
  by
  simp [ownJoinTaken]

@[simp] theorem selfExpelled_stats (s : State) :
    (selfExpelled s).stats.counters = s.stats.counters ∧ (selfExpelled s).stats.flags = s.stats.flags ∧
    (selfExpelled s).stats.second = s.stats.second ∧ (selfExpelled s).stats.snapshot = s.stats.snapshot :=
  by
  simp [selfExpelled]

@[simp] theorem joinResponse_stats (own : Bool) (b : Bulletin) (s : State) :
    (joinResponse own b s).stats.counters = s.stats.counters ∧
    (joinResponse own b s).stats.flags = s.stats.flags ∧ (joinResponse own b s).stats.second = s.stats.second ∧
    (joinResponse own b s).stats.snapshot = s.stats.snapshot :=
  by
  unfold joinResponse; (repeat' split) <;> simp

@[simp] theorem clashResponse_stats (own : Bool) (address : Nat) (s : State) :
    (clashResponse own address s).stats.counters = s.stats.counters ∧
    (clashResponse own address s).stats.flags = s.stats.flags ∧
    (clashResponse own address s).stats.second = s.stats.second ∧
    (clashResponse own address s).stats.snapshot = s.stats.snapshot :=
  by
  unfold clashResponse; (repeat' split) <;> simp

@[simp] theorem replaceRequest_stats (r : ReportRequest) (s : State) :
    (replaceRequest r s).stats.counters = s.stats.counters ∧ (replaceRequest r s).stats.flags = s.stats.flags ∧
    (replaceRequest r s).stats.second = s.stats.second ∧ (replaceRequest r s).stats.snapshot = s.stats.snapshot :=
  by
  simp [replaceRequest]

@[simp] theorem takeQuery_stats (target : Byte) (item : Byte) (flags : Byte) (s : State) :
    (takeQuery target item flags s).stats.counters = s.stats.counters ∧
    (takeQuery target item flags s).stats.flags = s.stats.flags ∧
    (takeQuery target item flags s).stats.second = s.stats.second ∧
    (takeQuery target item flags s).stats.snapshot = s.stats.snapshot :=
  by
  unfold takeQuery; (repeat' split) <;> simp

/-! ## Silence ages and lease news under a change of membership state -/

@[simp] theorem leaveInStep_ages (s : State) :
    (leaveInStep s).member.ages = s.member.ages ∧ (leaveInStep s).member.leaseNews = s.member.leaseNews :=
  by
  simp [leaveInStep]

@[simp] theorem stopStatus_ages (s : State) :
    (stopStatus s).member.ages = s.member.ages ∧ (stopStatus s).member.leaseNews = s.member.leaseNews :=
  by
  simp [stopStatus]

@[simp] theorem startStatus_ages (s : State) :
    (startStatus s).member.ages = s.member.ages ∧ (startStatus s).member.leaseNews = s.member.leaseNews :=
  by
  simp [startStatus]

@[simp] theorem enterInStep_ages (s : State) :
    (enterInStep s).member.ages = s.member.ages ∧ (enterInStep s).member.leaseNews = s.member.leaseNews :=
  by
  unfold enterInStep; (repeat' split) <;> simp

@[simp] theorem enterClash_ages (s : State) :
    (enterClash s).member.ages = s.member.ages ∧ (enterClash s).member.leaseNews = s.member.leaseNews :=
  by
  simp [enterClash]

@[simp] theorem entered_ages (m : MemberState) (s : State) :
    (entered m s).member.ages = s.member.ages ∧ (entered m s).member.leaseNews = s.member.leaseNews :=
  by
  unfold entered; (repeat' split) <;> simp

@[simp] theorem setMember_ages (m : MemberState) (s : State) :
    (setMember m s).member.ages = s.member.ages ∧ (setMember m s).member.leaseNews = s.member.leaseNews :=
  by
  unfold setMember; split <;> simp

@[simp] theorem checkCatchUp_ages (s : State) :
    (checkCatchUp s).member.ages = s.member.ages ∧ (checkCatchUp s).member.leaseNews = s.member.leaseNews :=
  by
  unfold checkCatchUp; (repeat' split) <;> simp

@[simp] theorem clashResponse_ages (own : Bool) (address : Nat) (s : State) :
    (clashResponse own address s).member.ages = s.member.ages ∧
    (clashResponse own address s).member.leaseNews = s.member.leaseNews :=
  by
  unfold clashResponse; (repeat' split) <;> simp

@[simp] theorem selfExpelled_ages (s : State) :
    (selfExpelled s).member.ages = s.member.ages ∧ (selfExpelled s).member.leaseNews = s.member.leaseNews :=
  by
  simp [selfExpelled]

@[simp] theorem enterMismatch_ages (s : State) :
    (enterMismatch s).member.ages = s.member.ages ∧ (enterMismatch s).member.leaseNews = s.member.leaseNews :=
  by
  simp [enterMismatch]

end Sys2Proof.Machine
end

