-- ==== Sys2Proof/Laws/Evaluation.lean ====
section
/-! SUPPORT. The parts of an evaluation: what the bounds make of aside and commitment, what a share evaluation leaves of the
share unit, and what a zone evaluation makes of the stages. -/

namespace Sys2Proof.Machine

/-! ## The share unit -/

/-- Whatever `setAside` gets, aside is that. -/
@[simp] theorem setAside_aside (units : Nat) (s : State) : (setAside units s).share.aside = units := by
  unfold setAside
  split
  · rfl
  · split
    · rename_i h
      simp [h.2]
    · rfl

@[simp] theorem setAside_commit (units : Nat) (s : State) : (setAside units s).share.commit = s.share.commit := by
  unfold setAside
  (repeat' split) <;> simp

/-- R49, R64, R153. -/
@[simp] theorem applyBounds_aside (s : State) : (applyBounds s).share.aside = (setCommit s.boundCommit s).boundAside := by
  simp [applyBounds]

/-- R49, R64. -/
@[simp] theorem applyBounds_commit (s : State) : (applyBounds s).share.commit = s.boundCommit := by
  simp [applyBounds, setCommit]

@[simp] theorem claimDecision_share (s : State) : (claimDecision s).share = s.share := by simp

@[simp] theorem triggerReturn_share (ev : Ev) (before s : State) : (triggerReturn ev before s).share = s.share := by simp

/-- A share evaluation leaves aside as the bounds, reclaim and set-aside give it, with the wish that they leave. -/
theorem shareEvaluation_share (ev : Ev) (before s : State) :
    (shareEvaluation ev before s).share =
      { (adjustAside before (applyBounds s)).share with
        wishUnits := (adjustAside before (applyBounds s)).wish.1
        wishRank := (adjustAside before (applyBounds s)).wish.2 } := by
  simp [shareEvaluation, setWish]

/-! ## The stages -/

theorem forcedDown_of_le {minimum limit load : Nat} (h : load ≤ limit) (stages : List Stage) :
    forcedDown minimum limit load stages = stages := by
  cases stages with
  | nil => rfl
  | cons g gs => simp [forcedDown, Nat.not_lt.2 h]

/-- A load within the limit forces nothing (R83). -/
theorem forced_of_le {minimum limit : Nat} {stages : List Stage} (h : loadOf stages ≤ limit) :
    forced minimum limit stages = stages := by
  simp [forced, forcedDown_of_le h]

/-- Steps 6 and 7 (R72): the stages are cut against the air limit that the share evaluation leaves, then switched. -/
theorem regulate_stages (ev : Ev) (before s : State) :
    (regulate ev before s).zone.stages =
      (switchStages (cutStages (shareEvaluation ev before s))).zone.stages := by
  simp only [regulate, setFan]

end Sys2Proof.Machine
end

