-- ==== Sys2Proof/Laws/Idle.lean ====
section
/-! SUPPORT. When an expiry is due (entry 2): one lemma per kind of timer, which says when a command is among those that are
due. -/

namespace Sys2Proof.Machine

theorem mem_dueTimer {t : Timer} {c d : Instr} : c ∈ dueTimer t d ↔ t = some 0 ∧ c = d := by
  unfold dueTimer Timer.due
  by_cases h : t = some 0 <;> simp [h]

theorem minTimer_left_zero {m : MinTimer} : m.left = some 0 ↔ m = .afterOn 0 ∨ m = .afterOff 0 := by
  cases m <;> simp [MinTimer.left]

theorem returnTimer_left_zero {r : ReturnTimer} : r.left = some 0 ↔ r = .running 0 := by
  cases r <;> simp [ReturnTimer.left]

theorem mem_dueSpills {codes : Sensors} {spill : List SpillEntry} {c : Instr} :
    c ∈ dueSpills codes spill ↔
      ∃ e ∈ spill, e.timer = some 0 ∧ c = .spillTimerExpiry codes (Fin.ofNat 8 e.station) := by
  simp [dueSpills, mem_dueTimer]

theorem mem_dueAges {ages : List Age} {c : Instr} :
    c ∈ dueAges ages ↔ ∃ a ∈ ages, a.left = some 0 ∧ c = .silenceAgeLimit (Fin.ofNat 8 a.station) := by
  simp [dueAges, mem_dueTimer]

theorem mem_dueSlots {codes : Sensors} {o : Overrides} {c : Instr} :
    c ∈ dueSlots codes o ↔ ∃ kind, o.expiry kind = some 0 ∧ c = .slotExpiry codes kind := by
  simp only [dueSlots, List.mem_flatMap, mem_dueTimer]
  exact ⟨fun ⟨kind, _, due⟩ => ⟨kind, due⟩, fun ⟨kind, due⟩ => ⟨kind, by cases kind <;> simp, due⟩⟩

theorem mem_dueStages {codes : Sensors} {stages : List Stage} {c : Instr} :
    c ∈ dueStages codes stages ↔
      ∃ (i : Fin 4) (g : Stage), stages[i.val]? = some g ∧ (g.timer = .afterOn 0 ∨ g.timer = .afterOff 0) ∧
        c = .stageMinimumTimerExpiry codes i := by
  have place : ∀ (g : Stage) (i : Fin 4), (g, i) ∈ stages.zip [0, 1, 2, 3] ↔ stages[i.val]? = some g := by
    intro g i
    have last : (3 : Fin 4).val = 3 := rfl
    have numbers : i = 0 ∨ i = 1 ∨ i = 2 ∨ i = 3 := by omega
    rcases stages with _ | ⟨a, _ | ⟨b, _ | ⟨d, _ | ⟨e, rest⟩⟩⟩⟩ <;>
      rcases numbers with rfl | rfl | rfl | rfl <;> simp [last, eq_comm]
  simp only [dueStages, List.mem_flatMap, mem_dueTimer, minTimer_left_zero]
  exact ⟨fun ⟨p, at_place, due⟩ => ⟨p.2, p.1, (place p.1 p.2).mp at_place, due⟩,
    fun ⟨i, g, at_place, due⟩ => ⟨(g, i), (place g i).mpr at_place, due⟩⟩

end Sys2Proof.Machine
end

