-- ==== Sys2Proof/Laws/ReadBack.lean ====
section
/-! SUPPORT. What a sender finds in the bits it reads back, by the first bit that differs (R165, R166). -/

namespace Sys2Proof.Machine

/-- While every bit read is the one driven, the comparison goes on behind them. -/
theorem compareBits_append (arbitration checked : Nat) (same driven heard : List Bool) (h : same.length ≤ checked) :
    compareBits arbitration checked (same ++ driven) (same ++ heard) =
      compareBits (arbitration - same.length) (checked - same.length) driven heard := by
  induction same generalizing arbitration checked with
  | nil => rfl
  | cons b bs ih =>
    simp only [List.length_cons] at h
    have some_left : checked ≠ 0 := by omega
    simp only [List.cons_append, compareBits, some_left, if_false, if_true, List.length_cons]
    rw [ih (arbitration - 1) (checked - 1) (by omega)]
    congr 1 <;> omega

@[simp] theorem compareBits_nil (arbitration checked : Nat) (driven : List Bool) :
    compareBits arbitration checked driven [] = .underWay := by cases driven <;> rfl

/-- At the objection slot a dominant bit is an objection (R166). -/
@[simp] theorem compareBits_slot (arbitration : Nat) (d h : Bool) (driven heard : List Bool) :
    compareBits arbitration 0 (d :: driven) (h :: heard) = if h then .completes else .objected := by simp [compareBits]

/-- The first bit that differs: lost when a recessive one of the arbitration, else an abort (R165, R166). -/
theorem compareBits_differs (arbitration checked : Nat) (d : Bool) (driven heard : List Bool) (h : 0 < checked) :
    compareBits arbitration checked (d :: driven) ((!d) :: heard) =
      if 0 < arbitration ∧ d = true then .lost else .aborts := by
  have some_left : checked ≠ 0 := by omega
  cases d <;> simp [compareBits, some_left]

end Sys2Proof.Machine
end

