-- ==== Sys2Proof/Laws/Report.lean ====
section
/-! SUPPORT. What a ZONE report tells its reader of the fan level (R86, R202; entry 33). -/

namespace Sys2Proof.Machine

/-- A field of a byte that a sum of fields makes. -/
theorem field_byteOf (n low width : Nat) :
    ((byteOf n).extractLsb' low width).toNat = n % 256 / 2 ^ low % 2 ^ width := by
  simp [byteOf, Nat.shiftRight_eq_div_pow]

/-- Within the widths of R202, a ZONE report tells the level that R86 gives, but for a forced one. -/
theorem fanRead_zoneReport (s : State) (r : ReportRequest) (zone : r.item = .zone)
    (setpoint : setpointCode s.zone.setpoint < 64) (demand : s.zone.total < 64) (spill : s.spillFigure < 32)
    (entries : s.doors.spill.length < 4) :
    fanRead s.capacity (s.reportBytes r) = if s.overrides.fanForce.isSome then none else some s.fanNow := by
  have oneShotField : ((byteOf (1 + s.zoneRecord.headerBits)).extractLsb' 5 2).toNat = s.doors.oneShot.code := by
    simp only [field_byteOf, ZoneRecord.headerBits, State.zoneRecord]
    generalize s.overrides.economy.isSome = flag
    cases s.doors.oneShot <;> cases flag <;> rfl
  have modeField : ((byteOf (setpointCode s.zone.setpoint + 64 * s.zone.mode.code)).extractLsb' 6 2).toNat =
      s.zone.mode.code := by
    rw [field_byteOf]
    cases s.zone.mode <;> simp only [ZoneMode.code] <;> omega
  have demandField : ((byteOf (s.zone.total + 64 * s.supply.state.code)).extractLsb' 0 6).toNat = s.zone.total := by
    rw [field_byteOf]
    cases s.supply.state <;> simp only [SupplyState.code] <;> omega
  have spillField : ∀ flag, ((byteOf (s.spillFigure + 32 * s.doors.spill.length + bitAt 7 flag)).extractLsb' 5 2).toNat =
      s.doors.spill.length := by
    intro flag
    rw [field_byteOf]
    cases flag <;> simp [bitAt] <;> omega
  have forceField : ∀ a b c d, ((byteOf (s.doors.door0.state.code + 4 * s.doors.door1.state.code + bitAt 4 a + bitAt 5 b
      + bitAt 6 c + bitAt 7 d)).extractLsb' 5 1).toNat = if b then 1 else 0 := by
    intro a b c d
    rw [field_byteOf]
    cases s.doors.door0.state <;> cases s.doors.door1.state <;> revert a b c d <;> decide
  have report : s.reportBytes r = byteOf (1 + s.zoneRecord.headerBits) :: s.zoneRecord.bytes := by
    simp only [State.reportBytes, zone]
  simp only [fanRead, report, ZoneRecord.bytes, List.getD_cons_zero, List.getD_cons_succ, oneShotField]
  simp only [State.zoneRecord, modeField, demandField, spillField, forceField, State.fanNow]
  cases s.overrides.fanForce with
  | some slot => rfl
  | none =>
    cases s.doors.oneShot <;> cases s.zone.mode <;> simp [OneShot.code, ZoneMode.code] <;> (repeat' split) <;> simp_all

end Sys2Proof.Machine
end

