-- ==== Sys2Proof/Laws/ShareTable.lean ====
section
/-! SUPPORT. What each operation of the share table can do: one lemma per operation and aspect, for proofs to cite. -/

namespace Sys2Proof.Machine

/-! ## Rows -/

/-- A change of one row keeps every value that the change keeps. -/
theorem updateRow_map {α : Type} (g : Row → α) (f : Row → Row) (h : ∀ r, g (f r) = g r) (station : Nat)
    (rows : List Row) : (updateRow station f rows).map g = rows.map g := by
  simp only [updateRow, List.map_map]
  refine List.map_congr_left fun r _ => ?_
  by_cases e : r.station = station <;> simp [e, h]

theorem updateRow_length (f : Row → Row) (station : Nat) (rows : List Row) :
    (updateRow station f rows).length = rows.length := by simp [updateRow]

/-- A row after a change is a row before it, changed or not. -/
theorem mem_updateRow {f : Row → Row} {station : Nat} {rows : List Row} {r : Row} (h : r ∈ updateRow station f rows) :
    ∃ r₀ ∈ rows, r = if r₀.station = station then f r₀ else r₀ := by
  simp only [updateRow, List.mem_map] at h
  obtain ⟨r₀, hr₀, e⟩ := h
  exact ⟨r₀, hr₀, e.symm⟩

@[simp] theorem update_frame (t : ShareTable) (station : Nat) (f : Row → Row) :
    (t.update station f).allowance = t.allowance ∧ (t.update station f).fallback = t.fallback ∧
      (t.update station f).leaseTag = t.leaseTag ∧ (t.update station f).leaseState = t.leaseState ∧
      (t.update station f).overdrawn = t.overdrawn ∧ (t.update station f).queue = t.queue ∧
      (t.update station f).rows = updateRow station f t.rows := ⟨rfl, rfl, rfl, rfl, rfl, rfl, rfl⟩

/-- A row is found in any list by a rule that a change of rows keeps. -/
theorem find_map_station (n : Nat) (f : Row → Row) (h : ∀ r, (f r).station = r.station) (rows : List Row) :
    (rows.map f).find? (fun r => r.station == n) = (rows.find? (fun r => r.station == n)).map f := by
  induction rows with
  | nil => rfl
  | cons r rs ih =>
    simp only [List.map_cons, List.find?_cons, h]
    by_cases e : r.station == n <;> simp [e, ih]

/-- The changed row of a station, where the change keeps station numbers. -/
theorem row?_update (t : ShareTable) (station n : Nat) (f : Row → Row) (h : ∀ r, (f r).station = r.station) :
    (t.update station f).row? n = (t.row? n).map (fun r => if r.station = station then f r else r) := by
  refine find_map_station n _ (fun r => ?_) t.rows
  by_cases e : r.station = station <;> simp [e, h]

theorem row?_station {t : ShareTable} {n : Nat} {r : Row} (h : t.row? n = some r) : r.station = n := by
  have := List.find?_some h
  simpa using this

theorem insertRow_perm (r : Row) (rows : List Row) : (insertRow r rows).Perm (r :: rows) := by
  induction rows with
  | nil => exact List.Perm.refl _
  | cons x xs ih =>
    simp only [insertRow]
    split
    · exact List.Perm.refl _
    · exact (List.Perm.cons x ih).trans (List.Perm.swap r x xs)

/-- R40: ordering keeps the rows. -/
theorem recallOrder_perm (rows : List Row) : (recallOrder rows).Perm rows := by
  induction rows with
  | nil => exact List.Perm.refl _
  | cons r rs ih => exact (insertRow_perm r (recallOrder rs)).trans (List.Perm.cons r ih)

/-! ## The claim queue -/

theorem insertEntry_perm (e : Entry) (queue : List Entry) : (insertEntry e queue).Perm (e :: queue) := by
  induction queue with
  | nil => exact List.Perm.refl _
  | cons x xs ih =>
    simp only [insertEntry]
    split
    · exact List.Perm.refl _
    · exact (List.Perm.cons x ih).trans (List.Perm.swap e x xs)

/-- R28: ordering keeps the entries. -/
theorem queueOrder_perm (entries : List Entry) : (queueOrder entries).Perm entries := by
  induction entries with
  | nil => exact List.Perm.refl _
  | cons e es ih => exact (insertEntry_perm e (queueOrder es)).trans (List.Perm.cons e ih)

theorem mem_dropEntry {station : Nat} {queue : List Entry} {e : Entry} :
    e ∈ dropEntry station queue ↔ e ∈ queue ∧ e.station ≠ station := by
  simp [dropEntry, List.mem_filter]

theorem setEntry_perm (e : Entry) (queue : List Entry) :
    (setEntry e queue).Perm (e :: dropEntry e.station queue) := insertEntry_perm e _

/-- A station whose entry was dropped has none. -/
theorem hasEntry_dropEntry (t : ShareTable) (station : Nat) :
    ({ t with queue := dropEntry station t.queue } : ShareTable).hasEntry station = false := by
  simp [ShareTable.hasEntry, ShareTable.entry?, dropEntry, List.find?_eq_none]

/-! ## Recall -/

/-- A pass changes owed values only. -/
theorem recallPass_map {α : Type} (g : Row → α) (h : ∀ r owed, g { r with owed } = g r) (give : Row → Nat) (short : Nat)
    (rows : List Row) : (recallPass give short rows).2.map g = rows.map g := by
  induction rows generalizing short with
  | nil => rfl
  | cons r rs ih => simp only [recallPass, List.map_cons, h, ih]

theorem recallPass_length (give : Row → Nat) (short : Nat) (rows : List Row) :
    (recallPass give short rows).2.length = rows.length := by
  induction rows generalizing short with
  | nil => rfl
  | cons r rs ih => simp only [recallPass, List.length_cons, ih]

/-- What a pass leaves of the shortfall. -/
theorem recallPass_short (give : Row → Nat) (short : Nat) (rows : List Row) :
    (recallPass give short rows).1 = short - (rows.map give).sum := by
  induction rows generalizing short with
  | nil => simp [recallPass]
  | cons r rs ih =>
    simp only [recallPass, List.map_cons, List.sum_cons, ih]
    omega

/-- What is met of the shortfall is owed. -/
theorem recallPass_owed (give : Row → Nat) (short : Nat) (rows : List Row) :
    ((recallPass give short rows).2.map (·.owed)).sum + (recallPass give short rows).1 =
      (rows.map (·.owed)).sum + short := by
  induction rows generalizing short with
  | nil => simp [recallPass]
  | cons r rs ih =>
    have := ih (short - min short (give r))
    simp only [recallPass, List.map_cons, List.sum_cons]
    omega

/-- A row after a pass is a row before it that owes more, by at most what it may give. -/
theorem mem_recallPass {give : Row → Nat} {short : Nat} {rows : List Row} {r : Row}
    (h : r ∈ (recallPass give short rows).2) :
    ∃ r₀ ∈ rows, ∃ given, given ≤ give r₀ ∧ r = { r₀ with owed := r₀.owed + given } := by
  induction rows generalizing short with
  | nil => simp [recallPass] at h
  | cons x xs ih =>
    simp only [recallPass, List.mem_cons] at h
    rcases h with h | h
    · exact ⟨x, List.mem_cons_self, min short (give x), Nat.min_le_right _ _, h⟩
    · obtain ⟨r₀, hr₀, given, hg, e⟩ := ih h
      exact ⟨r₀, List.mem_cons_of_mem _ hr₀, given, hg, e⟩

@[simp] theorem safetyRecall_frame (t : ShareTable) (n : Nat) :
    (t.safetyRecall n).allowance = t.allowance ∧ (t.safetyRecall n).fallback = t.fallback ∧
      (t.safetyRecall n).leaseTag = t.leaseTag ∧ (t.safetyRecall n).leaseState = t.leaseState ∧
      (t.safetyRecall n).overdrawn = t.overdrawn ∧ (t.safetyRecall n).queue = t.queue := ⟨rfl, rfl, rfl, rfl, rfl, rfl⟩

@[simp] theorem recallExcess_frame (t : ShareTable) :
    t.recallExcess.allowance = t.allowance ∧ t.recallExcess.fallback = t.fallback ∧
      t.recallExcess.leaseTag = t.leaseTag ∧ t.recallExcess.leaseState = t.leaseState ∧
      t.recallExcess.overdrawn = t.overdrawn ∧ t.recallExcess.queue = t.queue := ⟨rfl, rfl, rfl, rfl, rfl, rfl⟩

theorem safetyRecall_map {α : Type} (g : Row → α) (h : ∀ r owed, g { r with owed } = g r) (t : ShareTable) (n : Nat) :
    (t.safetyRecall n).rows.map g = t.rows.map g := recallPass_map g h _ _ _

theorem recallExcess_map {α : Type} (g : Row → α) (h : ∀ r owed, g { r with owed } = g r) (t : ShareTable) :
    t.recallExcess.rows.map g = t.rows.map g := by
  simp only [ShareTable.recallExcess, ShareTable.allowanceRecall]
  rw [recallPass_map g h, recallPass_map g h]

/-- R3 holds after a pass in which no row gives more than it holds beyond what it owes. -/
theorem recallPass_rowsLaw {give : Row → Nat} {short : Nat} {rows : List Row}
    (give_le : ∀ r ∈ rows, give r ≤ r.borrowed - r.owed)
    (law : ∀ r ∈ rows, r.owed ≤ r.borrowed ∧ r.safety ≤ r.borrowed) :
    ∀ r ∈ (recallPass give short rows).2, r.owed ≤ r.borrowed ∧ r.safety ≤ r.borrowed := by
  intro r hr
  obtain ⟨r₀, hr₀, given, hg, rfl⟩ := mem_recallPass hr
  have := give_le r₀ hr₀
  have := law r₀ hr₀
  simp only
  omega

theorem rowsLaw_safetyRecall {t : ShareTable} (n : Nat) (law : RowsLaw t) : RowsLaw (t.safetyRecall n) := by
  refine recallPass_rowsLaw (fun r _ => ?_) law
  simp only [Row.freeToRecall]
  omega

theorem rowsLaw_recallExcess {t : ShareTable} (law : RowsLaw t) : RowsLaw t.recallExcess := by
  refine recallPass_rowsLaw (fun r _ => Nat.le_refl _) (recallPass_rowsLaw (fun r _ => ?_) law)
  simp only [Row.freeToRecall]
  omega

/-! ## Service round -/

@[simp] theorem grantHead_frame (t : ShareTable) (e : Entry) (rest : List Entry) :
    (t.grantHead e rest).allowance = t.allowance ∧ (t.grantHead e rest).fallback = t.fallback ∧
      (t.grantHead e rest).leaseTag = t.leaseTag ∧ (t.grantHead e rest).leaseState = t.leaseState ∧
      (t.grantHead e rest).overdrawn = t.overdrawn := ⟨rfl, rfl, rfl, rfl, rfl⟩

theorem grantHead_queue_length (t : ShareTable) (e : Entry) (rest : List Entry) :
    (t.grantHead e rest).queue.length = rest.length := by
  simp only [ShareTable.grantHead]
  rw [(queueOrder_perm _).length_eq, List.length_map]

/-- A property that every grant keeps holds after any number of them. -/
theorem serviceLoop_keeps (P : ShareTable → Prop)
    (grant : ∀ t e rest, t.queue = e :: rest → e.units ≤ t.free → P t → P (t.grantHead e rest)) :
    ∀ (fuel : Nat) (t : ShareTable), P t → P (serviceLoop fuel t) := by
  intro fuel
  induction fuel with
  | zero => exact fun t h => h
  | succ fuel ih =>
    intro t h
    simp only [serviceLoop]
    split
    · exact h
    · rename_i e rest hq
      split
      · exact ih _ (grant t e rest hq ‹_› h)
      · exact h

/-- A property that grants and safety recalls keep holds after a service round. -/
theorem serviceRound_keeps (P : ShareTable → Prop)
    (grant : ∀ t e rest, t.overdrawn = false → t.queue = e :: rest → e.units ≤ t.free → P t → P (t.grantHead e rest))
    (recalls : ∀ t n, P t → P (t.safetyRecall n)) (t : ShareTable) (h : P t) : P t.serviceRound := by
  have served : P t.serviceGrants := by
    simp only [ShareTable.serviceGrants]
    split
    · exact h
    · rename_i free
      refine (serviceLoop_keeps (fun u => u.overdrawn = false ∧ P u) ?_ t.queue.length t ⟨by simpa using free, h⟩).2
      rintro u e rest hq hu ⟨ho, hp⟩
      exact ⟨ho, grant u e rest ho hq hu hp⟩
  simp only [ShareTable.serviceRound, ShareTable.headRecall]
  split
  · exact served
  · split
    · exact recalls _ _ served
    · exact served

/-- A service round touches rows and the claim queue only. -/
@[simp] theorem serviceRound_frame (t : ShareTable) :
    t.serviceRound.allowance = t.allowance ∧ t.serviceRound.fallback = t.fallback ∧
      t.serviceRound.leaseTag = t.leaseTag ∧ t.serviceRound.leaseState = t.leaseState ∧
      t.serviceRound.overdrawn = t.overdrawn :=
  serviceRound_keeps
    (fun u => u.allowance = t.allowance ∧ u.fallback = t.fallback ∧ u.leaseTag = t.leaseTag ∧
      u.leaseState = t.leaseState ∧ u.overdrawn = t.overdrawn)
    (fun _ _ _ _ _ _ h => h) (fun _ _ h => h) t ⟨rfl, rfl, rfl, rfl, rfl⟩

/-- A service round changes no row but in borrowed, safety and owed. -/
theorem serviceRound_map {α : Type} (g : Row → α) (h : ∀ r borrowed safety owed, g { r with borrowed, safety, owed } = g r)
    (t : ShareTable) : t.serviceRound.rows.map g = t.rows.map g := by
  refine serviceRound_keeps (fun u => u.rows.map g = t.rows.map g) ?_ ?_ t rfl
  · intro u e rest _ _ _ hu
    exact (updateRow_map g _ (fun r => h r _ _ r.owed) _ _).trans hu
  · intro u n hu
    exact (safetyRecall_map g (fun r owed => h r r.borrowed r.safety owed) u n).trans hu

theorem serviceRound_empty {t : ShareTable} (h : t.queue = []) : t.serviceRound = t := by
  have served : t.serviceGrants = t := by simp [ShareTable.serviceGrants, serviceLoop, h]
  simp only [ShareTable.serviceRound, served, ShareTable.headRecall, h]

theorem rowsLaw_grantHead {t : ShareTable} (e : Entry) (rest : List Entry) (law : RowsLaw t) :
    RowsLaw (t.grantHead e rest) := by
  intro r hr
  obtain ⟨r₀, hr₀, rfl⟩ := mem_updateRow hr
  have := law r₀ hr₀
  split
  · simp only [Row.granted]
    split <;> omega
  · exact this

/-- R3 holds after a service round. -/
theorem rowsLaw_serviceRound {t : ShareTable} (law : RowsLaw t) : RowsLaw t.serviceRound :=
  serviceRound_keeps RowsLaw (fun _ e rest _ _ _ h => rowsLaw_grantHead e rest h) (fun _ n h => rowsLaw_safetyRecall n h) t law

/-! ## The end of a taking -/

@[simp] theorem evaluateOverdrawn_frame (statement : Bool) (t : ShareTable) :
    (t.evaluateOverdrawn statement).rows = t.rows ∧ (t.evaluateOverdrawn statement).allowance = t.allowance ∧
      (t.evaluateOverdrawn statement).fallback = t.fallback ∧ (t.evaluateOverdrawn statement).leaseTag = t.leaseTag ∧
      (t.evaluateOverdrawn statement).leaseState = t.leaseState ∧ (t.evaluateOverdrawn statement).queue = t.queue :=
  ⟨rfl, rfl, rfl, rfl, rfl, rfl⟩

/-- R10: after step 4 the table is marked, or its held part is within its pool; unless it was neither and no statement was
taken. -/
theorem heldLaw_evaluateOverdrawn (statement : Bool) (t : ShareTable)
    (h : t.held ≤ t.pool ∨ statement = true ∨ t.overdrawn = true) : HeldLaw (t.evaluateOverdrawn statement) := by
  by_cases within : t.held ≤ t.pool
  · exact Or.inr within
  · refine Or.inl ?_
    rcases h with h | h | h
    · exact absurd h within
    · simp [ShareTable.evaluateOverdrawn, within, h]
    · simp [ShareTable.evaluateOverdrawn, within, h]

/-- R10: the flag after an evaluation without a statement, in a table that is marked only while it is overdrawn. -/
theorem evaluateOverdrawn_of_flagLaw {t : ShareTable} (law : FlagLaw t) : t.evaluateOverdrawn false = t := by
  cases h : t.overdrawn with
  | false => simp [ShareTable.evaluateOverdrawn, ← h]
  | true =>
    have above : ¬ t.held ≤ t.pool := Nat.not_le.mpr (law h)
    simp [ShareTable.evaluateOverdrawn, above]

/-- R10: an evaluation leaves no mark on a table whose held part is within its pool. -/
theorem flagLaw_evaluateOverdrawn (statement : Bool) (t : ShareTable) : FlagLaw (t.evaluateOverdrawn statement) := by
  intro h
  by_cases within : t.held ≤ t.pool
  · simp [ShareTable.evaluateOverdrawn, within] at h
  · exact Nat.lt_of_not_le within

/-- A taking that changes nothing leaves a table as it is, in one that is marked only while it is overdrawn (R10). -/
theorem nothing_of_flagLaw {t : ShareTable} (law : FlagLaw t) : (Taken.nothing t).table = t :=
  evaluateOverdrawn_of_flagLaw law

@[simp] theorem tableSettle_frame (me : Nat) (statement round : Bool) (t : ShareTable) :
    (t.settle me statement round).table =
        (if round then (t.evaluateOverdrawn statement).serviceRound else t.evaluateOverdrawn statement).evaluateOverdrawn
          false ∧
      (t.settle me statement round).repaired = false ∧ (t.settle me statement round).mismatch = false ∧
      (t.settle me statement round).renewed = none ∧ (t.settle me statement round).lapsed = false :=
  ⟨rfl, rfl, rfl, rfl, rfl⟩

theorem rowsLaw_settle {t : ShareTable} (me : Nat) (statement round : Bool) (law : RowsLaw t) :
    RowsLaw (t.settle me statement round).table := by
  rw [(tableSettle_frame me statement round t).1]
  show RowsLaw (if round then _ else _)
  split
  · exact rowsLaw_serviceRound (t := t.evaluateOverdrawn statement) law
  · exact law

/-- A taking after which a row is emptied keeps R3. -/
theorem rowsLaw_clearRow {t : ShareTable} (station : Nat) (state : RowState) (law : RowsLaw t) :
    RowsLaw (t.clearRow station state) := by
  intro r hr
  obtain ⟨r₀, hr₀, rfl⟩ := mem_updateRow hr
  split
  · simp [Row.cleared]
  · exact law r₀ hr₀

/-- The flag's evaluation without a statement, made twice, is made once. -/
theorem evaluateOverdrawn_twice (t : ShareTable) :
    (t.evaluateOverdrawn false).evaluateOverdrawn false = t.evaluateOverdrawn false :=
  evaluateOverdrawn_of_flagLaw (flagLaw_evaluateOverdrawn false t)

/-- The end of a taking with a service round is `roundServed`. -/
theorem settle_round (me : Nat) (t : ShareTable) : (t.settle me false true).table = t.roundServed := rfl

/-- R152's removal of the own entry, from a table whose flag has been evaluated. -/
theorem dropOwnEntry_table (me : Nat) {t : ShareTable} (evaluated : t.evaluateOverdrawn false = t) :
    (dropOwnEntry me t).table = t.withoutEntryOf me := by
  unfold dropOwnEntry ShareTable.withoutEntryOf
  split
  · rfl
  · exact evaluated

end Sys2Proof.Machine
end

