-- ==== Sys2Proof/Laws/Transmit.lean ====
section
/-! SUPPORT. The transmit queue's two requests, and which operations leave a kind that waits or flies waiting or flying. -/

namespace Sys2Proof.Machine

/-! ## Queue and withdraw -/

theorem sending_of_bus_eq {s t : State} {kind : TxKind} (h : t.bus = s.bus) : s.sending kind → t.sending kind := by
  unfold State.sending State.hasTx State.flying; rw [h]; exact id

@[simp] theorem flying_queueKind (kind other : TxKind) (s : State) :
    (queueKind kind s).flying other = s.flying other := by
  unfold queueKind
  (repeat' split) <;> try rfl
  cases h : s.bus.inFlight <;> simp [State.flying, h, OwnFrame.asked]

@[simp] theorem flying_withdrawKind (kind other : TxKind) (s : State) :
    (withdrawKind kind s).flying other = s.flying other := by
  unfold withdrawKind
  split
  · cases h : s.bus.inFlight <;> simp [State.flying, h]
  · rfl

/-- A queued kind waits or flies, where requests are accepted (R171). -/
theorem queueKind_sending (kind : TxKind) (s : State) (h : s.acceptsRequests = true) :
    (queueKind kind s).sending kind := by
  by_cases hf : s.flying kind = true
  · exact Or.inr (by simpa using hf)
  · refine Or.inl ?_
    unfold queueKind
    rw [if_pos h, if_neg hf]
    split
    · assumption
    · simp [State.hasTx]

theorem queueKind_keeps (kind other : TxKind) (s : State) (h : s.sending other) : (queueKind kind s).sending other := by
  rcases h with h | h
  · refine Or.inl ?_
    unfold queueKind State.hasTx at *
    (repeat' split) <;> simp_all
  · exact Or.inr (by simpa using h)

theorem withdrawKind_keeps (kind other : TxKind) (s : State) (hk : kind ≠ other) (h : s.sending other) :
    (withdrawKind kind s).sending other := by
  rcases h with h | h
  · refine Or.inl ?_
    unfold withdrawKind State.hasTx at *
    (repeat' split)
    · simpa using h
    · simp only [List.any_eq_true, List.mem_filter] at *
      obtain ⟨e, he, hj⟩ := h
      refine ⟨e, ⟨he, ?_⟩, hj⟩
      simp at hj ⊢; rw [hj]; exact fun h => hk h.symm
  · exact Or.inr (by simpa using h)

/-- A withdrawn kind waits only while it flies (R171). -/
theorem withdrawKind_gone (kind : TxKind) (s : State) (h : s.flying kind = false) :
    (withdrawKind kind s).hasTx kind = false := by
  unfold withdrawKind State.hasTx
  simp [h]

/-! ## What the share unit, the ending and the checks leave waiting -/

theorem setAside_keeps (units : Nat) (kind : TxKind) (s : State) (hr : kind ≠ .ret) (h : s.sending kind) :
    (setAside units s).sending kind := by
  unfold setAside
  (repeat' split)
  · exact h
  · exact withdrawKind_keeps _ _ _ hr.symm h
  · exact h

theorem applyBounds_keeps (kind : TxKind) (s : State) (hr : kind ≠ .ret) (h : s.sending kind) :
    (applyBounds s).sending kind := by
  unfold applyBounds
  exact setAside_keeps _ _ _ hr h

theorem adjustAside_keeps (kind : TxKind) (before s : State) (hr : kind ≠ .ret) (h : s.sending kind) :
    (adjustAside before s).sending kind := by
  unfold adjustAside
  (repeat' split) <;> first | exact h | exact setAside_keeps _ _ _ hr h

theorem claimDecision_keeps (kind : TxKind) (s : State) (hc : kind ≠ .claim) (h : s.sending kind) :
    (claimDecision s).sending kind := by
  unfold claimDecision
  (repeat' split) <;> first | exact withdrawKind_keeps _ _ _ hc.symm h | exact queueKind_keeps _ _ _ h

theorem triggerReturn_keeps (ev : Ev) (before : State) (kind : TxKind) (s : State) (h : s.sending kind) :
    (triggerReturn ev before s).sending kind := by
  unfold triggerReturn queueReturn
  (repeat' split) <;> first | exact h | exact queueKind_keeps _ _ _ h

theorem shareEvaluation_keeps (ev : Ev) (before : State) (kind : TxKind) (s : State) (hc : kind ≠ .claim)
    (hr : kind ≠ .ret) (h : s.sending kind) : (shareEvaluation ev before s).sending kind := by
  unfold shareEvaluation
  exact triggerReturn_keeps _ _ _ _
    (claimDecision_keeps _ _ hc (adjustAside_keeps _ _ _ hr (applyBounds_keeps _ _ hr h)))

theorem cutStages_keeps (kind : TxKind) (s : State) (h : s.sending kind) : (cutStages s).sending kind :=
  sending_of_bus_eq (by simp) h

theorem evaluate_keeps (ev : Ev) (before : State) (kind : TxKind) (s : State) (hc : kind ≠ .claim) (hr : kind ≠ .ret)
    (h : s.sending kind) : (evaluate ev before s).sending kind := by
  unfold evaluate zoneEvaluation regulate
  (repeat' split)
  · exact sending_of_bus_eq (s := shareEvaluation ev before (measure ev.periodic s)) (by simp)
      (shareEvaluation_keeps _ _ _ _ hc hr (sending_of_bus_eq (s := s) (by simp) h))
  · exact cutStages_keeps _ _ (shareEvaluation_keeps _ _ _ _ hc hr h)
  · exact h

theorem refreshFan_keeps (before : State) (kind : TxKind) (s : State) (h : s.sending kind) :
    (refreshFan before s).sending kind := sending_of_bus_eq (by simp) h

theorem defrostSeesTaking_keeps (lost : Bool) (keptBefore : Nat) (kind : TxKind) (s : State) (h : s.sending kind) :
    (defrostSeesTaking lost keptBefore s).sending kind := sending_of_bus_eq (by simp) h

theorem noteStatus_keeps (before : State) (kind : TxKind) (s : State) (h : s.sending kind) :
    (noteStatus before s).sending kind := by
  unfold noteStatus; split; exact queueKind_keeps _ _ _ h; exact h

theorem checkExpulsion_keeps (kind : TxKind) (s : State) (he : kind ≠ .expel) (h : s.sending kind) :
    (checkExpulsion s).sending kind := by
  unfold checkExpulsion proposeExpulsion dropSettledExpulsion
  (repeat' split) <;> first
    | exact h
    | exact queueKind_keeps _ _ _ h
    | exact withdrawKind_keeps _ _ _ he.symm h
    | exact queueKind_keeps _ _ _ (withdrawKind_keeps _ _ _ he.symm h)

/-- The end of an event withdraws no kind but CLAIM, RETURN and EXPEL. -/
theorem finish_keeps (ev : Ev) (before : State) (kind : TxKind) (s : State) (hc : kind ≠ .claim) (hr : kind ≠ .ret)
    (he : kind ≠ .expel) (h : s.sending kind) : (finish ev before s).sending kind := by
  unfold finish; split
  · unfold finishRunning settle
    exact checkExpulsion_keeps _ _ he (noteStatus_keeps _ _ _ (refreshFan_keeps _ _ _
      (evaluate_keeps _ _ _ _ hc hr (cutStages_keeps _ _ (applyBounds_keeps _ _ hr
        (defrostSeesTaking_keeps _ _ _ _ h))))))
  · exact h

/-! ## Running events and membership states -/

theorem whenRunning_of (f : State → State) (s : State) (h : s.running = true) : whenRunning f s = f s := by
  simp [whenRunning, h]

@[simp] theorem running_begin (codes : Sensors) (s : State) : (begin codes s).running = s.running := rfl

@[simp] theorem running_nextMoment (s : State) : (nextMoment s).running = s.running := rfl

/-- A change of membership state gives that state. -/
@[simp] theorem setMember_state (m : MemberState) (s : State) : (setMember m s).member.state = m := by
  have h : ∀ x : State, (entered m x).member.state = x.member.state := by
    intro x
    cases m <;> simp [entered, stopStatus, startStatus, enterInStep, enterClash, dropReport]
    split <;> simp
  unfold setMember
  split <;> simp [h]

/-- The five states in which a station with a table accepts transmit requests (R171). -/
theorem acceptsRequests_of (s : State) (m : MemberState) (h : s.member.state = m)
    (hm : m ≠ .undecided ∧ m ≠ .unconfigured ∧ m ≠ .clash) : s.acceptsRequests = true := by
  cases m <;> simp_all [State.acceptsRequests, State.running]

theorem setMember_census (m : MemberState) (s : State) (h : m ≠ .clash) :
    (setMember m s).member.census = s.member.census := by
  unfold setMember leaveInStep
  cases m <;> simp_all [entered, stopStatus, startStatus, enterInStep, dropReport] <;> (repeat' split) <;> simp

end Sys2Proof.Machine
end

