-- ==== Sys2Proof/Laws/Taking.lean ====
section
/-! SUPPORT. The taking of a completed frame: what each block's part leaves alone, and the course of a taking without a
mismatch. -/

namespace Sys2Proof.Machine

/-- A command that is a completed frame completes it. -/
theorem exec_of_frameOf {c : Instr} {codes : Sensors} {address : BitVec 4} {b : Bulletin}
    (h : frameOf c = some (codes, address, b)) (s : State) : exec c s = .next (completeFrame codes address b s) := by
  cases c <;> simp_all [frameOf] <;> (obtain ⟨rfl, rfl, rfl⟩ := h; rfl)

/-- The state in which the blocks take a completed frame. -/
abbrev State.heardFrame (codes : Sensors) (s : State) : State := frameHeard (begin codes s)

/-- A frame that passes the filter is taken, and the event ends (R168, R169). -/
theorem completeFrame_of_passes (codes : Sensors) (address : BitVec 4) (b : Bulletin) (s : State)
    (h : s.running = true) (hp : s.passes address.toNat b = true) :
    completeFrame codes address b s =
      finish (course address.toNat b (s.heardFrame codes)).ev (s.heardFrame codes)
        (course address.toNat b (s.heardFrame codes)).state := by
  have h' : (frameHeard (begin codes s)).running = true := h
  have hp' : (frameHeard (begin codes s)).passes address.toNat b = true := by
    rw [← hp]; cases b <;> rfl
  simp [completeFrame, h', hp']

/-- A frame that fails the filter reaches no block (R169). -/
theorem completeFrame_of_filtered (codes : Sensors) (address : BitVec 4) (b : Bulletin) (s : State)
    (h : s.running = true) (hp : s.passes address.toNat b = false) :
    completeFrame codes address b s =
      filteredFrame ((s.heardFrame codes).ownFrame address.toNat b) address.toNat (s.heardFrame codes) := by
  have h' : (frameHeard (begin codes s)).running = true := h
  have hp' : (frameHeard (begin codes s)).passes address.toNat b = false := by
    rw [← hp]; cases b <;> rfl
  simp [completeFrame, h', hp']

/-- A frame that failed the filter and bears another address, or reaches a station in CLASH, changes bus state and membership
unit only, beside what the event itself brings (R169). -/
theorem filteredFrame_of_other (own : Option OwnFrame) (address : Nat) (s : State)
    (h : address ≠ s.me ∨ s.member.state = .clash) :
    filteredFrame own address s = checkExpulsion (addressed own address s) := by
  unfold filteredFrame
  rcases h with h | h <;> simp [h]

/-! ## Parts of a course -/

@[simp] theorem mapState_state (f : State → State) (c : Course) : (c.mapState f).state = f c.state := rfl
@[simp] theorem mapState_ev (f : State → State) (c : Course) : (c.mapState f).ev = c.ev := rfl
@[simp] theorem mapState_mismatch (f : State → State) (c : Course) : (c.mapState f).mismatch = c.mismatch := rfl
@[simp] theorem plain_state (s : State) : (Course.plain s).state = s := rfl
@[simp] theorem plain_mismatch (s : State) : (Course.plain s).mismatch = false := rfl

/-- Without a mismatch seen the response leaves the course as it is. -/
theorem mismatchResponse_of_none (c : Course) (h : c.mismatch = false) : mismatchResponse c = c := by
  simp [mismatchResponse, h]

/-- An own RETURN raises nothing that the defrost unit looks at (R119). -/
theorem owedRaised_of_returnDone {ev : Ev} (h : ev.returnDone = true) (before s : State) :
    owedRaised ev before s = false := by
  simp [owedRaised, h]

@[simp] theorem tableTaken_table (t : Taken) (s : State) : (tableTaken t s).state.table = t.table := by
  simp [tableTaken]

@[simp] theorem tableTaken_mismatch (t : Taken) (s : State) : (tableTaken t s).mismatch = t.mismatch := rfl

@[simp] theorem tableTaken_frame (t : Taken) (s : State) :
    (tableTaken t s).state.pending = s.pending ∧ (tableTaken t s).state.moment = s.moment ∧
    (tableTaken t s).state.pins = s.pins ∧ (tableTaken t s).state.loader = s.loader ∧
    (tableTaken t s).state.share = s.share ∧ (tableTaken t s).state.supply = s.supply ∧
    (tableTaken t s).state.zone = s.zone ∧ (tableTaken t s).state.doors = s.doors ∧
    (tableTaken t s).state.defrost = s.defrost ∧ (tableTaken t s).state.overrides = s.overrides ∧
    (tableTaken t s).state.member = s.member ∧ (tableTaken t s).state.bus = s.bus := by
  simp [tableTaken]

/-- Only a JOIN and a STATUS show another table tag. -/
theorem settle_mismatch (me : Nat) (statement round : Bool) (t : ShareTable) :
    (t.settle me statement round).mismatch = false := rfl

theorem takeAllowance_mismatch (me : Nat) (units leaseTime fallback tag : Byte) (t : ShareTable) :
    (takeAllowance me units leaseTime fallback tag t).mismatch = false := by
  unfold takeAllowance; split <;> rfl

theorem takeLapse_mismatch (me : Nat) (tag : Byte) (t : ShareTable) : (takeLapse me tag t).mismatch = false := by
  unfold takeLapse; split <;> rfl

theorem takeExpel_mismatch (me station : Nat) (t : ShareTable) : (takeExpel me station t).mismatch = false := by
  unfold takeExpel; (repeat' split) <;> rfl

theorem takeClaim_mismatch (me station : Nat) (units rank : Byte) (t : ShareTable) :
    (takeClaim me station units rank t).mismatch = false := by
  unfold takeClaim; (repeat' split) <;> rfl

theorem takeReturn_mismatch (me station : Nat) (units safetyUnits : Byte) (t : ShareTable) :
    (takeReturn me station units safetyUnits t).mismatch = false := by
  unfold takeReturn; (repeat' split) <;> rfl

/-! ## The whole course -/

/-- Where the taking shows no other table tag, the course is the block's part and the membership unit's response. -/
theorem course_state (address : Nat) (b : Bulletin) (s : State) (used : Course) (hm : used.mismatch = false)
    (hu : takeBulletin (s.ownFrame address b).isSome address (takenBulletin (s.ownFrame address b) b)
        (hearPanel address (addressed (s.ownFrame address b) address s)) = used) :
    (course address b s).state =
      clashResponse (s.ownFrame address b).isSome address
        (catchUpResponse (expelSettled (s.ownFrame address b) used.state).member.state
          (syncHeard (joinResponse (s.ownFrame address b).isSome (takenBulletin (s.ownFrame address b) b)
            (syncAges (expelSettled (s.ownFrame address b) used.state))))) := by
  unfold course memberResponse
  dsimp only
  rw [hu, mismatchResponse_of_none]
  · rfl
  · simpa using hm

/-- The bulletin that is taken is the one on the bus, for a frame that `hears` describes. -/
theorem takenBulletin_of_hears (address : BitVec 4) (b : Bulletin) (s : State) (h : s.hears address b) :
    takenBulletin (s.ownFrame address.toNat b) b = b := by
  unfold takenBulletin
  unfold State.hears at h
  cases hf : s.ownFrame address.toNat b <;> simp_all

end Sys2Proof.Machine
end

