-- ==== Sys2Proof/Laws/TakingEnd.lean ====
section
/-! SUPPORT. The evaluation that ends a taking: when it is called for, what it begins from, and the share unit after an own
RETURN, for the statements that speak of them (R50, R59, R71). -/

namespace Sys2Proof.Machine

/-- R71: a figure that has changed between the state before an event and the one its ending finds brings a zone evaluation. -/
theorem evaluates_of_called {s t : State} (h : EvaluationCalled s t) (ev : Ev) : evaluates ev s t = true := by
  simp only [evaluates, evaluationFigureChanged, Bool.or_eq_true, decide_eq_true_eq, bne_iff_ne,
    or_assoc]
  exact .inr (.inr (.inr (.inr h)))

/-- R50: so does a table result bring a share evaluation. -/
theorem evaluatesShare_of_called {s t : State} (h : ShareEvaluationCalled s t) (ev : Ev) :
    evaluatesShare ev s t = true := by
  simp only [evaluatesShare, shareResultChanged, Bool.or_eq_true, bne_iff_ne, or_assoc]
  exact .inr (.inr h)

/-- R59: an own RETURN of so many units lowers aside and the shed commitment, and starts or stops the return timer. -/
theorem settleReturn_share (units : Nat) (s : State) : (settleReturn units s).share = s.returnSettled units := by
  have sub_min : ∀ a : Nat, a - min units a = a - units := by omega
  simp only [settleReturn, setCommit, setAside, State.returnSettled, withdrawKind, sub_min]
  (repeat' split) <;> simp_all <;> omega

/-- R104: the own JOIN and an EXPEL naming the station leave no activity stated. -/
@[simp] theorem forgetStated_lastStated (s : State) : (forgetStated s).doors.lastStated = false := by
  unfold forgetStated; dsimp only; split <;> simp

/-! ## What the evaluation begins from -/

@[simp] theorem takenInto_table (s t : State) (u : ShareUnit) : (s.takenInto t u).table = t.table := rfl
@[simp] theorem takenInto_doors (s t : State) (u : ShareUnit) : (s.takenInto t u).doors = t.doors := rfl
@[simp] theorem takenInto_overrides (s t : State) (u : ShareUnit) : (s.takenInto t u).overrides = t.overrides := rfl
@[simp] theorem takenInto_defrost (s t : State) (u : ShareUnit) : (s.takenInto t u).defrost = t.defrost := rfl
@[simp] theorem takenInto_member (s t : State) (u : ShareUnit) : (s.takenInto t u).member = t.member := rfl
@[simp] theorem takenInto_share (s t : State) (u : ShareUnit) : (s.takenInto t u).share = u := rfl
@[simp] theorem takenInto_supply (s t : State) (u : ShareUnit) : (s.takenInto t u).supply = s.supply := rfl
@[simp] theorem takenInto_loader (s t : State) (u : ShareUnit) : (s.takenInto t u).loader = s.loader := rfl
@[simp] theorem takenInto_zone (s t : State) (u : ShareUnit) :
    (s.takenInto t u).zone = { s.zone with base := t.zone.base } := rfl
@[simp] theorem takenInto_inFlight (s t : State) (u : ShareUnit) :
    (s.takenInto t u).bus.inFlight = t.bus.inFlight := rfl

/-! ## Silence -/

/-- R154: an age that has run down, or that its event has closed, is that of a silent row. -/
theorem silent_iff (a : Age) : a.silent = true ↔ a.left = none ∨ a.left = some 0 := by
  simp [Age.silent]

end Sys2Proof.Machine
end

