-- ==== Sys2Proof/WellFormed.lean ====
section
/-! DEFINITION. What a command must satisfy beyond its type to be an event that can occur: the checks a frame has
passed before it completes (R162, R163) and the bound on the option memory read (R190). -/

namespace Sys2Proof

/-- A command that the bus and the pins can give. A completed REPORT has 1 to 12 payload bytes (R163); an unknown
kind is 0, 14 or 15 (R162); a frame that is heard begins with its dominant start bit (R162); the whole read is at
most 128 bytes (R190). -/
def Instr.wellFormed : Instr → Bool
  | .report _ _ data => decide (1 ≤ data.length) && decide (data.length ≤ 12)
  | .unknownKindFrame _ _ kind => kind == 0 || kind == 14 || kind == 15
  | .frameError heard => heard.head? == some false
  | .optionReadDone _ bytes => decide (bytes.length ≤ 128)
  | .allowance .. | .lapse .. | .expel .. | .join .. | .status .. | .claim .. | .ret .. | .draft .. | .override ..
  | .cancel .. | .snapshot .. | .query .. | .ownFrameVoid _ | .ownFrameLost | .frameStart | .busIdle | .busIdle2ms
  | .muteTimerExpiry | .censusTimerExpiry _ | .catchUpTimerExpiry _ | .statusPeriodExpiry | .silenceAgeLimit _
  | .leaseTimerExpiry | .claimSpacingExpiry | .returnTimerExpiry | .settleTimerExpiry _ | .rideThroughExpiry _
  | .qualifyTimerExpiry _ | .lineRawChange _ | .lineLevelChange _ | .periodicEvaluation _
  | .stageMinimumTimerExpiry .. | .doorRawChange .. | .doorLevelChange .. | .longOpenExpiry .. | .tailTimerExpiry _
  | .spillTimerExpiry .. | .outdoorAgeExpiry _ | .fogRawChange _ | .fogLevelChange _ | .rampTimerExpiry _
  | .holdTimerExpiry _ | .trimTimerExpiry _ | .slotExpiry .. | .panelSilenceExpiry _ | .statisticsSecond
  | .powerOnReset | .externalReset | .resetRelease _ | .optionReadFailed _ | .startBit => true

end Sys2Proof
end

