-- ==== Sys2Proof/Tests/Slice0.lean ====
section
/-! SUPPORT. Tests: the checks of WellFormed refuse what they must, and the manual's worked values come out, command by
command, from small states. -/

namespace Sys2Proof.Tests

-- One test after the other: many of them at once would each hold a thread of their own while they wait for the kernel.
set_option Elab.async false

open Sys2Proof.Machine

/-! ## WellFormed -/

theorem test_report_needs_a_byte : Instr.wellFormed (.report Sensors.unknown 1 []) = false := by decide
theorem test_report_at_most_twelve : Instr.wellFormed (.report Sensors.unknown 1 (List.replicate 13 0)) = false :=
    by
  decide
theorem test_unknown_kind_is_unknown : Instr.wellFormed (.unknownKindFrame Sensors.unknown 1 3) = false := by decide
theorem test_heard_begins_with_start : Instr.wellFormed (.frameError [true, false]) = false := by decide
theorem test_read_at_most_128 : Instr.wellFormed (.optionReadDone Sensors.unknown (List.replicate 129 0)) = false
    := by
  decide +kernel
theorem test_wellFormed_accepts : Instr.wellFormed (.report Sensors.unknown 1 [4]) = true := by decide

/-! ## A small vehicle: station 0 is the cab, stations 1 and 2 are saloons -/

def tEntry (station : Nat) (role : Role) (dedicated weight : Nat) (neighbours : List Nat) (sizes : List Nat)
    (doorCount doorBoost : Nat) : RosterEntry :=
  { station, role, dedicated, weight, neighbours, baseSetpoint := 40, sizes, gain := 2, doorCount, doorBoost }

def tRoster : List RosterEntry :=
  [tEntry 0 .cab 6 8 [1] [4, 4, 2, 2] 0 0, tEntry 1 .saloon 12 2 [2] [6, 6, 4, 2] 2 4,
    tEntry 2 .saloon 12 1 [1] [6, 6, 4, 2] 2 4]

def tTable : VehicleTable :=
  { check := 0x1234, rideThrough := 1000, returnBatch := 4, returnTimer := 1000, claimSpacing := 2000,
    stageMinimum := 10000, debounce := 40, longOpen := 60000, tailBase := 10000, spillLimit := 60000,
    defrostUnits := 10, trimUnits := 4, clearTemp := 16, autoThreshold := 6, rampLimit := 360000, holdTime :=
        240000,
    trimTime := 180000, counterFreeze := false, attentionMask := 0, roster := tRoster }

def tRow (station : Nat) (role : Role) (dedicated weight borrowed safety owed : Nat) : Row :=
  { station, role, dedicated, weight, state := .present, borrowed, safety, owed }

def tEntryOf (station units : Nat) (rank : Rank) (standing : Nat) : Entry := { station, units, rank, standing }

/-- Chapter 2's starting state: allowance 60, D 30, station 1 waiting for 4 units. -/
def tShares : ShareTable :=
  { rows := [tRow 2 .saloon 12 1 12 0 0, tRow 1 .saloon 12 2 14 0 0, tRow 0 .cab 6 8 2 0 0], allowance := 60,
    fallback := 24, leaseTag := 7, leaseState := .current, overdrawn := false,
    queue := [tEntryOf 1 4 .normal 2] }

def tSensor : AirSensor := { validity := .valid, recovery := 0 }

/-- The front-end codes: zone 17.0 °C, outdoor −18.0 °C, screen −17.0 °C. -/
def tCodes : Sensors := ⟨34, 34, 34, 0xDC, 0xDE⟩

/-- A station of the small vehicle, IN_STEP and LIVE on an idle bus, with nothing on and nothing waiting to be
    sent. -/
def tState (station : BitVec 3) : State :=
  { State.reset with
    pins := { Pins.reset with sensors := tCodes, line := true }
    loader := { phase := .loaded, strap := station, image := [], vt := tTable }
    table := tShares
    supply := { Supply.reset with state := .live, good := true }
    zone := { Zone.reset with
      air0 := tSensor, air1 := tSensor, air2 := tSensor, temp := some 34, setpoint := some 40, base := 12, total :=
          12,
      stages := stagesOf (tRoster.getD station.toNat RosterEntry.blank), period := some 500 }
    doors := { DoorUnit.reset with outdoor := some (-36) }
    member := { Membership.reset with
      state := .inStep, ages := [ageZero 2, ageZero 1, ageZero 0].filter (fun a => a.station != station.toNat) }
    bus := { Bus.reset with idle := true }
    stats := { Stats.reset with second := some 500 } }

/-- The state a command answers; the reset state when it stops (no command does). -/
def tNext (c : Instr) (s : State) : State :=
  match exec c s with
  | .next t => t
  | _ => State.reset

/-- A station with an own frame of a kind in flight. -/
def tSends (kind : TxKind) (b : Bulletin) (s : State) : State :=
  { s with
    bus := { s.bus with
      queue := [{ kind, age := 0 }], inFlight := some { kind, bulletin := b, cls := 5, renewal := none }, idle := false } }

/-- Station, borrowed, safety and owed of every row, in recall order. -/
def tHoldings (t : ShareTable) : List (Nat × Nat × Nat × Nat) :=
  t.rows.map (fun r => (r.station, r.borrowed, r.safety, r.owed))

/-! ## Chapter 1: the falling allowance and the lapse -/

def tShares1 : ShareTable :=
  { rows := recallOrder [tRow 0 .cab 6 8 4 4 0, tRow 1 .saloon 10 2 12 0 0, tRow 2 .saloon 10 1 8 0 0,
      tRow 3 .saloon 8 4 0 0 0]
    allowance := 80, fallback := 20, leaseTag := 41, leaseState := .current, overdrawn := false, queue := [] }

theorem test_recall_order : tShares1.rows.map (·.station) = [2, 1, 3, 0] := by decide
theorem test_pool_and_free : (tShares1.pool, tShares1.free, tShares1.held) = (46, 22, 24) := by decide

def tShares2 : ShareTable := (takeAllowance 2 50 5 20 42 tShares1).table
def tShares3 : ShareTable := (takeAllowance 2 30 5 20 43 tShares2).table

theorem test_allowance_50 : tHoldings tShares2 = [(2, 8, 0, 8), (1, 12, 0, 0), (3, 0, 0, 0), (0, 4, 4, 0)] := by
  decide
theorem test_allowance_50_counts : (takeAllowance 2 50 5 20 42 tShares1).recalled = true := by decide
theorem test_allowance_30 : tHoldings tShares3 = [(2, 8, 0, 8), (1, 12, 0, 12), (3, 0, 0, 0), (0, 4, 4, 4)] := by
  decide
theorem test_curtailed_30 : tShares3.rows.map tShares3.usableOf = [8, 8, 7, 5] := by decide
theorem test_lapse_usable :
    (takeLapse 2 43 tShares3).table.rows.map (takeLapse 2 43 tShares3).table.usableOf = [5, 5, 4, 3] := by decide
theorem test_second_lapse :
    takeLapse 2 43 (takeLapse 2 43 tShares3).table = Taken.nothing (takeLapse 2 43 tShares3).table := by decide

/-! ## Chapter 2: a cab defrost claim forcing a recall -/

def tClaim1 : ShareTable := (takeClaim 2 0 10 1 tShares).table
def tClaim2 : ShareTable := (takeClaim 2 1 6 2 tClaim1).table
def tReturn3 : ShareTable := (takeReturn 2 2 8 0 tClaim2).table
def tAllow4 : ShareTable := (takeAllowance 2 50 5 24 8 tReturn3).table

theorem test_safety_claim : tHoldings tClaim1 = [(2, 12, 0, 8), (1, 14, 0, 0), (0, 2, 0, 0)] := by decide
theorem test_safety_claim_queue : tClaim1.queue = [tEntryOf 0 10 .safety 0, tEntryOf 1 4 .normal 2] := by decide
theorem test_entry_replaced : tClaim2.queue = [tEntryOf 0 10 .safety 0, tEntryOf 1 6 .draft 2] := by decide
theorem test_no_second_recall : tHoldings tClaim2 = tHoldings tClaim1 := by decide
theorem test_return_serves : tHoldings tReturn3 = [(2, 4, 0, 0), (1, 14, 0, 0), (0, 12, 10, 0)] := by decide
theorem test_standing_grows : tReturn3.queue = [tEntryOf 1 6 .draft 4] := by decide
theorem test_allowance_recall : tHoldings tAllow4 = [(2, 4, 0, 4), (1, 14, 0, 6), (0, 12, 10, 0)] := by decide
theorem test_second_pass :
    tHoldings (takeAllowance 2 36 5 24 8 tReturn3).table = [(2, 4, 0, 4), (1, 14, 0, 14), (0, 12, 10, 6)] := by
        decide
theorem test_claim_order :
    queueOrder [tEntryOf 6 1 .draft 9, tEntryOf 4 1 .safety 0, tEntryOf 1 1 .draft 9] =
      [tEntryOf 4 1 .safety 0, tEntryOf 1 1 .draft 9, tEntryOf 6 1 .draft 9] := by decide

/-! ## The bulletins at a station -/

theorem test_lease_bulletins :
    ((tNext (.allowance tCodes 9 60 10 24 8) (tState 2)).share.leaseTimer = some 10000) ∧
      ((tNext (.allowance tCodes 8 60 10 24 8) (tState 2)).table = tShares) ∧
      ((tNext (.lapse tCodes 0 7) (tState 2)).table.queue = []) := by
  decide +kernel

def tStatus : StatusPayload := ⟨4, 0x34, 9, 0, 0, 0, 0, 0, 7, 34, 10, 0xDC⟩

theorem test_status_bulletins :
    (((tNext (.status tCodes 1 tStatus) (tState 2)).stats.counters.repairs, ((tNext (.status tCodes 1 tStatus)
        (tState 2)).table.rowOf 1).borrowed) = (1, 9)) ∧
      ((tNext (.status tCodes 0 { tStatus with borrowed := 2, outdoor := 10 }) (tState 2)).doors.outdoor = some 10)
          := by
  decide +kernel
theorem test_claim_and_return_bulletins :
    (((tNext (.claim tCodes 0 10 1) (tState 2)).stats.counters.recalls, (tNext (.claim tCodes 0 10 1) (tState
        2)).share.aside) = (1, 12)) ∧
      ((tNext (.claim tCodes 0 10 1) (tState 2)).hasTx .ret = true) ∧
      (((tNext (.ret tCodes 1 4 0) (tState 2)).table.rowOf 1).borrowed = 14) := by
  decide +kernel
theorem test_draft_bulletins :
    ((tNext (.draft tCodes 1 1) (tState 2)).doors.spill = [{ station := 1, timer := some 60000 }]) ∧
      ((tNext (.draft tCodes 1 1) (tState 2)).spillFigure = 6) := by
  decide +kernel
theorem test_panel_bulletins :
    (((tNext (.override tCodes 8 1 4 0xFC 3) (tState 2)).zone.setpoint, (tNext (.override tCodes 8 1 4 0xFC 3)
        (tState 2)).zone.pendingFlag) = (some 36, true)) ∧
      ((tNext (.override tCodes 8 1 4 13 3) (tState 2)).overrides.setpointOffset = none) ∧
      ((tNext (.cancel tCodes 8 0 4) (tNext (.override tCodes 8 2 4 0 0) (tState 2))).overrides.fanForce = none) :=
          by
  decide +kernel
theorem test_service_bulletins :
    ((tNext (.snapshot tCodes 12) (tState 2)).stats.snapshot.isSome = true) ∧
      ((tNext (.query tCodes 12 2 1 1) (tState 2)).hasTx .report = true) ∧
      ((tNext (.report tCodes 1 [4]) (tState 2)).table = tShares) := by
  decide +kernel
theorem test_membership_bulletins :
    ((tNext (.expel tCodes 0 1) (tState 2)).table.queue = []) ∧
      ((tNext (.expel tCodes 0 2) (tState 2)).member.state = .joining) ∧
      ((tNext (.join tCodes 1 0x35) (tState 2)).member.state = .mismatched) ∧
      (tHoldings (tNext (.join tCodes 1 0x34) (tState 2)).table = [(2, 12, 0, 0), (1, 0, 0, 0), (0, 2, 0, 0)]) ∧
      ((tNext (.unknownKindFrame tCodes 2 14) (tState 2)).member.state = .clash) := by
  decide +kernel

/-! ## Bus events -/

def tFlying : State := { tState 2 with bus := { (tState 2).bus with queue := [{ kind := .status, age := 0 }] } }

def tStarted : State := tNext .frameStart tFlying

/-- The bits that a station in flight drives, the first of them up to a place, and then others. -/
def tHeard (s : State) (upTo : Nat) (after : List Bool) : List Bool := ((s.frameBits.getD []).take upTo) ++ after

/-- How many of its bits it reads back. -/
def tChecked (s : State) : Nat := (s.bus.inFlight.map (fun f => (s.wireFrame f).checkedBits)).getD 0

theorem test_own_frames :
    (tStarted.flying .status = true) ∧
      (((tNext (.ownFrameVoid (tHeard tStarted (tChecked tStarted) [false])) tStarted).bus.failures,
        (tNext (.ownFrameVoid (tHeard tStarted (tChecked tStarted) [false])) tStarted).stats.counters.linkFails) =
          (1, 1)) ∧
      (((tNext .ownFrameLost tStarted).bus.inFlight, (tNext .ownFrameLost tStarted).hasTx .status) = (none, true)) ∧
      ((tNext .muteTimerExpiry { tState 2 with bus := { (tState 2).bus with
          standing := .mute, mute := some 0 } }).bus.failures = 8) := by
  decide +kernel

/-- Class 5 is 101: a dominant bit read at the second bit of the frame loses it; a recessive start bit, or a wrong bit after
the arbitration, aborts it, and the sixteenth failure brings MUTE. -/
theorem test_read_back :
    ((tNext (.ownFrameVoid [false, false]) tStarted).bus.failures = 0) ∧
      ((tNext (.ownFrameVoid [true]) tStarted).bus.drive = .abort) ∧
      (tStarted.readsBack (tHeard tStarted (tChecked tStarted) [true]) = some .completes) ∧
      (((tNext (.ownFrameVoid (tHeard tStarted 20 [!((tStarted.frameBits.getD []).getD 20 true)]))
          { tStarted with bus := { tStarted.bus with failures := 15 } }).bus.standing,
        (tNext (.ownFrameVoid (tHeard tStarted 20 [!((tStarted.frameBits.getD []).getD 20 true)]))
          { tStarted with bus := { tStarted.bus with failures := 15 } }).bus.drive) = (.mute, .abort)) := by
  decide +kernel

/-- An EXPEL from an address that is no roster station's reaches no block (R169). -/
theorem test_filtered_expel :
    ((tNext (.expel tCodes 12 2) (tState 2)).member.state, (tNext (.expel tCodes 12 2) (tState 2)).table) =
      (.inStep, tShares) := by
  decide +kernel

theorem test_bus_idle :
    ((tNext .busIdle { tState 2 with bus := Bus.reset }).bus.idleWait = some 2) ∧
      ((tNext .busIdle2ms { tState 2 with
          share := { ShareUnit.reset with aside := 1 }, bus := { (tState 2).bus with idleWait := some 0 } }).hasTx .ret = true) ∧
      ((tNext .startBit (tState 2)).bus.idle = false) := by
  decide +kernel

/-- A JOIN frame of station 1 with tag 0x34 at class 5. -/
def tFrame : Frame := { cls := 5, address := 1, kind := 1, payload := [0x34] }

theorem test_frame_received :
    (receive tFrame.bits = .sound tFrame) ∧
      (checkOf (byteBits [0x31, 0x32, 0x33, 0x34, 0x35, 0x36, 0x37, 0x38, 0x39]) = 0x29B1#16) := by
  decide +kernel
theorem test_frame_errors :
    ((tNext (.frameError (tFrame.bits.set 21 (!tFrame.bits.getD 21 false))) (tState 2)).bus.drive ≠ .released) ∧
      ((tNext (.frameError (List.replicate 6 false)) (tState 2)).bus.drive = .errorSignal) := by
  decide +kernel

/-! ## Timers -/

theorem test_membership_timers :
    ((tNext (.censusTimerExpiry tCodes) { tState 2 with member := { (tState 2).member with
        state := .listen, census := some 0 } }).hasTx .join = true) ∧
      ((tNext (.catchUpTimerExpiry tCodes) { tState 2 with
          table := { tShares with leaseState := .noLease }
          member := { (tState 2).member with state := .catchingUp, catchUp := some 0 } }).table.fallback = 30) ∧
      ((tNext .statusPeriodExpiry { tState 2 with member := { (tState 2).member with
          statusPeriod := some 0 } }).hasTx .status = true) ∧
      (((tNext (.silenceAgeLimit 1) (tState 2)).member.expulsion, (tNext (.silenceAgeLimit 1) (tState 2)).hasTx
          .expel) = (some 1, true)) := by
  decide +kernel

/-- Two ages that reach 12 s together, those of stations 1 and 0 in recall order: whichever is carried out first, the row of the
lower number is expelled (R155; entry 23). -/
theorem test_ages_reach_together :
    (let s := { tState 2 with member := { (tState 2).member with
        ages := [{ station := 1, left := some 0 }, { station := 0, left := some 0 }] } };
      (tNext (.silenceAgeLimit 1) s).member.expulsion = some 0 ∧ (tNext (.silenceAgeLimit 0) s).member.expulsion = some 0 ∧
        (match step s with | .next t => t.member.expulsion | _ => none) = some 0) := by
  decide +kernel

/-- R155 in both orders of row 4 of R159 (entry 44): the age of station 1 first, and its frame then withdraws the EXPEL; the frame
first, and the age that begins anew is not at its limit. -/
theorem test_silence_and_frame :
    (let s := tNext (.draft tCodes 1 0) (tNext (.silenceAgeLimit 1) (tState 2));
      (s.member.expulsion, s.hasTx .expel) = (none, false)) ∧
      (let s := tNext (.draft tCodes 1 0) { tState 2 with member := { (tState 2).member with
          ages := [{ station := 1, left := some 1 }] } };
        (s.member.expulsion, s.hasTx .expel, s.member.ages.find? (fun a => a.station == 1)) =
          (none, false, some (ageZero 1))) := by
  decide +kernel
theorem test_share_timers :
    ((tNext .leaseTimerExpiry { tState 2 with share := { ShareUnit.reset with leaseTimer := some 0 } }).spendable =
        12) ∧
      ((tNext .claimSpacingExpiry { tState 1 with
          share := { ShareUnit.reset with spacingTimer := some 0 }, zone := { (tState 1).zone with base := 27 } }).share.spacingTimer = none) ∧
      ((tNext .returnTimerExpiry { tState 2 with share := { ShareUnit.reset with
          aside := 2, returnTimer := .running 0 } }).hasTx .ret = true) := by
  decide +kernel
theorem test_supply_events :
    ((tNext (.settleTimerExpiry tCodes) { tState 2 with supply := { Supply.reset with
        good := true, settle := some 0 } }).supply.state = .live) ∧
      ((tNext (.rideThroughExpiry tCodes) { tState 2 with supply := { Supply.reset with
          state := .rideThrough, rideThrough := some 0 } }).share.commit = 12) ∧
      ((tNext (.qualifyTimerExpiry tCodes) { tState 2 with supply := { Supply.reset with
          state := .shed, good := true, qualify := some 0 } }).supply.state = .live) ∧
      ((tNext (.lineRawChange false) (tState 2)).supply.debounce = some 10) ∧
      ((tNext (.lineLevelChange tCodes) (tNext (.lineRawChange false) (tState 2))).supply.state = .rideThrough) :=
          by
  decide +kernel
theorem test_wanted_14 :
    wantedFrom 14 0 [⟨6, false, .clear⟩, ⟨6, false, .clear⟩, ⟨4, false, .clear⟩, ⟨2, false, .clear⟩]
      = [true, true, false, true] := by decide
theorem test_zone_events :
    ((tNext (.periodicEvaluation tCodes) (tState 2)).zone.stages.map (·.on) = [true, true, false, false]) ∧
      (((tNext (.stageMinimumTimerExpiry tCodes 3) { tState 2 with zone := { (tState 2).zone with
          stages := (tState 2).zone.stages.set 3 ⟨2, false, .afterOff 0⟩
              } }).zone.stages.getD 3 Stage.reset).timer = .clear) := by
  decide +kernel
theorem test_median : zoneTempOf (some 33) (some 34) (some 32) = some 33 := by decide
theorem test_lower_of_two : zoneTempOf (some 35) none (some 34) = some 34 := by decide

/-! ## Doors -/

def tDoorShut : State :=
  { tState 2 with
    doors := { (tState 2).doors with
      door0 := { state := .closed, level := some .shut, debounce := none, longOpen := none } } }

def tDoorOpen : State := tNext (.doorLevelChange tCodes 0) (tNext (.doorRawChange 0 true) tDoorShut)

theorem test_door_events :
    ((tNext (.doorRawChange 0 true) tDoorShut).doors.door0.debounce = some 40) ∧
      ((tDoorOpen.doors.oneShot, tDoorOpen.boost, tDoorOpen.zone.fan, tDoorOpen.hasTx .draft) = (.held, 12, 3,
          true)) ∧
      ((tNext (.doorLevelChange tCodes 0) (tNext (.doorRawChange 0 false) tDoorOpen)).doors.tail = some 30000) ∧
      ((tNext (.longOpenExpiry tCodes 0) tDoorOpen).doors.oneShot = .idle) ∧
      ((tNext (.doorLevelChange tCodes 0) (tNext (.doorRawChange 0 true) (tState 2))).stats.counters.door0Opens =
          0) := by
  decide +kernel

/-- Demand 14 and 8 of a capacity of 18, and the door opening, with the levels of chapters 4 and 5; a forced level is not in the
report (R143). -/
theorem test_zone_report_tells_fan :
    (let report := fun s : State => s.reportBytes { item := .zone, row := 0, clear := false, part := 0 };
      let demands := fun total => { tState 2 with zone := { (tState 2).zone with total } };
      [report (demands 14), report (demands 8), report tDoorOpen,
        report { tState 2 with overrides := { Overrides.reset with fanForce := some ⟨0, none⟩ } }].map (fanRead 18) =
        [some 2, some 1, some 3, none]) := by
  decide +kernel
theorem test_door_timers :
    ((tNext (.tailTimerExpiry tCodes) { tState 2 with doors := { (tState 2).doors with
        oneShot := .tail, tail := some 0 } }).doors.oneShot = .idle) ∧
      ((tNext (.spillTimerExpiry tCodes 1) { tState 2 with doors := { (tState 2).doors with
          spill := [{ station := 1, timer := some 0 }] } }).doors.spill = []) ∧
      ((tNext (.outdoorAgeExpiry tCodes) { tState 2 with doors := { (tState 2).doors with
          outdoor := some 20, outdoorAge := some 0 } }).factor = 3) := by
  decide +kernel

/-! ## Defrost -/

theorem test_fog_events :
    ((tNext (.fogRawChange true) (tState 0)).defrost.fogDebounce = some 1000) ∧
      ((tNext (.fogLevelChange tCodes) (tNext (.fogRawChange true) (tState 0))).defrost.state = .waiting) ∧
      ((tNext (.fogLevelChange tCodes) (tNext (.fogRawChange true) (tState 0))).share.wishRank = .safety) := by
  decide +kernel

def tPhase (state : DefrostState) (fog : Bool) : State :=
  { tState 0 with defrost := { Defrost.reset with state, phase := some 0, fog } }

theorem test_defrost_timers :
    (((tNext (.rampTimerExpiry tCodes) (tPhase .ramp true)).defrost.state, (tNext (.rampTimerExpiry tCodes) (tPhase
        .ramp true)).stats.flags.rampTimeout) = (.hold, true)) ∧
      ((tNext (.holdTimerExpiry tCodes) (tPhase .hold false)).defrost.state = .trim) ∧
      ((tNext (.holdTimerExpiry tCodes) (tPhase .hold true)).defrost.phase = some 240000) ∧
      ((tNext (.trimTimerExpiry tCodes) (tPhase .trim false)).defrost.state = .off) := by
  decide +kernel

/-! ## Overrides and statistics -/

theorem test_override_timers :
    ((tNext (.slotExpiry tCodes .fanForce) { tState 2 with overrides := { Overrides.reset with
        fanForce := some ⟨0, some 0⟩ } }).overrides.fanForce = none) ∧
      ((tNext (.panelSilenceExpiry tCodes) { tState 2 with overrides := { Overrides.reset with
          fanForce := some ⟨0, none⟩, economy := some ⟨(), some 7⟩, panelSilence := some 0
              } }).overrides = { Overrides.reset with economy := some ⟨(), some 7⟩ }) := by
  decide +kernel
theorem test_freeze_full : bumped true 1 (0xFF#8) = 0xFF#8 := by decide
theorem test_wrap_full : (marksOf false 1 (0xFF#8)).full = true := by decide
theorem test_half_mark : (marksOf false 1 (0x7F#8)).half = true := by decide

/-! ## Resets and the load -/

/-- A vehicle table with two roster entries, in the layout of R203, with its check. -/
def tImage : List Byte :=
  [0x85, 0x6F, 2, 2, 2, 1, 1, 1, 1, 60, 1, 60, 10, 4, 16, 6, 6, 4, 3, 0, 0, 0,
    0, 0xC4, 6, 0xFF, 0xFF, 40, 0x44, 0x22, 0, 1, 0x26, 12, 0xFF, 0xFF, 40, 0x66, 0x42, 4]

theorem test_load_table_check : tableCheck tImage = 0x856F#16 := by decide +kernel

def tReading : State := tNext (.resetRelease 1) (tNext (.lineRawChange true) State.reset)

theorem test_start_up :
    ((tReading.loader.strap, tReading.loader.phase, tReading.supply.debounce) = (1, .reading, some 10)) ∧
      (((tNext (.optionReadDone tCodes tImage) tReading).member.state, (tNext (.optionReadDone tCodes tImage)
          tReading).supply.settle) = (.listen, some 3000)) ∧
      ((tNext (.optionReadDone tCodes (tImage.set 9 61)) tReading).member.state = .unconfigured) ∧
      ((tNext (.optionReadFailed .noAcknowledge) tReading).fault = true) := by
  decide +kernel
theorem test_resets :
    ((tNext .externalReset (tNext .statisticsSecond (tState 1))).stats.counters.waitSeconds = 1) ∧
      ((tNext .powerOnReset (tNext .statisticsSecond (tState 1))).stats.counters = Counters.zero) := by
  decide +kernel

/-! ## Steps -/

theorem test_step_front : step { tState 2 with pending := [.startBit] } = exec .startBit (tState 2) := by rfl
theorem test_seconds :
    ((tNext .statisticsSecond (tState 1)).stats.counters.waitSeconds = 1) ∧
      ((match step (tState 2) with | .next t => t.stats.second | _ => none) = some 499) := by
  decide +kernel

/-! ## Witnesses: for each obligation with hypotheses, a state and operands that meet all of them, clause by clause -/

theorem witness_StepRunsFrontCommand :
    ({ tState 2 with pending := [.startBit] } : State).pending = .startBit :: [] := by rfl

theorem witness_EmptyQueueStep :
    (tFlying.pending = [] ∧ tFlying.nextDue = some .frameStart) ∧
      (tState 2).pending = [] ∧ (tState 2).nextDue = none := by decide

/-- A second with 1 ms left is not due; a millisecond later it is. -/
theorem witness_EmptyQueueStep_due :
    let s := { tState 2 with stats := { (tState 2).stats with second := some 1 } };
    (s.mayStart = false ∧ s.dueExpiries = []) ∧ (passMillisecond s).dueExpiries = [.statisticsSecond] ∧
      (passMillisecond s).zone.period = some 499 ∧ tFlying.mayStart = true := by decide

theorem witness_CommandsCompleteAndKeepTheLoad : startsUp .startBit = false := by rfl

theorem witness_PoolSizeByLease :
    tShares.leaseState = .current ∧ ({ tShares with leaseState := .lapsed } : ShareTable).leaseState = .lapsed ∧
      ShareTable.empty.leaseState = .noLease ∧ (tShares.rows.map (·.dedicated)).sum = tShares.reserved := by decide

theorem witness_FirstPassGivesInRecallOrder :
    tShares.rows = [tRow 2 .saloon 12 1 12 0 0] ++ tRow 1 .saloon 12 2 14 0 0 :: [tRow 0 .cab 6 8 2 0 0] ∧
      (tRoster.map (·.station)).Nodup := by decide

/-- An excess that the first pass meets, and one that needs the second. -/
theorem witness_AllowanceRecallMeetsPool :
    RowsLaw tShares ∧ RowsLaw tShares3 ∧
      (let t := tReturn3.storeLease 50 24 8;
        0 < t.held - t.pool ∧ t.held - t.pool ≤ (t.rows.map (fun x => x.borrowed - x.safety - x.owed)).sum) ∧
      (let t := tReturn3.storeLease 36 24 8;
        (t.rows.map (fun x => x.borrowed - x.safety - x.owed)).sum < t.held - t.pool ∧
          t.rows = [] ++ tRow 2 .saloon 12 1 4 0 0 :: [tRow 1 .saloon 12 2 14 0 0, tRow 0 .cab 6 8 12 10 0]) := by
  decide

/-- An empty queue, a head that fits exactly, a NORMAL head that does not, and a SAFETY head that recalls. -/
theorem witness_ServiceRoundServesTheHead :
    ({ tShares with queue := [] } : ShareTable).queue = [] ∧
      (({ tShares with queue := [tEntryOf 1 2 .normal 0] } : ShareTable).free = 2 ∧ tShares.overdrawn = false) ∧
      (tShares.queue = tEntryOf 1 4 .normal 2 :: [] ∧ tShares.free < 4) ∧
      tClaim1.queue = tEntryOf 0 10 .safety 0 :: [tEntryOf 1 4 .normal 2] ∧ tClaim1.free < 10 ∧
      tClaim1.leaseState = .current := by decide

/-- An allowance above D, and allowance and fallback below it. -/
theorem witness_UsableAndHeldWithinAllowance :
    HeldLaw tShares ∧ tShares.leaseState = .current ∧ tShares.reserved ≤ tShares.allowance ∧
      tShares3.leaseState = .current ∧ tShares3.allowance < tShares3.reserved ∧
      (takeLapse 2 43 tShares3).table.leaseState = .lapsed ∧
      (takeLapse 2 43 tShares3).table.fallback < (takeLapse 2 43 tShares3).table.reserved ∧
      ({ tShares with leaseState := .lapsed, fallback := 30 } : ShareTable).reserved ≤ 30 ∧
      ShareTable.empty.leaseState = .noLease := by decide

/-- For each kind of taking that can call for an evaluation, one that does: a recall, a change of membership state, a grant, a
spill figure. -/
theorem witness_TakingEvaluated :
    (∀ c ∈ [Instr.allowance tCodes 9 36 5 24 8, .lapse tCodes 0 7, .claim tCodes 0 10 1],
        (tState 2).ownRow.owed < (tNext c (tState 2)).ownRow.owed ∧ (tNext c (tState 2)).zone.temp = some 34) ∧
      (∀ c ∈ [Instr.expel tCodes 0 2, .join tCodes 1 0x35, .status tCodes 1 { tStatus with tag := 0x35 }],
        (tNext c (tState 2)).member.state ≠ (tState 2).member.state ∧ (tNext c (tState 2)).zone.temp = some 34) ∧
      (let c := Instr.ret tCodes 2 4 0;
        (tState 1).ownFrame 2 (.ret 4 0) = none ∧ (tState 1).ownRow.borrowed < (tNext c (tState 1)).ownRow.borrowed) ∧
      (tNext (.draft tCodes 1 1) (tState 2)).spillFigure ≠ (tState 2).spillFigure := by decide +kernel

/-- Lease times 1 and 10, the bounds, are accepted; 0, 11 and tag 0 are not. -/
theorem witness_AllowanceTaken :
    (tState 2).running = true ∧ allowanceValid 1 8 = true ∧ allowanceValid 10 8 = true ∧ allowanceValid 0 8 = false ∧
      allowanceValid 11 8 = false ∧ allowanceValid 5 0 = false ∧ FlagLaw (tState 2).table ∧
      RowsLaw (tState 2).table ∧
      (let s := { tPhase .hold true with table := tReturn3 }; let t := tNext (.allowance tCodes 9 36 5 24 8) s;
        RowsLaw s.table ∧ s.isCab = true ∧ s.ownRow.owed < t.ownRow.owed ∧ t.safetyHeld < s.safetyKept ∧
          t.safetyHeld < s.loader.vt.defrostUnits) := by decide +kernel

theorem witness_LapseTaken :
    (tState 2).running = true ∧ (tState 2).passes (0 : BitVec 4).toNat (.lapse 7) = true ∧
      (tState 2).hears 0 (.lapse 7) ∧ (tState 2).table.leaseState = .current ∧ (tState 2).table.leaseTag = 7 ∧
      RowsLaw (tState 2).table ∧ FlagLaw (tState 2).table ∧ (tState 2).table.leaseTag ≠ 8 ∧
      (0 : BitVec 4).toNat ≠ (tState 2).me ∧ (tPhase .off true).isCab = true ∧ (tPhase .off true).defrost.state = .off ∧
      (tPhase .trim true).defrost.state = .trim := by decide

theorem witness_ExpelTaken :
    (tState 2).running = true ∧ (tState 2).passes (0 : BitVec 4).toNat (.expel 1) = true ∧
      (tState 2).hears 0 (.expel 1) ∧ (tState 2).table.row? 1 = some (tRow 1 .saloon 12 2 14 0 0) ∧
      ((tState 2).table.row? 5).all (fun r => r.state == .absent) = true ∧ RowsLaw (tState 2).table ∧
      (0 : BitVec 4).toNat ≠ (tState 2).me := by decide

theorem witness_JoinTaken :
    (tState 2).running = true ∧ (tState 2).passes (1 : BitVec 4).toNat (.join 0x34) = true ∧
      (tState 2).hears 1 (.join 0x34) ∧ (tState 2).tag = 0x34 ∧
      (tState 2).table.row? 1 = some (tRow 1 .saloon 12 2 14 0 0) ∧ (0x35 : Byte) ≠ (tState 2).tag := by decide

/-- An active boost is stated again when the own JOIN, or an EXPEL naming the station, has made the last stated activity "no"
(R104). -/
theorem test_last_stated :
    (let active := fun s : State => { s with doors := { s.doors with oneShot := .held, lastStated := true } };
      let joined := tNext (.join tCodes 2 0x34) (active (tSends .join (.join 0x34)
        { tState 2 with member := { (tState 2).member with state := .joining } }));
      let expelled := tNext (.expel tCodes 0 2) (active (tState 2));
      let other := tNext (.expel tCodes 0 1) (active (tState 2));
      (joined.doors.lastStated, joined.hasTx .draft, expelled.doors.lastStated, expelled.hasTx .draft,
        other.doors.lastStated, other.hasTx .draft) = (false, true, false, true, true, false)) := by decide +kernel

/-- With another tag the sender's units go round, in which the own entry of station 1 is granted where it fits (entry 45), and so do
those that the own entry no longer asks for (R152). -/
theorem test_other_tag_rounds :
    (let t := tNext (.join tCodes 0 0x35) (tState 1); (tState 1).table.rowInUse 0 = true ∧
        (tHoldings t.table, t.table.queue) = ([(2, 12, 0, 0), (1, 18, 0, 0), (0, 0, 0, 0)], [])) ∧
      (let s := { tState 1 with table := { tClaim2 with queue := [tEntryOf 1 30 .draft 2, tEntryOf 2 2 .normal 0] } };
        let t := tNext (.status tCodes 0 { tStatus with tag := 0x35 }) s; s.table.hasEntry 0 = false ∧
        (t.table.queue, t.table.hasEntry 1, (t.table.rowOf 2).borrowed) = ([], false, 14)) := by decide +kernel

/-- Station 2 still catching up, with some stations heard. -/
def tCatching (heard : List Heard) : State :=
  { tState 2 with member := { (tState 2).member with state := .catchingUp, catchUp := some 9, leaseNews := true, heard } }

/-- An own-tag statement in range; the same with safety above borrowed; one with another tag; one of the cab; and in
CATCHING_UP one that completes the heard set and one that does not. -/
theorem witness_StatusTaken :
    (tState 2).running = true ∧ (tState 2).passes (1 : BitVec 4).toNat (.status tStatus) = true ∧
      (tState 2).hears 1 (.status tStatus) ∧ (tState 2).table.row? 1 = some (tRow 1 .saloon 12 2 14 0 0) ∧
      tStatus.tag = (tState 2).tag ∧ statementInRange (tRow 1 .saloon 12 2 14 0 0) tStatus = true ∧
      statementInRange (tRow 1 .saloon 12 2 14 0 0) { tStatus with safety := 10 } = false ∧
      ({ tStatus with tag := 0x35 } : StatusPayload).tag ≠ (tState 2).tag ∧
      (tState 2).isCab = false ∧ (tState 2).cabStation = some (0 : BitVec 4).toNat ∧ (tState 0).isCab = true ∧
      FlagLaw (tState 2).table ∧ (tCatching []).member.state = .catchingUp ∧ (1 : BitVec 4).toNat ≠ (tState 2).me := by
  decide

/-- Another table tag takes the sender's spill entry with it (R106). -/
theorem test_status_spill :
    (let s := { tState 2 with doors := { (tState 2).doors with spill := [{ station := 1, timer := some 9 }] } };
      (tNext (.status tCodes 1 { tStatus with tag := 0x35 }) s).doors.spill = [] ∧
        (tNext (.status tCodes 1 tStatus) s).doors.spill = s.doors.spill) := by decide +kernel

theorem witness_StatusTaken_catching :
    (tNext (.status tCodes 1 tStatus) (tCatching [⟨0, false⟩])).member.state = .inStep ∧
      (tNext (.status tCodes 1 tStatus) (tCatching [])).member.state = .catchingUp := by decide +kernel

/-- With every other PRESENT station heard, catch-up ends at a taking of any kind, and a lease that has expired locally queues a
LAPSE, which an ALLOWANCE rules out (R148, R149). -/
theorem test_catch_up_at_any_taking :
    (let s := tCatching [⟨0, false⟩, ⟨1, false⟩];
      let expired := { s with share := { s.share with leaseExpired := true } };
      (∀ c ∈ [Instr.draft tCodes 1 0, .snapshot tCodes 12, .query tCodes 12 2 1 0, .override tCodes 8 3 1 0 0,
          .report tCodes 1 [4]],
        (tNext c expired).member.state = .inStep ∧ (tNext c expired).hasTx .lapse = true) ∧
      (tNext (.allowance tCodes 9 60 10 24 8) expired).member.state = .inStep ∧
      (tNext (.allowance tCodes 9 60 10 24 8) expired).hasTx .lapse = false ∧
      (tNext (.expel tCodes 0 1) (tCatching [⟨0, false⟩])).member.state = .inStep) := by decide +kernel

/-- An own STATUS restarts its period (R151); an ALLOWANCE and an applying LAPSE drop an own LAPSE that waits (R55). -/
theorem test_status_period_and_waiting_lapse :
    ((tNext (.status tCodes 2 tStatus) (tSends .status (.status tStatus) (tState 2))).member.statusPeriod = some 2000) ∧
      (let s := { tState 2 with bus := { (tState 2).bus with queue := [{ kind := .lapse, age := 0 }] } };
        (s.flying .lapse, (tNext (.allowance tCodes 9 60 10 24 8) s).hasTx .lapse, (tNext (.lapse tCodes 0 7) s).hasTx .lapse,
          (tNext (.lapse tCodes 0 6) s).hasTx .lapse) = (false, false, false, true)) := by decide +kernel

/-- 0, 63 and 64 units; a SAFETY claim of the cab and of a saloon. -/
theorem witness_ClaimTaken :
    (tState 2).running = true ∧ (tState 2).passes (0 : BitVec 4).toNat (.claim 63 1) = true ∧
      (tState 2).hears 0 (.claim 63 1) ∧ (tState 2).table.row? 0 = some (tRow 0 .cab 6 8 2 0 0) ∧
      claimRank (tRow 0 .cab 6 8 2 0 0) 63 1 = some .safety ∧ claimRank (tRow 0 .cab 6 8 2 0 0) 64 1 = none ∧
      claimRank (tRow 1 .saloon 12 2 14 0 0) 1 1 = none ∧ (0 : Byte).toNat ≤ 63 ∧ FlagLaw (tState 2).table ∧
      RowsLaw (tState 2).table ∧ (0 : BitVec 4).toNat ≠ (tState 2).me ∧
      (tState 2).ownRow.owed < (tNext (.claim tCodes 0 10 1) (tState 2)).ownRow.owed := by decide +kernel

/-- The cab in HOLD with a RETURN of 1 unit in flight; the service round recalls own units for its SAFETY entry. -/
def tReturningHold : State :=
  tSends .ret (.ret 1 0) { tPhase .hold true with
    table := { tShares with
      rows := [tRow 2 .saloon 12 1 0 0 0, tRow 1 .saloon 12 2 0 0 0, tRow 0 .cab 6 8 4 0 0]
      allowance := 40, queue := [tEntryOf 0 10 .safety 0] } }

/-- The own RETURN leaves the state as it stands, also when its round recalls own units (R119). -/
theorem test_own_return_keeps_hold :
    (let t := tNext (.ret tCodes 0 1 0) tReturningHold;
      t.ownRow.owed = 3 ∧ t.safetyHeld < tReturningHold.safetyKept ∧ t.defrost = tReturningHold.defrost) := by
  decide +kernel

theorem witness_ReturnTaken :
    tReturningHold.running = true ∧ tReturningHold.passes (0 : BitVec 4).toNat (.ret 1 0) = true ∧
      (tReturningHold.ownFrame 0 (.ret 1 0)).isSome = true ∧ tReturningHold.isCab = true ∧
      tReturningHold.defrost.state = .hold ∧
      (let s := tSends .ret (.ret 1 0) { tPhase .waiting true with table := tReturn3 };
        (s.ownFrame 0 (.ret 1 0)).isSome = true ∧ s.defrost.state = .waiting ∧
          s.loader.vt.defrostUnits ≤ (tNext (.ret tCodes 0 1 0) s).safetyHeld) ∧
    (tState 2).running = true ∧ (tState 2).passes (1 : BitVec 4).toNat (.ret 4 4) = true ∧
      (tState 2).hears 1 (.ret 4 4) ∧ (tState 2).table.row? 1 = some (tRow 1 .saloon 12 2 14 0 0) ∧
      (4 : Byte).toNat ≤ (4 : Byte).toNat ∧ (3 : Byte).toNat < (4 : Byte).toNat ∧ FlagLaw (tState 2).table ∧
      RowsLaw (tState 2).table ∧ (1 : BitVec 4).toNat ≠ (tState 2).me ∧
      (let s := { tPhase .waiting true with table := tClaim2 };
        s.isCab = true ∧ s.defrost.state = .waiting ∧
          s.loader.vt.defrostUnits ≤ (tNext (.ret tCodes 2 8 0) s).safetyHeld) := by decide +kernel

/-- The own RETURN lowers owed before a recall of its round raises it again, and that is one for RECALLS (R44). -/
theorem test_recall_beside_own_return :
    (let t := tNext (.ret tCodes 0 1 0) tReturningHold;
      tReturningHold.ownRow.owed - min 1 tReturningHold.ownRow.owed < t.ownRow.owed ∧ t.stats.counters.recalls = 1) := by
  decide +kernel

/-- From a neighbour, and from a station that is none. -/
theorem witness_DraftTaken :
    (tState 2).running = true ∧ (tState 2).passes (1 : BitVec 4).toNat (.draft 1) = true ∧
      (tState 2).hears 1 (.draft 1) ∧ (tState 2).entry.neighbours.contains 1 = true ∧ 1 ≠ (tState 2).me ∧
      ((tState 2).table.rowOf 1).state ≠ .mismatched ∧ (tState 2).entry.neighbours.contains 0 = false := by decide

/-- A filled slot that moves the setpoint sets the pending flag, one that leaves it does not (R70); a value out of range, an unknown
kind and a mask without the station fill none. -/
theorem witness_OverrideTaken_pending :
    (((tState 2).overrides.filled (tState 2).isCab .setpointOffset 0xFC 3).isSome = true ∧
        (tState 2).overrides.filled (tState 2).isCab .setpointOffset 13 3 = none ∧ overrideKindOf 7 = none ∧
        maskHas 1 (tState 2).me = false) ∧
      ((tNext (.override tCodes 8 1 4 0xFC 3) (tState 2)).zone.pendingFlag,
        (tNext (.override tCodes 8 1 4 0 3) (tState 2)).zone.pendingFlag,
        (tNext (.override tCodes 8 1 4 13 3) (tState 2)).zone.pendingFlag) = (true, false, false) := by decide +kernel

/-- Offsets −12 and 12 are the bounds; the mask names station 2. ECONOMY with a NORMAL entry waiting; and at the cab the three
modes, from OFF fogged and clear and from TRIM. -/
theorem witness_OverrideTaken :
    ((tState 2).running = true ∧ maskHas 4 (tState 2).me = true ∧ (12 : Byte).toInt = 12 ∧
        (0xF4 : Byte).toInt = -12 ∧ (3 : Byte).toNat ≤ 3 ∧ BoostLaw (tState 2)) ∧
      ((tState 1).inStep = true ∧ (tState 1).ownEntry = some (tEntryOf 1 4 .normal 2) ∧
        (tNext (.override tCodes 8 5 2 0 0) (tState 1)).claimFigure = 0 ∧
        (tNext (.override tCodes 8 5 2 0 0) (tState 1)).draftActive = false) ∧
      (maskHas 1 (tState 0).me = true ∧ (tState 0).isCab = true ∧ (tState 0).defrostMode = .auto ∧
        (tState 0).defrost.state = .off ∧ (tState 0).live = true ∧
        (tState 0).safetyHeld < (tState 0).loader.vt.defrostUnits ∧ (tState 0).defrost.fog = false ∧
        (tPhase .trim false).defrost.state = .trim ∧ (tPhase .off true).defrost.fog = true ∧
        (tPhase .off true).coldOutside = true ∧
        ({ tState 0 with
          overrides := { Overrides.reset with defrostMode := some ⟨.max, none⟩ } } : State).defrostMode = .max) := by
  decide +kernel

/-- A station with a slot that changes what it does; and the cab in OFF, fogged and cold, held there by a mode of OFF. -/
theorem witness_CancelTaken :
    (tState 2).running = true ∧ maskHas 4 (tState 2).me = true ∧
      (let s := { tState 2 with overrides := { Overrides.reset with fanForce := some ⟨3, none⟩ } };
        (tNext (.cancel tCodes 8 2 4) s).overrides.fanForce ≠ s.overrides.fanForce) ∧
      (let s := { tPhase .off true with overrides := { Overrides.reset with defrostMode := some ⟨.off, none⟩ } };
        let t := tNext (.cancel tCodes 8 6 1) s;
        s.isCab = true ∧ s.defrost.state = .off ∧ t.defrostMode ≠ s.defrostMode ∧
          DefrostWanted { s with overrides := t.overrides } ∧ s.live = true ∧ s.member.state ≠ .clash ∧
          s.safetyHeld < s.loader.vt.defrostUnits ∧ t.defrost.state = .waiting) := by decide +kernel

/-- An accepted QUERY; and one of an unknown item, one for another station and one for a row that is none. -/
theorem witness_SnapshotAndQueryTaken :
    (tState 2).running = true ∧ 8 ≤ (8 : BitVec 4).toNat ∧ reportItemOf 5 = some .row ∧ (2 : Byte).toNat = (tState 2).me ∧
      ((tState 2).table.row? ((0x10 : Byte).toNat / 16 % 8)).isSome = true ∧ (tState 2).member.state = .inStep ∧
      reportItemOf 7 = none ∧ (3 : Byte).toNat ≠ (tState 2).me ∧
      (tState 2).table.row? ((0x70 : Byte).toNat / 16 % 8) = none := by decide

def tOwnReport : ReportInFlight :=
  { request := { item := .snapshot, row := 0, clear := false, part := 3 }, part := 3, counters := Counters.zero,
    since := Attention.clear, replaced := false }

def tReporting : State :=
  tSends .report (.report [4]) { tState 2 with
    stats := { (tState 2).stats with request := some tOwnReport.request, inFlight := some tOwnReport } }

/-- An own REPORT in flight; a clearing one of a page and of the zone. -/
theorem witness_ReportTaken :
    (tReporting.running = true ∧ tReporting.passes (2 : BitVec 4).toNat (.report [4]) = true ∧
        tReporting.hears 2 (.report [4]) ∧ (tReporting.ownFrame 2 (.report [4])).isSome = true ∧
        tReporting.stats.inFlight = some tOwnReport) ∧
      (∀ item ∈ [ReportItem.page0, .page1, .zone],
        (({ tReporting with
          stats := { tReporting.stats with
            inFlight := some { tOwnReport with request := { item, row := 0, clear := true, part := 0 } } } } :
              State).ownFrame 2 (.report [4])).isSome = true) ∧
      (tState 2).passes (1 : BitVec 4).toNat (.report [4]) = true ∧ (tState 2).ownFrame 1 (.report [4]) = none := by
  decide

/-- Parts 1 and 2 of a snapshot that no QUERY has replaced are followed by the next part's REPORT (R187); a QUERY in the flight
replaces the request (R184), and a mark and a ramp timeout in the flight are noted (R185). -/
theorem witness_ReportTaken_flight :
    (∀ part ∈ [1, 2],
        let f : ReportInFlight := { tOwnReport with request := { tOwnReport.request with part }, part };
        let s := { tReporting with stats := { tReporting.stats with request := some f.request, inFlight := some f } };
        let t := tNext (.report tCodes 2 [4]) s;
        f.replaced = false ∧ s.stats.request = some f.request ∧ s.member.state ≠ .clash ∧ t.hasTx .report = true ∧
          t.stats.request = some { f.request with part := part + 1 }) ∧
      (tNext (.query tCodes 12 2 1 0) tReporting).stats.inFlight = some { tOwnReport with replaced := true } ∧
      (let st := { tReporting.stats with counters := { Counters.zero with repairs := 0x7F } };
        (st.count tTable .repairs 1).inFlight = some { tOwnReport with since := { Attention.clear with half0 := true } }) ∧
      (let s := { tPhase .ramp true with stats := tReporting.stats };
        (tNext (.rampTimerExpiry tCodes) s).stats.inFlight =
          some { tOwnReport with since := { Attention.clear with rampTimeout := true } }) := by decide +kernel

/-- Counters of a clearing report at its frame start, and what they stand at when it completes. -/
def tCarried : Counters := { Counters.zero with energy := 10, recalls := 1, door0Opens := 5 }
def tLive : Counters := { Counters.zero with energy := 16, recalls := 1, door0Opens := 9 }

/-- Station 2 with a clearing report of a page in flight. -/
def tClearing (item : ReportItem) : State :=
  { tReporting with
    stats := { tReporting.stats with
      counters := tLive
      inFlight := some { tOwnReport with
        request := { item, row := 0, clear := true, part := 0 }, counters := tCarried } } }

/-- A clearing read keeps what came after its frame start and leaves the other page (R185). -/
theorem test_clearing_read :
    (tNext (.report tCodes 2 [4]) (tClearing .page0)).stats.counters =
        { Counters.zero with energy := 6, recalls := 0, door0Opens := 9 } ∧
      (tNext (.report tCodes 2 [4]) (tClearing .page1)).stats.counters =
        { Counters.zero with energy := 16, recalls := 1, door0Opens := 4 } := by decide +kernel

/-- A frame of an unknown kind from another station, one from an address that is no roster station's, and CLASH. -/
theorem witness_FilteredFrameChangesNoBlock :
    frameOf (.unknownKindFrame tCodes 1 14) = some (tCodes, 1, .unknown 14) ∧ (tState 2).running = true ∧
      (tState 2).passes (1 : BitVec 4).toNat (.unknown 14) = false ∧ (1 : BitVec 4).toNat ≠ (tState 2).me ∧
      (tState 2).ownFrame (1 : BitVec 4).toNat (.unknown 14) = none ∧ (tState 2).flying .expel = false ∧
      (tState 2).passes (9 : BitVec 4).toNat (.override 1 4 0 0) = false ∧
      (tState 2).passes (12 : BitVec 4).toNat (.expel 2) = false ∧
      (tState 2).passes (8 : BitVec 4).toNat (.report [4]) = false ∧
      ({ tState 2 with member := { (tState 2).member with state := .clash } } : State).running = true := by decide

/-- A frame that passes, from a station whose age has run out and that is the pending expulsion. -/
theorem witness_FilteredFrameChangesNoBlock_passes :
    let s := { tState 2 with member := { (tState 2).member with
      expulsion := some 1, ages := [{ station := 1, left := none }, { station := 0, left := some 5 }] } };
    s.running = true ∧ s.passes (1 : BitVec 4).toNat (.draft 1) = true ∧ s.flying .expel = false ∧
      (tNext (.draft tCodes 1 1) s).member.ages = [ageZero 1, { station := 0, left := some 5 }] ∧
      (tNext (.draft tCodes 1 1) s).member.expulsion = none := by decide +kernel

theorem witness_FrameLeavesOtherBlocksAlone :
    frameOf (.draft tCodes 1 1) = some (tCodes, 1, .draft 1) ∧ (Bulletin.draft 1).forTable = false ∧
      State.reset.running = false := by decide

theorem witness_ForeignOwnAddressBringsClash :
    frameOf (.unknownKindFrame tCodes 2 0) = some (tCodes, 2, .unknown 0) ∧ (tState 2).running = true ∧
      (2 : BitVec 4).toNat = (tState 2).me ∧ (tState 2).ownFrame 2 (.unknown 0) = none ∧
      (tState 2).member.state ≠ .clash := by decide

/-- Station 2 with every timer of the membership unit and the share unit run out. -/
def tTimed : State :=
  { tState 2 with
    member := { (tState 2).member with
      census := some 0, catchUp := some 0, statusPeriod := some 0, ages := [{ station := 1, left := some 0 }] }
    share := { ShareUnit.reset with
      aside := 1, leaseTimer := some 0, spacingTimer := some 0, returnTimer := .running 0 } }

def tJoining : State :=
  tSends .join (.join 0x34) { tState 2 with member := { (tState 2).member with state := .joining } }

theorem witness_CensusAndOwnJoin_census : tTimed.running = true ∧ tTimed.member.census.isSome = true := by decide

theorem witness_CensusAndOwnJoin :
    tJoining.running = true ∧ tJoining.passes (2 : BitVec 4).toNat (.join tJoining.tag) = true ∧
      tJoining.hears 2 (.join tJoining.tag) ∧ (tJoining.ownFrame 2 (.join tJoining.tag)).isSome = true ∧
      tJoining.member.state = .joining := by decide

theorem witness_SelfExpulsion :
    (tState 2).running = true ∧ (tState 2).passes (0 : BitVec 4).toNat (.expel 2) = true ∧
      (tState 2).hears 0 (.expel 2) ∧ (0 : BitVec 4).toNat ≠ (tState 2).me ∧ (2 : Byte).toNat = (tState 2).me ∧
      (tState 2).table.row? (tState 2).me = some (tRow 2 .saloon 12 1 12 0 0) ∧ (tState 2).member.state = .inStep ∧
      (tState 2).bus.inFlight = none ∧ SendLaw (tState 2) := by decide

theorem witness_OtherTagBringsMismatched :
    frameOf (.join tCodes 1 0x35) = some (tCodes, 1, .join 0x35) ∧ (0x35 : Byte) ≠ (tState 2).tag ∧
      (tState 2).running = true ∧ (tState 2).passes (1 : BitVec 4).toNat (.join 0x35) = true ∧
      (tState 2).hears 1 (.join 0x35) ∧ (1 : BitVec 4).toNat ≠ (tState 2).me ∧
      ((tState 2).table.row? 1).isSome = true ∧ (tState 2).member.state = .inStep ∧
      (tState 2).bus.inFlight = none ∧
      ({ tState 1 with member := { (tState 1).member with state := .clash } } : State).passes 0 (.join 0x35) = true ∧
      ({ tState 1 with member := { (tState 1).member with state := .clash } } : State).hears 0 (.join 0x35) := by decide

/-- A mismatch seen in CLASH removes the own entry (R27, R152). -/
theorem test_mismatch_in_clash :
    (tState 1).table.hasEntry 1 = true ∧
      (let t := tNext (.join tCodes 0 0x35) { tState 1 with member := { (tState 1).member with state := .clash } }
      t.table.hasEntry 1 = false ∧ t.member.state = .clash) := by decide +kernel

/-- Station 2 with a RETURN in flight, its lease expired. -/
def tReturning : State :=
  tSends .ret (.ret 3 0) { tState 2 with share := { ShareUnit.reset with aside := 5, leaseExpired := true } }

/-- Station 2 with a STATUS in flight that is to be renewed. -/
def tRenewing : State :=
  { tState 2 with
    bus := { (tState 2).bus with
      queue := [{ kind := .status, age := 0 }]
      inFlight := some { kind := .status, bulletin := .status tStatus, cls := 5, renewal := some 7 } } }

theorem witness_OwnFrameCompletes :
    (frameOf (.join tCodes 2 0x34) = some (tCodes, 2, .join 0x34) ∧ tJoining.running = true ∧
        tJoining.hears 2 (.join 0x34) ∧
        tJoining.ownFrame 2 (.join 0x34) =
          some { kind := .join, bulletin := .join 0x34, cls := 5, renewal := none }) ∧
      (tRenewing.hears 2 (.status tStatus) ∧ (tRenewing.ownFrame 2 (.status tStatus)).isSome = true ∧
        (Bulletin.status tStatus).txKind = some .status ∧ tRenewing.member.state ≠ .clash) ∧
      tReturning.hears 2 (.ret 3 0) ∧ (tReturning.ownFrame 2 (.ret 3 0)).isSome = true ∧
      tReturning.passes (2 : BitVec 4).toNat (.ret 3 0) = true ∧ tReturning.supply.state ≠ .shed ∧
      tReturning.member.state ≠ .mismatched := by decide

/-- An own DRAFT that stated the activity, and the one-shot HELD or already IDLE, with and without a request (entry 21). -/
theorem witness_OwnFrameCompletes_draft :
    (∀ shot ∈ [OneShot.idle, .held], ∀ renewal ∈ [none, some 7],
      let s := { tState 2 with
        doors := { (tState 2).doors with oneShot := shot }
        bus := { (tState 2).bus with
          queue := [{ kind := .draft, age := 0 }]
          inFlight := some { kind := .draft, bulletin := .draft 1, cls := 3, renewal } } };
      s.running = true ∧ s.hears 2 (.draft 1) ∧ (s.ownFrame 2 (.draft 1)).isSome = true ∧ s.member.state ≠ .clash ∧
        (tNext (.draft tCodes 2 1) s).bus.queue.filter (fun e => e.kind == .draft) =
          if shot = .idle then [{ kind := .draft, age := renewal.getD 1 }]
          else if renewal = none then [] else [{ kind := .draft, age := 7 }]) := by decide +kernel

/-- An own RETURN of four units whose round grants the own entry of four is followed by a zone evaluation (R71). -/
theorem test_grant_beside_return :
    let t := tNext (.ret tCodes 1 4 0) (tSends .ret (.ret 4 0) { tState 1 with share := { ShareUnit.reset with aside := 4 } });
    (t.ownRow.borrowed, t.ownEntry, t.zone.stages.map (·.on)) = (14, none, [true, true, false, false]) := by decide +kernel

/-- Entry to RIDE_THROUGH sets nothing aside (R62). -/
theorem test_ride_through_keeps_units :
    (tNext (.lineLevelChange tCodes) (tNext (.lineRawChange false) (tState 2))).share.aside = 0 := by decide +kernel

/-- The cab holding 12 units, 10 of them SAFETY, when the line is lost: the unit pauses and nothing is set aside (R62, R120);
an evaluation in RIDE_THROUGH sets aside the two other units when the zone is off (R52), and the ten stay held. -/
def tGap : State := tNext (.lineLevelChange tCodes) (tNext (.lineRawChange false) { tPhase .hold true with table := tReturn3 })

theorem test_gap_keeps_safety_units :
    (tGap.defrost.state, tGap.defrost.pausedKept, tGap.share.aside) = (.paused, 10, 0) ∧
      (tNext (.periodicEvaluation tCodes) tGap).share.aside = 0 ∧
      ((tNext (.override tCodes 8 3 1 0 0) tGap).share.aside, (tNext (.override tCodes 8 3 1 0 0) tGap).safetyHeld) =
        (2, 10) := by decide +kernel

/-- Class 6 from address 0 has a recessive stuff bit right after the last address bit: read dominant, it brings an abort (entry
38), and the last recessive bit of the class a loss (R165). -/
theorem test_stuff_bit_after_address :
    (let f : Frame := { cls := 6, address := 0, kind := 8, payload := [4] };
      f.arbitrationBits = 8 ∧ f.bits[8]? = some true ∧ f.readBack (f.bits.take 8 ++ [false]) = .aborts ∧
        f.readBack (f.bits.take 2 ++ [false]) = .lost) := by decide +kernel

/-- The fourth row of R125, second order: the line is lost while the SAFETY CLAIM of 10 units is in flight; its grant and the
evaluations of the gap leave the safety units, and with the line good again WAITING goes on to RAMP at once (entry 32). -/
theorem test_grant_in_gap_leads_to_ramp :
    let waiting := { tPhase .waiting true with
      table := { tShares with
        rows := [tRow 2 .saloon 12 1 12 0 0, tRow 1 .saloon 12 2 14 0 0, tRow 0 .cab 6 8 0 0 0], allowance := 80
        queue := [] } }
    let gap := tNext (.lineLevelChange tCodes) (tNext (.lineRawChange false) (tSends .claim (.claim 10 1) waiting))
    let granted := tNext (.periodicEvaluation tCodes) (tNext (.claim tCodes 0 10 1) gap)
    let back := tNext (.lineLevelChange tCodes) (tNext (.lineRawChange true) granted)
    (gap.defrost.state, granted.safetyHeld, granted.share.aside, granted.defrost.state, back.defrost.state) =
      (.paused, 10, 0, .paused, .ramp) := by decide +kernel

/-- A replacing SAFETY CLAIM that fails in the gap leaves none waiting, for its entry stands (R120). -/
theorem test_gap_keeps_safety_entry :
    (tNext (.ownFrameVoid (tHeard (tSends .claim (.claim 6 1) { tGap with table := tClaim2 }) 0 [true]))
      (tSends .claim (.claim 6 1) { tGap with table := tClaim2 })).hasTx .claim = false := by decide +kernel

/-- A recall that reaches the screen's units in HOLD leads to WAITING (R119); a RETURN that lets the SAFETY entry be granted
leads from WAITING to RAMP (R115). -/
theorem test_takings_move_defrost :
    ((tNext (.allowance tCodes 9 36 5 24 8) { tPhase .hold true with table := tReturn3 }).defrost.state,
      (tNext (.allowance tCodes 9 50 5 24 8) { tPhase .hold true with table := tReturn3 }).defrost.state,
      (tNext (.ret tCodes 2 8 0) { tPhase .waiting true with table := tClaim2 }).defrost.state) =
      (.waiting, .hold, .ramp) := by decide +kernel

theorem test_memory_port :
    (State.reset.outputs.memoryPort, tReading.outputs.memoryPort, (tState 2).outputs.memoryPort) =
      (.low, .reading, .resting) := by decide

/-- Five units aside, three carried: two stay aside with a fresh return timer, and borrowed has fallen. -/
theorem test_own_return :
    ((tNext (.ret tCodes 2 3 0) tReturning).share.aside, (tNext (.ret tCodes 2 3 0) tReturning).share.returnTimer,
      (tNext (.ret tCodes 2 3 0) tReturning).ownRow.borrowed) = (2, .running 1000, 9) := by decide +kernel

theorem witness_FrameStartOffersTheFirst :
    tFlying.mayStart = true ∧ (tState 2).mayStart = false ∧
      ({ (tState 2).member with expulsion := some 1 } : Membership).expulsion = some 1 ∧
      tReporting.stats.request = some tOwnReport.request ∧ (tState 2).table.row? 1 = some (tRow 1 .saloon 12 2 14 0 0) := by
  decide

/-- With 14 and with 15 failures before it; and every outcome of reading back. -/
theorem witness_OwnFrameVoidOrLost :
    tJoining.running = true ∧ tJoining.bus.inFlight.isSome = true ∧ tJoining.bus.failures < 15 ∧
      15 ≤ ({ tJoining.bus with failures := 15 } : Bus).failures ∧
      tJoining.readsBack (tHeard tJoining (tChecked tJoining) [false]) = some .objected ∧
      tJoining.readsBack (tHeard tJoining (tChecked tJoining) [true]) = some .completes ∧
      tJoining.readsBack [false, false] = some .lost ∧ tJoining.readsBack [true] = some .aborts ∧
      tJoining.readsBack [false, true] = some .underWay ∧ tFrame.bits[1]? = some true ∧
      1 < tFrame.checkedBits := by decide +kernel

theorem witness_IdleDetectorAndMuteTimer :
    tJoining.bus.idle = false ∧ ({ tJoining.bus with idleWait := some 0 } : Bus).idleWait.isSome = true ∧
      ({ tJoining.bus with mute := some 0 } : Bus).mute.isSome = true := by decide

theorem witness_CatchUpLapse :
    (tNext (.catchUpTimerExpiry tCodes)
        { tTimed with share := { tTimed.share with leaseExpired := true } }).hasTx .lapse = true ∧
      tTimed.running = true ∧ FlagLaw ({ tShares with leaseState := .noLease } : ShareTable) ∧
      tTimed.member.catchUp.isSome = true ∧ tTimed.table.leaseState ≠ .noLease ∧
      ({ tTimed with table := { tShares with leaseState := .noLease } } : State).table.leaseState = .noLease := by decide

theorem witness_StatusPeriodAndSilence :
    tTimed.running = true ∧ tTimed.member.statusPeriod.isSome = true ∧
      (∃ a ∈ tTimed.member.ages, a.station = (1 : Fin 8).val ∧ a.left.isSome = true) ∧
      tTimed.member.state = .inStep ∧ tTimed.member.expulsion = none ∧ tTimed.hasTx .expel = false ∧
      PhaseLaw (tState 2) ∧ (tNext (.claim tCodes 0 10 1) (tState 2)).member.state = .inStep ∧
      (tNext (.claim tCodes 0 10 1) (tState 2)).ownRow.owed ≠ (tState 2).ownRow.owed ∧
      (1 : BitVec 4).toNat ≠ (tState 2).me ∧ (tState 2).passes (1 : BitVec 4).toNat (.join 0x34) = true := by
  decide +kernel

/-- Station 1 takes back what it set aside; station 2 sets aside what it does not need; and a wish that may go out, before and
after a share evaluation. -/
theorem witness_ShareUnitTimers :
    (tTimed.running = true ∧ tTimed.share.leaseTimer.isSome = true ∧ tTimed.share.spacingTimer.isSome = true ∧
        tTimed.share.returnTimer = .running 0 ∧ 0 < tTimed.share.aside ∧ tTimed.member.state ≠ .clash) ∧
      (let s := { tState 1 with zone := { (tState 1).zone with base := 18 }, share := { ShareUnit.reset with aside := 14 } };
        s.inStep = true ∧ s.spendable < s.wanted ∧ 0 < s.reclaimable ∧ 0 < (adjustAside s s).share.aside) ∧
      (let s := { tState 2 with zone := { (tState 2).zone with base := 0 } };
        s.wanted ≤ s.spendable ∧ s.share.aside = 0 ∧ s.keptInGap = 0 ∧ 0 < (adjustAside s s).share.aside) ∧
      (let s := { tGap with zone := { tGap.zone with base := 0 } };
        s.wanted ≤ s.spendable ∧ 0 < s.keptInGap ∧ s.inStep = true ∧ s.share.leaseExpired = false ∧
          (adjustAside s s).share.aside = 2 ∧ (tState 0).supply.state = .live ∧ s.supply.state = .rideThrough) ∧
      ({ tGap with table := tClaim2 } : State).entryStands = true ∧
      (let s := { tState 1 with share := { ShareUnit.reset with wishUnits := 9 } };
        s.inStep = true ∧ s.wishMatches = false ∧ s.entryStands = false ∧ s.live = true ∧
          s.table.leaseState = .current ∧ s.share.leaseExpired = false ∧ s.share.spacingTimer = none ∧
          s.flying .claim = false) ∧
      (let t := tNext .claimSpacingExpiry { tState 1 with
          table := { tShares with queue := [] }
          zone := { (tState 1).zone with stages := stagesOf (tEntry 1 .saloon 12 2 [2] [15, 15, 15, 15] 2 4), base := 40 }
          share := { ShareUnit.reset with spacingTimer := some 0 } };
        0 < t.share.wishUnits ∧ t.wishMatches = false ∧ t.entryStands = false) ∧
      (let c : Instr := .claim tCodes 0 10 1;
        frameOf c = some (tCodes, 0, .claim 10 1) ∧ RowsLaw (tState 2).table ∧
          (tState 2).ownRow.owed < (tNext c (tState 2)).ownRow.owed ∧ (tNext c (tState 2)).sending .ret) ∧
      (let t := tNext .claimSpacingExpiry { tTimed with share := { tTimed.share with aside := 12 } };
        0 < t.share.aside ∧ t.loader.vt.returnBatch ≤ t.share.aside) := by decide +kernel

/-- The cab of the defrost chapter's last example: 16 units borrowed, 10 of them safety, when the line is lost in HOLD. -/
def tHoldGap : State :=
  let s := { tGap with
    table := { tShares with
      rows := [tRow 2 .saloon 12 1 12 0 0, tRow 1 .saloon 12 2 14 0 0, tRow 0 .cab 6 8 16 10 0], allowance := 80
      queue := [] } }
  { s with supply := { s.supply with rideThrough := some 0 } }

/-- An evaluation in the gap, with 22 units spendable and 12 wanted, sets nothing aside; at SHED the RETURN carries all 16 units
with 10 safety units, as the example has it (R120). -/
theorem test_gap_example :
    (tHoldGap.spendable = 22 ∧ tHoldGap.wanted = 12) ∧
      (tNext (.periodicEvaluation tCodes) tHoldGap).share.aside = 0 ∧
      (tNext (.rideThroughExpiry tCodes) tHoldGap).bulletinFor .ret = .ret 16 10 := by decide +kernel

/-- The cab, PAUSED in a gap, with every timer of the supply monitor run out, the line back or still lost, and its row from a
share table. -/
def tPaused (good : Bool) (table : ShareTable) : State :=
  { tGap with
    table
    pins := { tGap.pins with line := good }
    supply := { tGap.supply with good, debounce := some 0, settle := some 0, rideThrough := some 0, qualify := some 0 } }

/-- Station 1 riding through, with borrowed units and an entry, and with every timer of the supply monitor run out. -/
def tRiding : State :=
  { tState 1 with
    supply := { state := .rideThrough, good := false, debounce := some 0, settle := some 0, rideThrough := some 0,
                qualify := some 0 } }

theorem witness_SupplyTimers :
    tRiding.running = true ∧ tRiding.supply.settle.isSome = true ∧ tRiding.supply.rideThrough.isSome = true ∧
      tRiding.supply.state = .rideThrough ∧ tRiding.supply.qualify.isSome = true ∧ 0 < tRiding.ownRow.borrowed ∧
      tRiding.member.state = .inStep ∧ ∃ e ∈ tRiding.ownEntry, 0 < e.units := by decide

/-- The defrost unit at each change of the supply: PAUSED with enough units held and with too few, wanted and not. -/
theorem witness_SupplyTimers_defrost :
    (tPaused true tReturn3).running = true ∧ (tPaused true tReturn3).isCab = true ∧
      (tPaused true tReturn3).defrost.state = .paused ∧ (tPaused true tReturn3).member.state ≠ .clash ∧
      DefrostWanted (tPaused true tReturn3) ∧ (tPaused true tReturn3).safetyHeld = 10 ∧
      (tPaused true tClaim2).safetyHeld = 0 ∧
      ¬DefrostWanted { tPaused true tReturn3 with defrost := { tGap.defrost with fog := false } } ∧
      (tNext (.settleTimerExpiry tCodes) (tPaused true tReturn3)).defrost.state = .ramp ∧
      (tNext (.qualifyTimerExpiry tCodes) (tPaused true tClaim2)).defrost.state = .waiting ∧
      (tNext (.qualifyTimerExpiry tCodes)
        { tPaused true tReturn3 with defrost := { tGap.defrost with fog := false } }).defrost.state = .off := by
  decide +kernel

/-- The loss of the line, in each state of the defrost unit, with aside within its bounds; and its return. -/
theorem witness_LineLevelMovesSupply :
    (tRiding.supply.debounce.isSome = true ∧ tRiding.running = true) ∧
      (∀ state ∈ [DefrostState.off, .waiting, .ramp, .hold, .trim, .paused],
        let s := { tPhase state true with
          pins := { (tState 0).pins with line := false }
          supply := { (tState 0).supply with debounce := some 0 } };
        s.running = true ∧ s.isCab = true ∧ s.defrost.state = state ∧ s.supply.state = .live ∧
          s.member.state ≠ .mismatched ∧ s.share.aside ≤ s.ownRow.borrowed ∧
          max s.ownRow.owed (max s.share.commit (s.ownRow.safety - s.safetyKept)) ≤ s.share.aside) ∧
      (tPaused true tReturn3).supply.state = .rideThrough ∧ (tPaused true tReturn3).pins.line = true ∧
      (tNext (.lineLevelChange tCodes) (tPaused true tReturn3)).defrost.state = .ramp := by decide +kernel

theorem witness_PeriodicEvaluationMeasures :
    (tState 2).running = true ∧ (tState 2).zone.period.isSome = true ∧
      ¬(-80 ≤ (0x80 : Byte).toInt ∧ (0x80 : Byte).toInt ≤ 120) ∧ (-80 ≤ (120 : Byte).toInt ∧ (120 : Byte).toInt ≤ 120) ∧
      ¬((121 : Byte).toInt ≤ 120) ∧ ({ validity := .invalid, recovery := 0 } : AirSensor).validity = .invalid ∧
      (tPhase .off true).running = true ∧ (tPhase .off true).zone.period.isSome = true ∧ (tPhase .off true).isCab = true ∧
      (tPhase .off true).safetyHeld < (tPhase .off true).loader.vt.defrostUnits ∧
      readingOf tCodes.outdoor = (tPhase .off true).doors.outdoor ∧
      readingOf ({ tCodes with outdoor := 0xDB } : Sensors).outdoor ≠ (tPhase .off true).doors.outdoor := by decide

/-- The cab's screen becomes clear in RAMP at a periodic evaluation, an OFF unit starts when the outdoor reading changes, and the
stages of a saloon station follow its demand (R81, R114, R116). -/
theorem test_periodic_evaluation :
    (tNext (.periodicEvaluation { tCodes with screen := 100 }) (tPhase .ramp true)).defrost.state = .hold ∧
      (tNext (.periodicEvaluation tCodes) (tPhase .off true)).defrost.state = .off ∧
      (tNext (.periodicEvaluation { tCodes with outdoor := 0xDB }) (tPhase .off true)).defrost.state = .waiting ∧
      (let t := tNext (.periodicEvaluation tCodes) (tState 2); t.zone.total = 12 ∧ t.airLoad = 12) := by decide +kernel

def tStageTimed : State :=
  { tState 2 with zone := { (tState 2).zone with stages := (tState 2).zone.stages.set 3 ⟨2, false, .afterOff 0⟩ } }

theorem witness_StageTimerClears :
    tStageTimed.running = true ∧ tStageTimed.zone.stages[(3 : Fin 4).val]? = some ⟨2, false, .afterOff 0⟩ ∧
      MinTimer.afterOff 0 ≠ .clear := by decide

/-- A stage that switches ON, one that switches OFF, one that waits for the load, and a load within and above the limit. -/
theorem witness_StageSwitchingRules :
    (switched 9 6 6 true [⟨6, false, .clear⟩])[0]? = some ⟨6, true, .afterOn 9⟩ ∧
      (switched 9 5 6 true [⟨6, true, .clear⟩])[0]? = some ⟨6, false, .afterOff 9⟩ ∧
      switched 9 6 6 true [⟨6, false, .clear⟩, ⟨6, true, .afterOn 1⟩] = [⟨6, false, .clear⟩, ⟨6, true, .afterOn 1⟩] ∧
      loadOf [⟨6, true, .clear⟩] ≤ 6 ∧ 5 < loadOf [⟨6, true, .clear⟩] := by decide

/-- A door of station 2 that is about to move, in a state and at a raw level. -/
def tDoor (state : DoorState) (apart : Bool) : State :=
  { tState 2 with
    pins := { (tState 2).pins with door0 := apart }
    doors := { (tState 2).doors with
      door0 := { state, level := some .shut, debounce := some 0, longOpen := some 0 }, oneShot := .held,
      tail := some 0, spill := [{ station := 1, timer := some 0 }], outdoorAge := some 0 } }

/-- Door 0 about to close beside a door 1 that stays open. -/
def tBothOpen (other : DoorState) : State :=
  let s := tDoor .opened false
  { s with doors := { s.doors with door1 := { s.doors.door1 with state := other } } }

theorem witness_DoorLevelMovesDoorAndOneShot :
    (∀ state ∈ [DoorState.unsampled, .closed, .opened, .longOpen], ∀ apart ∈ [true, false],
        (tDoor state apart).running = true ∧ ((tDoor state apart).door 0).debounce.isSome = true ∧
          ((tDoor state apart).door 0).state = state ∧
          (tDoor state apart).rawDoor 0 = if apart = true then .apart else .shut) ∧
      (tState 2).overrides.boostInhibit = none ∧ ((tDoor .opened false).door 1).isOpen = false ∧
      (tState 2).doors.oneShot = .idle ∧ (tState 2).doors.lastStated = false ∧ (tState 2).flying .draft = false ∧
      (∀ other ∈ [DoorState.opened, .longOpen],
        ((tBothOpen other).door (if (0 : Fin 2) = 0 then 1 else 0)).state = other ∧
          ((tBothOpen other).door 0).state = .opened ∧ (tBothOpen other).rawDoor 0 = .shut) ∧
      (tNext (.doorLevelChange tCodes 0) (tBothOpen .longOpen)).doors.oneShot = .idle ∧
      (tNext (.doorLevelChange tCodes 0) (tBothOpen .opened)).doors.oneShot = .held := by
  decide +kernel

/-- A close that takes the one-shot from IDLE to TAIL states the activity; where that was last stated, a waiting DRAFT goes. -/
theorem test_close_from_idle_draft :
    (let s := { tDoor .longOpen false with doors := { (tDoor .longOpen false).doors with oneShot := .idle } };
      let stated := { s with
        doors := { s.doors with lastStated := true }, bus := { s.bus with queue := [{ kind := .draft, age := 0 }] } };
      (tNext (.doorLevelChange tCodes 0) s).doors.oneShot = .tail ∧
        (tNext (.doorLevelChange tCodes 0) s).hasTx .draft = true ∧ s.flying .draft = false ∧
        (tNext (.doorLevelChange tCodes 0) stated).hasTx .draft = false) := by decide +kernel

theorem witness_DoorUnitTimers :
    (tDoor .opened true).running = true ∧ ((tDoor .opened true).door 0).longOpen.isSome = true ∧
      ((tDoor .opened true).door 1).state ≠ .opened ∧ (tDoor .opened true).doors.oneShot = .held ∧
      (tDoor .opened true).doors.tail.isSome = true ∧
      (∃ e ∈ (tDoor .opened true).doors.spill, e.station = (1 : Fin 8).val) ∧
      (tDoor .opened true).doors.outdoorAge.isSome = true := by decide

/-- The cab's defrost unit in a state, with the phase and fog timers run out. -/
def tDefrost (state : DefrostState) : State :=
  { tPhase state false with
    pins := { (tState 0).pins with fog := true }
    defrost := { (tPhase state false).defrost with fogDebounce := some 0 } }

/-- Each state; a cold and a warm outside; the supply LIVE and not; and too few and enough safety units held. -/
theorem witness_DefrostCycle :
    (∀ state ∈ [DefrostState.off, .waiting, .ramp, .hold, .trim, .paused],
        (tDefrost state).running = true ∧ (tDefrost state).isCab = true ∧
          (tDefrost state).defrost.fogDebounce.isSome = true ∧ (tDefrost state).defrost.phase.isSome = true ∧
          (tDefrost state).defrost.state = state) ∧
      (tDefrost .off).defrostMode = .auto ∧ (tDefrost .off).coldOutside = true ∧ (tDefrost .off).live = true ∧
      (tDefrost .off).member.state ≠ .clash ∧ (tDefrost .off).safetyHeld < (tDefrost .off).loader.vt.defrostUnits ∧
      ({ tDefrost .off with doors := { DoorUnit.reset with outdoor := some 6 } } : State).coldOutside = false ∧
      ({ tDefrost .off with doors := { DoorUnit.reset with outdoor := some 5 } } : State).coldOutside = true ∧
      ({ tDefrost .off with supply := Supply.reset } : State).live = false ∧
      ({ tDefrost .off with table := tReturn3 } : State).loader.vt.defrostUnits ≤
        ({ tDefrost .off with table := tReturn3 } : State).safetyHeld ∧
      (tPhase .trim false).pins.fog = false := by decide

theorem test_warm_outside_stays_off :
    (tNext (.fogLevelChange tCodes)
      { tDefrost .off with doors := { DoorUnit.reset with outdoor := some 6 } }).defrost.state = .off := by decide +kernel

def tSlots : State :=
  { tState 2 with
    overrides := { Overrides.reset with setpointOffset := some ⟨2, some 0⟩, panelSilence := some 0 } }

theorem witness_SlotsEmptyByTime :
    tSlots.running = true ∧ (tSlots.overrides.expiry .setpointOffset).isSome = true ∧
      tSlots.overrides.panelSilence.isSome = true ∧
      { (tNext (.slotExpiry tCodes .setpointOffset) tSlots).overrides with panelSilence := none } ≠
        { tSlots.overrides with panelSilence := none } ∧
      { (tNext (.panelSilenceExpiry tCodes) tSlots).overrides with panelSilence := none } =
        { tSlots.overrides with panelSilence := none } := by decide +kernel

/-- One below all ones and at all ones; a masked counter; and a second. -/
theorem witness_CountersMarksAndTheSecond :
    ((0xFE#8).toNat + 1 < 2 ^ 8 ∧ 2 ^ 8 ≤ (0xFF#8).toNat + 1) ∧ (1#9).getLsbD Counter.energy.place = true ∧
      (tState 2).running = true ∧ (tState 2).stats.second.isSome = true := by decide

theorem witness_ResetsAndRelease : State.reset.loader.phase = .inReset := by rfl

theorem witness_OptionLoadResult :
    tReading.loader.phase = .reading ∧ tableFrom tReading.me [] = none ∧
      (tableFrom tReading.me tImage).isSome = true := by decide +kernel

/-- The cab and a saloon station at their load: the first evaluation makes a temperature and a demand with every stage OFF, the
doors and an active FOG begin to debounce, and the first check finds the defrost wanted under MAX and not under AUTO (R114). -/
theorem witness_OptionLoadResult_first :
    (let t := tNext (.optionReadDone tCodes tImage) tReading;
      t.isCab = false ∧ tReading.supply.state ≠ .live ∧ tReading.defrost.state = .off ∧ t.zone.temp = some 34 ∧
        0 < t.zone.total ∧ t.airLoad = 0 ∧ t.doors.door0.debounce = some 40 ∧ t.doors.door1.debounce = some 40) ∧
      (let s := tNext (.resetRelease 0) { State.reset with pins := { Pins.reset with fog := true } };
        let m := { s with overrides := { s.overrides with defrostMode := some ⟨.max, none⟩ } };
        (tNext (.optionReadDone tCodes tImage) s).isCab = true ∧
          (tNext (.optionReadDone tCodes tImage) s).defrost.fogDebounce = some 1000 ∧
          (tNext (.optionReadDone tCodes tImage) s).doors.outdoor = some (-36) ∧
          (tNext (.optionReadDone tCodes tImage) s).defrost.state = .off ∧
          ¬DefrostWanted (tNext (.optionReadDone tCodes tImage) s) ∧
          DefrostWanted (tNext (.optionReadDone tCodes tImage) m) ∧
          (tNext (.optionReadDone tCodes tImage) m).defrost.state = .paused) := by decide +kernel

theorem witness_TableInForceIsChecked : (tableFrom 0 tImage).isSome = true ∧ (tableFrom 1 tImage).isSome = true := by
  decide +kernel

/-- A lawful state, and the step from it. -/
theorem witness_TableLawKept :
    TableLaw (tState 2).table ∧
      step { tState 2 with pending := [.startBit] } = .next (tNext .startBit (tState 2)) := ⟨by decide, rfl⟩

theorem witness_LoadLawKept : PhaseLaw (tState 2) ∧ LoadLaw (tState 2) ∧ LoadLaw State.reset := by decide

/-- Loads that are ON, in a lawful state; and each phase without a table. -/
theorem witness_OutputPins :
    (let t := tNext (.periodicEvaluation tCodes) (tState 2);
      PinLaw t ∧ QuietLaw t ∧ t.outputs.stages = [true, true, false, false] ∧ t.outputs.fan = 2) ∧
      (let t := tNext (.periodicEvaluation tCodes) { tPhase .hold true with table := tReturn3 };
        t.outputs.defrost = true ∧ t.outputs.defrostLoad = 10) ∧
      (∀ s ∈ [State.reset, tReading, tNext (.optionReadFailed .noAcknowledge) tReading],
        PinLaw s ∧ QuietLaw s ∧ s.loader.phase ≠ .loaded) ∧
      (tNext (.optionReadFailed .noAcknowledge) tReading).loader.phase = .failed := by decide +kernel

theorem witness_AsideLawKept :
    PhaseLaw (tState 2) ∧ RowsLaw (tState 2).table ∧ AsideLaw (tState 2) ∧ (tState 2).running = true := by decide

theorem witness_BoostLawKept :
    BoostLaw { tState 2 with overrides := { Overrides.reset with boostInhibit := some ⟨(), none⟩ } } ∧
      (tState 2).doors.oneShot = .idle := by decide

theorem witness_TransmitQueueLawsKept :
    PhaseLaw tJoining ∧ TransmitLaw tJoining ∧ SendLaw tJoining ∧ FailureLaw tJoining ∧ tJoining.inStep = false := by
  decide

theorem witness_LatchedSnapshotStands :
    ({ (tState 2).stats with
      snapshot := some { record := (tState 2).zoneRecord, counters := Counters.zero } } : Stats).snapshot =
        some { record := (tState 2).zoneRecord, counters := Counters.zero } ∧
      exec .startBit (tState 2) = .next (tNext .startBit (tState 2)) := ⟨rfl, rfl⟩

theorem witness_FrozenCountersDoNotFall :
    ({ tTable with counterFreeze := true } : VehicleTable).counterFreeze = true ∧
      exec .startBit (tState 2) = .next (tNext .startBit (tState 2)) := ⟨rfl, rfl⟩

/-- Two stations with the same table and vehicle table. -/
theorem witness_ReplicasMoveTogether :
    frameOf (.expel tCodes 0 1) = some (tCodes, 0, .expel 1) ∧ (tState 2).member.state = .inStep ∧
      (tState 1).member.state = .inStep ∧ (tState 2).loader.vt = (tState 1).loader.vt ∧
      (tState 2).table = (tState 1).table ∧ (tState 2).hears 0 (.expel 1) ∧ (tState 1).hears 0 (.expel 1) ∧
      exec (.expel tCodes 0 1) (tState 2) = .next (tNext (.expel tCodes 0 1) (tState 2)) ∧
      exec (.expel tCodes 0 1) (tState 1) = .next (tNext (.expel tCodes 0 1) (tState 1)) := by
  refine ⟨by decide, by decide, by decide, by decide, by decide, by decide, by decide, rfl, rfl⟩

/-- A JOIN; and headers with a length of 13, with a JOIN of two bytes, with a JOIN whose check field is 0, and with a run of five
equal bits at the start. -/
theorem witness_FrameRoundTrip :
    lengthAccepted tFrame.kind.toNat tFrame.payload.length = true ∧
      (let header := fun kind n : Nat => bitsOf 7 0x51 ++ bitsOf 4 kind ++ bitsOf 4 n;
        let join := byteBits [0x34] ++ bitsOf 16 0;
        (header 1 13).length = 15 ∧ numberOf ((header 1 13).drop 11) = 13 ∧
          receive (stuff (false :: header 1 13)) = .error .lengthAboveTwelve ∧
          lengthAccepted (numberOf (((header 1 2).drop 7).take 4)) 2 = false ∧
          receive (stuff (false :: header 1 2)) = .error .lengthFault ∧
          lengthAccepted (numberOf (((header 1 1).drop 7).take 4)) 1 = true ∧ join.length = 8 * 1 + 16 ∧
          join.drop (8 * 1) ≠ bitsOf 16 (checkOf (header 1 1 ++ join.take (8 * 1))).toNat ∧
          receive (stuff (false :: (header 1 1 ++ join))) = .error .check ∧
          (stuff (false :: (bitsOf 15 0 ++ bitsOf 16 0))).take 5 = [] ++ List.replicate 5 false ∧
          receive ((stuff (false :: (bitsOf 15 0 ++ bitsOf 16 0))).take 5 ++ [false]) = .error .stuffing) := by
  decide +kernel

end Sys2Proof.Tests
end

section
/-! The share table's lease figures and the end of catch-up: what the pool size, the usable dedicated units and a LAPSE make of
each lease state (R6 to R8, R15), and what the catch-up timer's expiry leaves (R18, R148, R149). -/

namespace Sys2Proof.Machine

/-! ## The pool and the usable units, by lease state -/

/-- R6. -/
theorem pool_of_noLease {t : ShareTable} (lease : t.leaseState = .noLease) : t.pool = 0 := by
  simp [ShareTable.pool, lease]

/-- R6. -/
theorem pool_of_current {t : ShareTable} (lease : t.leaseState = .current) : t.pool = t.allowance - t.reserved := by
  simp [ShareTable.pool, lease]

/-- R6, R16. -/
theorem pool_of_lapsed {t : ShareTable} (lease : t.leaseState = .lapsed) : t.pool = 0 := by
  simp [ShareTable.pool, lease]

/-- R6: of the rows the pool reads the sum of the dedicated units only. -/
theorem pool_eq_of_reserved_eq {t u : ShareTable} (lease : u.leaseState = t.leaseState)
    (allowance : u.allowance = t.allowance) (reserved : u.reserved = t.reserved) : u.pool = t.pool := by
  simp only [ShareTable.pool, lease, allowance, reserved]

/-- R8: a limit of at least D curtails no share. -/
theorem curtailed_of_le {limit reserved : Nat} (covers : reserved ≤ limit) (dedicated : Nat) :
    curtailed dedicated limit reserved = dedicated := if_pos covers

/-- R8: under LAPSED with a fallback of at least D every row keeps its dedicated share. -/
theorem usableOf_of_lapsed {t : ShareTable} (lease : t.leaseState = .lapsed) (covers : t.reserved ≤ t.fallback) (r : Row) :
    t.usableOf r = r.dedicated := by
  simp only [ShareTable.usableOf, lease, curtailed_of_le covers]

/-! ## A LAPSE that does not apply, and the catch-up lapse -/

/-- R15: a LAPSE applies to a CURRENT lease only. -/
theorem takeLapse_of_not_current {t : ShareTable} (lease : t.leaseState ≠ .current) (me : Nat) (tag : Byte) :
    takeLapse me tag t = Taken.nothing t := by
  simp [takeLapse, ShareTable.lapseApplies, lease]

/-- R18. -/
theorem catchUpLapse_of_noLease {t : ShareTable} (lease : t.leaseState = .noLease) :
    t.catchUpLapse = { t with leaseState := .lapsed, fallback := t.reserved } := by
  simp [ShareTable.catchUpLapse, lease]

/-- R18: a CURRENT or LAPSED lease stands. -/
theorem catchUpLapse_of_lease {t : ShareTable} (lease : t.leaseState ≠ .noLease) : t.catchUpLapse = t := by
  cases state : t.leaseState with
  | noLease => exact absurd state lease
  | current | lapsed => simp [ShareTable.catchUpLapse, state]

@[simp] theorem catchUpLapse_rows (t : ShareTable) : t.catchUpLapse.rows = t.rows := by
  unfold ShareTable.catchUpLapse; split <;> rfl

@[simp] theorem catchUpLapse_overdrawn (t : ShareTable) : t.catchUpLapse.overdrawn = t.overdrawn := by
  unfold ShareTable.catchUpLapse; split <;> rfl

/-- The pool is 0 before a catch-up lapse as after it. -/
@[simp] theorem catchUpLapse_pool (t : ShareTable) : t.catchUpLapse.pool = t.pool := by
  by_cases lease : t.leaseState = .noLease
  · rw [pool_of_noLease lease, catchUpLapse_of_noLease lease]
    exact pool_of_lapsed rfl
  · rw [catchUpLapse_of_lease lease]

/-- R10: the catch-up lapse moves neither the flag nor what it stands for. -/
theorem flagLaw_catchUpLapse {t : ShareTable} (law : FlagLaw t) : FlagLaw t.catchUpLapse := by
  simpa [FlagLaw, ShareTable.held] using law

/-- R18: after the catch-up lapse of a table without a lease every row may use its whole dedicated share. -/
theorem usableOf_catchUpLapse {t : ShareTable} (lease : t.leaseState = .noLease) (r : Row) :
    t.catchUpLapse.usableOf r = r.dedicated := by
  rw [catchUpLapse_of_noLease lease]
  exact usableOf_of_lapsed rfl (Nat.le_refl t.reserved) r

/-- R15, R18: after the catch-up lapse of a table without a lease a LAPSE changes nothing. -/
theorem takeLapse_catchUpLapse {t : ShareTable} (lease : t.leaseState = .noLease) (law : FlagLaw t) (me : Nat)
    (tag : Byte) : (takeLapse me tag t.catchUpLapse).table = t.catchUpLapse := by
  have notCurrent : t.catchUpLapse.leaseState ≠ .current := by simp [catchUpLapse_of_noLease lease]
  rw [takeLapse_of_not_current notCurrent]
  exact nothing_of_flagLaw (flagLaw_catchUpLapse law)

/-! ## Entry to IN_STEP -/

@[simp] theorem leaveInStep_catchUp (s : State) : (leaveInStep s).member.catchUp = s.member.catchUp := by
  simp [leaveInStep]

@[simp] theorem startStatus_member (s : State) :
    (startStatus s).member = { s.member with statusPeriod := some statusPeriodTime } := by
  simp [startStatus]

@[simp] theorem enterInStep_member (s : State) :
    (enterInStep s).member = { s.member with statusPeriod := some statusPeriodTime } := by
  unfold enterInStep; split <;> simp

theorem setMember_inStep_catchUp (s : State) : (setMember .inStep s).member.catchUp = s.member.catchUp := by
  unfold setMember entered; split <;> simp

/-- R149: entry to IN_STEP with an expired lease leaves a LAPSE waiting or in flight. -/
theorem enterInStep_sending_lapse {s : State} (state : s.member.state = .inStep) (expired : s.share.leaseExpired = true) :
    (enterInStep s).sending .lapse := by
  have accepts : (startStatus s).acceptsRequests = true :=
    acceptsRequests_of (startStatus s) .inStep (by simp [state]) (by decide)
  unfold enterInStep
  rw [if_pos expired]
  exact queueKind_sending .lapse _ accepts

theorem setMember_inStep_sending_lapse {s : State} (expired : s.share.leaseExpired = true) :
    (setMember .inStep s).sending .lapse := by
  unfold setMember entered
  refine enterInStep_sending_lapse rfl ?_
  split <;> simpa using expired

/-! ## The catch-up timer's expiry -/

/-- The state in which the catch-up time has run out and the membership state is still to change (R18). -/
def State.catchUpStopped (s : State) : State :=
  { s with member := { s.member with catchUp := none }, table := s.table.catchUpLapse }

@[simp] theorem catchUpStopped_frame (s : State) :
    s.catchUpStopped.table = s.table.catchUpLapse ∧ s.catchUpStopped.member.catchUp = none ∧
      s.catchUpStopped.share = s.share ∧ s.catchUpStopped.supply = s.supply ∧ s.catchUpStopped.doors = s.doors ∧
      s.catchUpStopped.overrides = s.overrides := ⟨rfl, rfl, rfl, rfl, rfl, rfl⟩

/-- R148: where the timer runs, its expiry ends catch-up. -/
theorem catchUpEnds_of_isSome {s : State} (runs : s.member.catchUp.isSome = true) :
    catchUpEnds s = finish {} s (setMember .inStep s.catchUpStopped) := by
  obtain ⟨left, timer⟩ := Option.isSome_iff_exists.mp runs
  simp only [catchUpEnds, timer, State.catchUpStopped]

theorem exec_catchUpTimerExpiry {s : State} (codes : Sensors) (running : s.running = true) :
    exec (.catchUpTimerExpiry codes) s = .next (catchUpEnds (begin codes s)) :=
  congrArg Host.Outcome.next (whenRunning_of catchUpEnds (begin codes s) running)

/-- R148: the station is IN_STEP and the timer has stopped. -/
theorem catchUpEnds_member {s : State} (runs : s.member.catchUp.isSome = true) :
    (catchUpEnds s).member.state = .inStep ∧ (catchUpEnds s).member.catchUp = none := by
  simp [catchUpEnds_of_isSome runs, setMember_inStep_catchUp]

/-- R18: of the table only the catch-up lapse is made; doors, overrides and supply stand. -/
theorem catchUpEnds_frame {s : State} (runs : s.member.catchUp.isSome = true) :
    (catchUpEnds s).table = s.table.catchUpLapse ∧ (catchUpEnds s).doors = s.doors ∧
      (catchUpEnds s).overrides = s.overrides ∧ (catchUpEnds s).supply = s.supply := by
  simp [catchUpEnds_of_isSome runs]

/-- R149: the end of the event leaves the LAPSE of the entry to IN_STEP waiting or in flight. -/
theorem catchUpEnds_sending_lapse {s : State} (runs : s.member.catchUp.isSome = true)
    (expired : s.share.leaseExpired = true) : (catchUpEnds s).sending .lapse := by
  rw [catchUpEnds_of_isSome runs]
  exact finish_keeps {} s .lapse _ (by decide) (by decide) (by decide)
    (setMember_inStep_sending_lapse (s := s.catchUpStopped) expired)

end Sys2Proof.Machine
end

section
/-! The obligations on the pool size (R6, R7) and on the catch-up lapse (R18). -/

namespace Sys2Proof.Machine

/-- Settles O4, lease state by lease state. -/
theorem poolSizeByLease : Obligations.PoolSizeByLease := by
  intro t
  refine ⟨rfl, pool_of_noLease, pool_of_current, pool_of_lapsed, fun rows sameSum => ?_⟩
  exact pool_eq_of_reserved_eq rfl rfl sameSum

/-- Settles O34: what the expiry makes of member and table, and the two cases of the catch-up lapse. -/
theorem catchUpLapse : Obligations.CatchUpLapse := by
  intro codes s running runs
  have runs_begin : (begin codes s).member.catchUp.isSome = true := runs
  obtain ⟨state, timer⟩ := catchUpEnds_member runs_begin
  obtain ⟨table, doors, overrides, supply⟩ := catchUpEnds_frame runs_begin
  refine ⟨catchUpEnds (begin codes s), exec_catchUpTimerExpiry codes running, state, timer,
    catchUpEnds_sending_lapse runs_begin, fun noLease => ?_, fun leased => ?_, doors, overrides, supply⟩
  · rw [table]
    exact ⟨catchUpLapse_of_noLease noLease, (catchUpLapse_pool s.table).trans (pool_of_noLease noLease),
      fun r _ => usableOf_catchUpLapse noLease r, fun law => takeLapse_catchUpLapse noLease law⟩
  · rw [table]
    exact catchUpLapse_of_lease leased

end Sys2Proof.Machine
end

section
/-! The service round by its head (R35 to R37, R42): a head that fits is granted and the round goes on; one that does not fit,
or any head of an overdrawn table, ends the grants, and only a SAFETY head under a CURRENT lease then recalls. -/

namespace Sys2Proof.Machine

/-- R37: the first entry of the queue gets no grant. -/
def ShareTable.headBlocked (t : ShareTable) (e : Entry) : Prop := t.overdrawn = true ∨ t.free < e.units

/-! ## The grants -/

theorem serviceGrants_of_overdrawn {t : ShareTable} (overdrawn : t.overdrawn = true) : t.serviceGrants = t :=
  if_pos overdrawn

theorem serviceGrants_of_not_overdrawn {t : ShareTable} (notOverdrawn : t.overdrawn = false) :
    t.serviceGrants = serviceLoop t.queue.length t := by
  simp [ShareTable.serviceGrants, notOverdrawn]

theorem serviceLoop_of_fits {t : ShareTable} {e : Entry} {rest : List Entry} (queue : t.queue = e :: rest)
    (fits : e.units ≤ t.free) (fuel : Nat) : serviceLoop (fuel + 1) t = serviceLoop fuel (t.grantHead e rest) := by
  simp only [serviceLoop, queue, fits, if_true]

theorem serviceLoop_of_not_fits {t : ShareTable} {e : Entry} {rest : List Entry} (queue : t.queue = e :: rest)
    (short : t.free < e.units) (fuel : Nat) : serviceLoop (fuel + 1) t = t := by
  simp only [serviceLoop, queue, Nat.not_le.mpr short, if_false]

/-- R37: the grants after the first are those of the table it leaves, whose queue is one entry shorter. -/
theorem serviceGrants_of_fits {t : ShareTable} {e : Entry} {rest : List Entry} (queue : t.queue = e :: rest)
    (notOverdrawn : t.overdrawn = false) (fits : e.units ≤ t.free) :
    t.serviceGrants = (t.grantHead e rest).serviceGrants := by
  have length : t.queue.length = rest.length + 1 := congrArg List.length queue
  have notOverdrawn_after : (t.grantHead e rest).overdrawn = false := notOverdrawn
  calc t.serviceGrants = serviceLoop (rest.length + 1) t := by rw [serviceGrants_of_not_overdrawn notOverdrawn, length]
    _ = serviceLoop rest.length (t.grantHead e rest) := serviceLoop_of_fits queue fits rest.length
    _ = (t.grantHead e rest).serviceGrants := by
      rw [serviceGrants_of_not_overdrawn notOverdrawn_after, grantHead_queue_length]

/-- R37: no entry behind a blocked head is granted. -/
theorem serviceGrants_of_headBlocked {t : ShareTable} {e : Entry} {rest : List Entry} (queue : t.queue = e :: rest)
    (blocked : t.headBlocked e) : t.serviceGrants = t := by
  cases flag : t.overdrawn with
  | true => exact serviceGrants_of_overdrawn flag
  | false =>
    have short : t.free < e.units := blocked.resolve_left (by simp [flag])
    have length : t.queue.length = rest.length + 1 := congrArg List.length queue
    rw [serviceGrants_of_not_overdrawn flag, length, serviceLoop_of_not_fits queue short]

/-! ## The recall for the head -/

theorem headRecall_of_safety {t : ShareTable} {e : Entry} {rest : List Entry} (queue : t.queue = e :: rest)
    (safety : e.rank = .safety) (current : t.leaseState = .current) :
    t.headRecall = t.safetyRecall (e.units - t.free - t.owedSum) := by
  simp only [ShareTable.headRecall, queue, safety, current, and_self, if_true]

theorem headRecall_of_not_safety {t : ShareTable} {e : Entry} {rest : List Entry} (queue : t.queue = e :: rest)
    (noRecall : ¬(e.rank = .safety ∧ t.leaseState = .current)) : t.headRecall = t := by
  simp only [ShareTable.headRecall, queue, noRecall, if_false]

/-! ## The round -/

/-- R35 to R37: a round that grants its head is the round of the table after that grant. -/
theorem serviceRound_of_fits {t : ShareTable} {e : Entry} {rest : List Entry} (queue : t.queue = e :: rest)
    (notOverdrawn : t.overdrawn = false) (fits : e.units ≤ t.free) :
    t.serviceRound = (t.grantHead e rest).serviceRound :=
  congrArg ShareTable.headRecall (serviceGrants_of_fits queue notOverdrawn fits)

/-- R37: with a blocked head only step 4 is left of the round. -/
theorem serviceRound_of_headBlocked {t : ShareTable} {e : Entry} {rest : List Entry} (queue : t.queue = e :: rest)
    (blocked : t.headBlocked e) : t.serviceRound = t.headRecall :=
  congrArg ShareTable.headRecall (serviceGrants_of_headBlocked queue blocked)

end Sys2Proof.Machine
end

section
/-! The obligation on the service round (R35 to R37, R42). -/

namespace Sys2Proof.Machine

/-- Settles O8, by the state of the head: none, one that fits, and a blocked one without and with a recall. The granted table of
the statement is `grantHead`, written out. -/
theorem serviceRoundServesTheHead : Obligations.ServiceRoundServesTheHead := by
  intro t
  refine ⟨serviceRound_empty, fun e rest queue => ⟨fun notOverdrawn fits => ?_, fun blocked noRecall => ?_,
    fun blocked safety current => ?_⟩⟩
  · exact serviceRound_of_fits queue notOverdrawn fits
  · rw [serviceRound_of_headBlocked queue blocked, headRecall_of_not_safety queue noRecall]
  · rw [serviceRound_of_headBlocked queue blocked, headRecall_of_safety queue safety current]

end Sys2Proof.Machine
end

section
/-! What R94 speaks of, the boost one-shot and the BOOST_INHIBIT slot: what the operations and the events make of them.
Few events move either; those that do keep the law that an active slot goes with an IDLE one-shot. -/

namespace Sys2Proof.Machine

/-- A part of an event that moves neither the one-shot nor the BOOST_INHIBIT slot. -/
def LeavesBoost (f : State → State) : Prop :=
  ∀ s, (f s).doors.oneShot = s.doors.oneShot ∧ (f s).overrides.boostInhibit = s.overrides.boostInhibit

/-- A part of an event that keeps the law of R94. -/
def KeepsBoostLaw (f : State → State) : Prop := ∀ s, BoostLaw s → BoostLaw (f s)

theorem boostLaw_of_idle {s : State} (idle : s.doors.oneShot = .idle) : BoostLaw s := fun _ => idle

theorem boostLaw_of_not_inhibited {s : State} (free : s.inhibited = false) : BoostLaw s := fun active =>
  absurd active (by simpa [State.inhibited] using free)

theorem LeavesBoost.keepsBoostLaw {f : State → State} (leaves : LeavesBoost f) : KeepsBoostLaw f := by
  intro s law active
  obtain ⟨shot, slot⟩ := leaves s
  rw [shot]
  exact law (slot ▸ active)

theorem KeepsBoostLaw.whenRunning {f : State → State} (keeps : KeepsBoostLaw f) : KeepsBoostLaw (whenRunning f) := by
  intro s law
  unfold Machine.whenRunning
  split
  · exact keeps s law
  · exact law

/-- The end of an event has no part in R94. -/
theorem boostLaw_finish {s : State} (law : BoostLaw s) (ev : Ev) (before : State) : BoostLaw (finish ev before s) := by
  simpa [BoostLaw] using law

/-! ## The one-shot under the door unit's operations -/

@[simp] theorem setOneShot_oneShot (o : OneShot) (tail : Timer) (s : State) :
    (setOneShot o tail s).doors.oneShot = o := by
  unfold setOneShot; dsimp only; split <;> simp

@[simp] theorem setDoor_oneShot (door : Fin 2) (d : Door) (s : State) :
    (setDoor door d s).doors.oneShot = s.doors.oneShot := by
  unfold setDoor; split <;> rfl

@[simp] theorem dropSpill_oneShot (station : Nat) (s : State) :
    (dropSpill station s).doors.oneShot = s.doors.oneShot := rfl

@[simp] theorem refreshSpill_oneShot (station : Nat) (s : State) :
    (refreshSpill station s).doors.oneShot = s.doors.oneShot := rfl

@[simp] theorem setOutdoor_oneShot (reading : Option Int) (age : Timer) (s : State) :
    (setOutdoor reading age s).doors.oneShot = s.doors.oneShot := rfl

@[simp] theorem learnOutdoor_oneShot (sender : Nat) (p : StatusPayload) (s : State) :
    (learnOutdoor sender p s).doors.oneShot = s.doors.oneShot := by
  unfold learnOutdoor; split <;> simp

@[simp] theorem dropMismatchedSpill_oneShot (sender : Nat) (s : State) :
    (dropMismatchedSpill sender s).doors.oneShot = s.doors.oneShot := by
  unfold dropMismatchedSpill; split <;> simp

@[simp] theorem takeDraft_oneShot (station : Nat) (active : Byte) (s : State) :
    (takeDraft station active s).doors.oneShot = s.doors.oneShot := by
  unfold takeDraft; (repeat' split) <;> simp

@[simp] theorem forgetStated_oneShot (s : State) : (forgetStated s).doors.oneShot = s.doors.oneShot := by
  unfold forgetStated; dsimp only; split <;> simp

@[simp] theorem readCabSensors_oneShot (s : State) : (readCabSensors s).doors.oneShot = s.doors.oneShot := by
  unfold readCabSensors; dsimp only; (repeat' split) <;> simp

theorem setDoor_leavesBoost (door : Fin 2) (d : Door) : LeavesBoost (setDoor door d) := fun s => by simp

/-! ## Where the one-shot moves: edges and slots -/

/-- R95: an opening edge raises no boost under the slot. -/
theorem openingEdge_keepsBoostLaw : KeepsBoostLaw openingEdge := by
  intro s law
  unfold openingEdge
  split
  · exact law
  · next free => exact boostLaw_of_not_inhibited (by simpa [State.inhibited] using free)

/-- R97: a layover ends the boost or leaves it. -/
theorem checkLayover_keepsBoostLaw : KeepsBoostLaw checkLayover := by
  intro s law
  unfold checkLayover
  split
  · exact boostLaw_of_idle (setOneShot_oneShot _ _ _)
  · exact law

/-- R96: a closing starts no tail under the slot. -/
theorem closingEdge_keepsBoostLaw : KeepsBoostLaw closingEdge := by
  intro s law
  unfold closingEdge
  split
  · exact checkLayover_keepsBoostLaw s law
  · split
    · exact law
    · next free => exact boostLaw_of_not_inhibited (by simpa [State.inhibited] using free)

/-- R91, R92: a door machine reaches the one-shot through an opening edge or a closing only. -/
theorem doorTakesLevel_keepsBoostLaw (door : Fin 2) (level : DoorLevel) :
    KeepsBoostLaw (doorTakesLevel door level) := by
  intro s law
  have moved : ∀ d, BoostLaw (setDoor door d s) := fun d => (setDoor_leavesBoost door d).keepsBoostLaw s law
  unfold doorTakesLevel
  dsimp only
  cases (s.door door).state with
  | closed =>
    cases level with
    | apart => exact openingEdge_keepsBoostLaw _ (moved _)
    | shut => exact moved _
  | opened | longOpen =>
    cases level with
    | shut => exact closingEdge_keepsBoostLaw _ (moved _)
    | apart => exact moved _
  | unsampled => cases level with | shut | apart => exact moved _

@[simp] theorem handSlotsOn_overrides (o : Overrides) (s : State) : (handSlotsOn o s).overrides = o := by
  unfold handSlotsOn; dsimp only; (repeat' split) <;> simp

/-- R132: a BOOST_INHIBIT slot that becomes active ends the boost; the other changes leave the one-shot. -/
theorem handSlotsOn_oneShot (o : Overrides) (s : State) :
    (handSlotsOn o s).doors.oneShot =
      if o.boostInhibit.isSome ∧ s.overrides.boostInhibit.isNone then .idle else s.doors.oneShot := by
  unfold handSlotsOn; dsimp only; (repeat' split) <;> simp

/-- R132: whatever the slots become, the law is kept. -/
theorem handSlotsOn_keepsBoostLaw (o : Overrides) : KeepsBoostLaw (handSlotsOn o) := by
  intro s law active
  rw [handSlotsOn_overrides] at active
  rw [handSlotsOn_oneShot]
  split
  · rfl
  · next wasActive => exact law (by simpa [active, Option.isSome_iff_ne_none] using wasActive)

/-! ## The taking of a frame -/

theorem takeOverride_keepsBoostLaw (kind mask value duration : Byte) :
    KeepsBoostLaw (fun s => (takeOverride kind mask value duration s).2) := by
  intro s law
  dsimp only
  unfold takeOverride
  split
  · split
    · split
      · exact handSlotsOn_keepsBoostLaw _ s law
      · exact law
    · exact law
  · exact law

theorem takeCancel_keepsBoostLaw (kind mask : Byte) : KeepsBoostLaw (fun s => (takeCancel kind mask s).2) := by
  intro s law
  dsimp only
  unfold takeCancel
  split
  · split
    · split
      · exact handSlotsOn_keepsBoostLaw _ s law
      · exact law
    · split
      · split
        · exact handSlotsOn_keepsBoostLaw _ s law
        · exact law
      · exact law
  · exact law

/-- R170: of the bulletins only OVERRIDE and CANCEL reach what R94 speaks of. -/
theorem takeBulletin_keepsBoostLaw (own : Bool) (sender : Nat) (b : Bulletin) :
    KeepsBoostLaw (fun s => (takeBulletin own sender b s).state) := by
  cases b with
  | override kind mask value duration => exact takeOverride_keepsBoostLaw kind mask value duration
  | cancel kind mask => exact takeCancel_keepsBoostLaw kind mask
  | allowance => exact LeavesBoost.keepsBoostLaw fun s => by simp only [takeBulletin, takesAllowance]; split <;> simp
  | lapse => exact LeavesBoost.keepsBoostLaw fun s => by simp only [takeBulletin, takesLapse]; split <;> simp
  | expel => exact LeavesBoost.keepsBoostLaw fun s => by simp only [takeBulletin, takesExpel]; split <;> simp
  | join =>
    exact LeavesBoost.keepsBoostLaw fun s => by simp only [takeBulletin, takesJoin]; (repeat' split) <;> simp
  | status => exact LeavesBoost.keepsBoostLaw fun s => by simp only [takeBulletin, takesStatus]; split <;> simp
  | claim => exact LeavesBoost.keepsBoostLaw fun s => by simp only [takeBulletin, takesClaim]; split <;> simp
  | ret => exact LeavesBoost.keepsBoostLaw fun s => by simp only [takeBulletin, takesReturn]; split <;> simp
  | draft => exact LeavesBoost.keepsBoostLaw fun s => by simp only [takeBulletin, takesDraft]; split <;> simp
  | report => exact LeavesBoost.keepsBoostLaw fun s => by simp only [takeBulletin]; split <;> simp
  | snapshot | query => exact LeavesBoost.keepsBoostLaw fun s => by simp [takeBulletin]
  | unknown => exact fun _ law => law

@[simp] theorem dropOwnClaim_frame (c : Course) :
    (dropOwnClaim c).state.doors = c.state.doors ∧ (dropOwnClaim c).state.overrides = c.state.overrides := by
  simp [dropOwnClaim]

@[simp] theorem mismatchResponse_frame (c : Course) :
    (mismatchResponse c).state.doors = c.state.doors ∧ (mismatchResponse c).state.overrides = c.state.overrides := by
  unfold mismatchResponse
  split
  · rw [mapState_state]
    split <;> simp
  · exact ⟨rfl, rfl⟩

/-- R147, R152, R156: the membership unit's response has no part in R94. -/
@[simp] theorem memberResponse_frame (own : Bool) (b : Bulletin) (c : Course) :
    (memberResponse own b c).state.doors = c.state.doors ∧
      (memberResponse own b c).state.overrides = c.state.overrides := by
  simp [memberResponse]

theorem hearAddress_leavesBoost (own : Option OwnFrame) (address : Nat) :
    LeavesBoost (fun s => hearPanel address (addressed own address s)) := by
  intro s
  simp only [hearPanel]
  split <;> simp [restartPanelSilence]

/-- R170: of the course of a taking only the blocks' part reaches what R94 speaks of. -/
theorem course_keepsBoostLaw (address : Nat) (b : Bulletin) : KeepsBoostLaw (fun s => (course address b s).state) := by
  intro s law
  have heard := (hearAddress_leavesBoost (s.ownFrame address b) address).keepsBoostLaw s law
  have taken := takeBulletin_keepsBoostLaw (s.ownFrame address b).isSome address
    (takenBulletin (s.ownFrame address b) b) _ heard
  simpa [course, BoostLaw] using taken

theorem filteredFrame_leavesBoost (own : Option OwnFrame) (address : Nat) :
    LeavesBoost (filteredFrame own address) := by
  intro s
  unfold filteredFrame
  dsimp only
  split <;> simp

theorem completeFrame_keepsBoostLaw (codes : Sensors) (address : BitVec 4) (b : Bulletin) :
    KeepsBoostLaw (completeFrame codes address b) := by
  intro s law
  have begun : BoostLaw (s.heardFrame codes) := law
  unfold completeFrame
  dsimp only
  split
  · split
    · exact boostLaw_finish (course_keepsBoostLaw _ b _ begun) _ _
    · exact (filteredFrame_leavesBoost _ _).keepsBoostLaw _ begun
  · exact begun

/-! ## Timers and raw inputs -/

theorem slotEnds_keepsBoostLaw (kind : OverrideKind) : KeepsBoostLaw (slotEnds kind) := by
  intro s law
  unfold slotEnds
  split
  · exact law
  · exact boostLaw_finish (handSlotsOn_keepsBoostLaw _ s law) _ _

theorem panelFallsSilent_keepsBoostLaw : KeepsBoostLaw panelFallsSilent := by
  intro s law
  unfold panelFallsSilent
  split
  · exact law
  · split
    · exact boostLaw_finish (handSlotsOn_keepsBoostLaw _ s law) _ _
    · exact law

theorem doorLevel_keepsBoostLaw (door : Fin 2) : KeepsBoostLaw (doorLevel door) := by
  intro s law
  unfold doorLevel
  split
  · exact law
  · exact boostLaw_finish (doorTakesLevel_keepsBoostLaw door _ s law) _ _

theorem longOpenEnds_keepsBoostLaw (door : Fin 2) : KeepsBoostLaw (longOpenEnds door) := by
  intro s law
  unfold longOpenEnds
  split
  · exact law
  · have moved := (setDoor_leavesBoost door { s.door door with state := .longOpen, longOpen := none }).keepsBoostLaw
    exact boostLaw_finish (checkLayover_keepsBoostLaw _ (moved s law)) _ _

/-- R98: the tail's end is the boost's end. -/
theorem tailEnds_keepsBoostLaw : KeepsBoostLaw tailEnds := by
  intro s law
  unfold tailEnds
  split
  · exact law
  · exact boostLaw_finish (boostLaw_of_idle (setOneShot_oneShot _ _ _)) _ _

theorem spillEnds_leavesBoost (station : Nat) : LeavesBoost (spillEnds station) := by
  intro s; unfold spillEnds; split <;> simp

theorem outdoorAgeEnds_leavesBoost : LeavesBoost outdoorAgeEnds := by
  intro s; unfold outdoorAgeEnds; split <;> simp

theorem doorRaw_leavesBoost (door : Fin 2) (apart : Bool) : LeavesBoost (doorRaw door apart) := by
  intro s; unfold doorRaw; dsimp only; split <;> simp [restartDoorDebounce]

theorem fogRaw_leavesBoost (active : Bool) : LeavesBoost (fogRaw active) := by
  intro s; unfold fogRaw; dsimp only; split <;> simp

theorem fogLevel_leavesBoost : LeavesBoost fogLevel := by
  intro s; unfold fogLevel; split <;> simp

theorem rampEnds_leavesBoost : LeavesBoost rampEnds := by
  intro s; unfold rampEnds; split <;> simp

theorem holdEnds_leavesBoost : LeavesBoost holdEnds := by
  intro s; unfold holdEnds; split <;> simp

theorem trimEnds_leavesBoost : LeavesBoost trimEnds := by
  intro s; unfold trimEnds; split <;> simp

theorem censusEnds_leavesBoost : LeavesBoost censusEnds := by
  intro s; unfold censusEnds; split <;> simp

theorem catchUpEnds_leavesBoost : LeavesBoost catchUpEnds := by
  intro s; unfold catchUpEnds; split <;> simp

theorem statusPeriodEnds_leavesBoost : LeavesBoost statusPeriodEnds := by
  intro s; unfold statusPeriodEnds; split <;> simp

theorem ageReaches_leavesBoost (station : Nat) : LeavesBoost (ageReaches station) := by
  intro s; unfold ageReaches; split <;> simp

theorem settleEnds_leavesBoost : LeavesBoost settleEnds := by
  intro s; unfold settleEnds enterRideThrough; dsimp only; (repeat' split) <;> simp

theorem rideThroughEnds_leavesBoost : LeavesBoost rideThroughEnds := by
  intro s; unfold rideThroughEnds; split <;> simp

theorem qualifyEnds_leavesBoost : LeavesBoost qualifyEnds := by
  intro s; unfold qualifyEnds; split <;> simp

theorem lineRaw_leavesBoost (high : Bool) : LeavesBoost (lineRaw high) := by
  intro s; unfold lineRaw; dsimp only; split <;> simp

theorem lineLevel_leavesBoost : LeavesBoost lineLevel := by
  intro s; unfold lineLevel supplySeesLevel enterRideThrough; (repeat' split) <;> simp

theorem leaseRunsOut_leavesBoost : LeavesBoost leaseRunsOut := by
  intro s; unfold leaseRunsOut; dsimp only; (repeat' split) <;> simp

theorem spacingEnds_leavesBoost : LeavesBoost spacingEnds := by
  intro s; unfold spacingEnds; split <;> simp

theorem returnTimerEnds_leavesBoost : LeavesBoost returnTimerEnds := by
  intro s; unfold returnTimerEnds; split <;> simp

theorem secondEnds_leavesBoost : LeavesBoost secondEnds := by
  intro s; unfold secondEnds; split <;> simp

theorem periodEnds_leavesBoost : LeavesBoost periodEnds := by
  intro s; unfold periodEnds; split <;> simp

theorem stageTimerEnds_leavesBoost (stage : Nat) : LeavesBoost (stageTimerEnds stage) := by
  intro s; unfold stageTimerEnds; split <;> simp

/-! ## Bus events -/

theorem answerHeard_leavesBoost (heard : List Bool) : LeavesBoost (answerHeard heard) := fun s => by simp

theorem ownFrameReadBack_leavesBoost (heard : List Bool) : LeavesBoost (ownFrameReadBack heard) := fun s => by simp

theorem frameLost_leavesBoost : LeavesBoost frameLost := fun s => by simp

theorem startOffered_leavesBoost : LeavesBoost startOffered := fun s => by simp

theorem busBecomesIdle_leavesBoost : LeavesBoost busBecomesIdle := fun s => by simp

theorem idleWaitEnds_leavesBoost : LeavesBoost idleWaitEnds := fun s => by simp

theorem muteEnds_leavesBoost : LeavesBoost muteEnds := fun s => by simp

/-! ## Start-up and the passing of time -/

@[simp] theorem tableInForce_oneShot_overrides (image : List Byte) (vt : VehicleTable) (s : State) :
    (tableInForce image vt s).doors.oneShot = s.doors.oneShot ∧
      (tableInForce image vt s).overrides = s.overrides := by
  simp [tableInForce]

theorem readDone_leavesBoost (bytes : List Byte) : LeavesBoost (readDone bytes) := by
  intro s; unfold readDone loadSucceeds loadFails; (repeat' split) <;> simp

theorem readFails_leavesBoost : LeavesBoost readFails := by
  intro s; unfold readFails loadFails; split <;> simp

theorem resetReleased_leavesBoost (straps : BitVec 3) : LeavesBoost (resetReleased straps) := by
  intro s; unfold resetReleased; split <;> simp

/-- R93: either reset leaves the one-shot IDLE. -/
theorem afterPowerOn_keepsBoostLaw : KeepsBoostLaw afterPowerOn := fun _ _ => boostLaw_of_idle rfl

theorem afterExternal_keepsBoostLaw : KeepsBoostLaw afterExternal := fun _ _ => boostLaw_of_idle rfl

theorem passMillisecond_keepsBoostLaw : KeepsBoostLaw passMillisecond := by
  intro s law active
  exact law (by simpa [passMillisecond, Overrides.tick, Slot.tick] using active)

/-! ## Every command and every step -/

/-- A command keeps the law when the operation behind it does; its beginning has no part in R94. -/
theorem exec_keepsBoostLaw (c : Instr) {s : State} (law : BoostLaw s) : ∃ t, exec c s = .next t ∧ BoostLaw t := by
  cases c with
  | allowance | lapse | expel | join | status | claim | ret | draft | override | cancel | snapshot | query | report
  | unknownKindFrame => exact ⟨_, rfl, completeFrame_keepsBoostLaw _ _ _ s law⟩
  | slotExpiry codes kind => exact ⟨_, rfl, (slotEnds_keepsBoostLaw kind).whenRunning _ law⟩
  | panelSilenceExpiry => exact ⟨_, rfl, panelFallsSilent_keepsBoostLaw.whenRunning _ law⟩
  | doorLevelChange codes door => exact ⟨_, rfl, (doorLevel_keepsBoostLaw door).whenRunning _ law⟩
  | longOpenExpiry codes door => exact ⟨_, rfl, (longOpenEnds_keepsBoostLaw door).whenRunning _ law⟩
  | tailTimerExpiry => exact ⟨_, rfl, tailEnds_keepsBoostLaw.whenRunning _ law⟩
  | spillTimerExpiry codes station =>
    exact ⟨_, rfl, (spillEnds_leavesBoost station).keepsBoostLaw.whenRunning _ law⟩
  | outdoorAgeExpiry => exact ⟨_, rfl, outdoorAgeEnds_leavesBoost.keepsBoostLaw.whenRunning _ law⟩
  | doorRawChange door apart => exact ⟨_, rfl, (doorRaw_leavesBoost door apart).keepsBoostLaw _ law⟩
  | fogRawChange active => exact ⟨_, rfl, (fogRaw_leavesBoost active).keepsBoostLaw _ law⟩
  | fogLevelChange => exact ⟨_, rfl, fogLevel_leavesBoost.keepsBoostLaw.whenRunning _ law⟩
  | rampTimerExpiry => exact ⟨_, rfl, rampEnds_leavesBoost.keepsBoostLaw.whenRunning _ law⟩
  | holdTimerExpiry => exact ⟨_, rfl, holdEnds_leavesBoost.keepsBoostLaw.whenRunning _ law⟩
  | trimTimerExpiry => exact ⟨_, rfl, trimEnds_leavesBoost.keepsBoostLaw.whenRunning _ law⟩
  | censusTimerExpiry => exact ⟨_, rfl, censusEnds_leavesBoost.keepsBoostLaw.whenRunning _ law⟩
  | catchUpTimerExpiry => exact ⟨_, rfl, catchUpEnds_leavesBoost.keepsBoostLaw.whenRunning _ law⟩
  | statusPeriodExpiry => exact ⟨_, rfl, statusPeriodEnds_leavesBoost.keepsBoostLaw.whenRunning _ law⟩
  | silenceAgeLimit station => exact ⟨_, rfl, (ageReaches_leavesBoost station).keepsBoostLaw.whenRunning _ law⟩
  | settleTimerExpiry => exact ⟨_, rfl, settleEnds_leavesBoost.keepsBoostLaw.whenRunning _ law⟩
  | rideThroughExpiry => exact ⟨_, rfl, rideThroughEnds_leavesBoost.keepsBoostLaw.whenRunning _ law⟩
  | qualifyTimerExpiry => exact ⟨_, rfl, qualifyEnds_leavesBoost.keepsBoostLaw.whenRunning _ law⟩
  | lineRawChange high => exact ⟨_, rfl, (lineRaw_leavesBoost high).keepsBoostLaw _ law⟩
  | lineLevelChange => exact ⟨_, rfl, lineLevel_leavesBoost.keepsBoostLaw _ law⟩
  | leaseTimerExpiry => exact ⟨_, rfl, leaseRunsOut_leavesBoost.keepsBoostLaw.whenRunning _ law⟩
  | claimSpacingExpiry => exact ⟨_, rfl, spacingEnds_leavesBoost.keepsBoostLaw.whenRunning _ law⟩
  | returnTimerExpiry => exact ⟨_, rfl, returnTimerEnds_leavesBoost.keepsBoostLaw.whenRunning _ law⟩
  | statisticsSecond => exact ⟨_, rfl, secondEnds_leavesBoost.keepsBoostLaw.whenRunning _ law⟩
  | periodicEvaluation => exact ⟨_, rfl, periodEnds_leavesBoost.keepsBoostLaw.whenRunning _ law⟩
  | stageMinimumTimerExpiry codes stage =>
    exact ⟨_, rfl, (stageTimerEnds_leavesBoost stage).keepsBoostLaw.whenRunning _ law⟩
  | frameError heard => exact ⟨_, rfl, (answerHeard_leavesBoost heard).keepsBoostLaw _ law⟩
  | ownFrameVoid heard => exact ⟨_, rfl, (ownFrameReadBack_leavesBoost heard).keepsBoostLaw.whenRunning _ law⟩
  | ownFrameLost => exact ⟨_, rfl, frameLost_leavesBoost.keepsBoostLaw.whenRunning _ law⟩
  | frameStart => exact ⟨_, rfl, startOffered_leavesBoost.keepsBoostLaw _ law⟩
  | busIdle => exact ⟨_, rfl, busBecomesIdle_leavesBoost.keepsBoostLaw _ law⟩
  | busIdle2ms => exact ⟨_, rfl, idleWaitEnds_leavesBoost.keepsBoostLaw _ law⟩
  | muteTimerExpiry => exact ⟨_, rfl, muteEnds_leavesBoost.keepsBoostLaw _ law⟩
  | startBit => exact ⟨_, rfl, law⟩
  | powerOnReset => exact ⟨_, rfl, afterPowerOn_keepsBoostLaw _ law⟩
  | externalReset => exact ⟨_, rfl, afterExternal_keepsBoostLaw _ law⟩
  | resetRelease straps => exact ⟨_, rfl, (resetReleased_leavesBoost straps).keepsBoostLaw _ law⟩
  | optionReadDone codes bytes => exact ⟨_, rfl, (readDone_leavesBoost bytes).keepsBoostLaw _ law⟩
  | optionReadFailed => exact ⟨_, rfl, readFails_leavesBoost.keepsBoostLaw _ law⟩

/-- The command in front, the event that is due, or a millisecond. -/
theorem step_keepsBoostLaw {s : State} (law : BoostLaw s) : ∃ t, step s = .next t ∧ BoostLaw t := by
  unfold step idleStep
  split
  · exact exec_keepsBoostLaw _ law
  · split
    · exact exec_keepsBoostLaw _ law
    · exact ⟨_, rfl, passMillisecond_keepsBoostLaw s law⟩

/-- R94: no boost without a HELD or TAIL one-shot. -/
theorem boost_of_idle {s : State} (idle : s.doors.oneShot = .idle) : s.boost = 0 := by
  simp [State.boost, State.boostActive, idle]

end Sys2Proof.Machine
end

section
/-! The obligation on the boost one-shot (R94). -/

namespace Sys2Proof.Machine

/-- Settles O55: the step that keeps the law is the only one the state makes. -/
theorem boostLawKept : Obligations.BoostLawKept := by
  refine ⟨fun s idle => boost_of_idle idle, fun s t law stepped => ?_⟩
  obtain ⟨u, next, kept⟩ := step_keepsBoostLaw law
  obtain rfl : t = u := Host.Outcome.next.inj (stepped.symm.trans next)
  exact kept

end Sys2Proof.Machine
end

section
/-! Sums of lists of numbers, and a list that a member is put behind. -/

namespace Sys2Proof.Machine

theorem sum_map_le {α : Type} {f g : α → Nat} {l : List α} (each : ∀ x ∈ l, f x ≤ g x) :
    (l.map f).sum ≤ (l.map g).sum := by
  induction l with
  | nil => exact Nat.le_refl _
  | cons x xs ih =>
    simp only [List.map_cons, List.sum_cons]
    exact Nat.add_le_add (each x (by simp)) (ih fun y mem => each y (by simp [mem]))

theorem le_sum_of_member {n : Nat} {l : List Nat} (mem : n ∈ l) : n ≤ l.sum := by
  induction l with
  | nil => cases mem
  | cons x xs ih =>
    rw [List.sum_cons]
    cases mem with
    | head => exact Nat.le_add_right _ _
    | tail _ later => exact Nat.le_trans (ih later) (Nat.le_add_left _ _)

theorem nodup_concat {α : Type} {l : List α} {a : α} (nodup : l.Nodup) (absent : a ∉ l) : (l ++ [a]).Nodup := by
  refine List.nodup_append.mpr ⟨nodup, by simp, fun x mem y last => ?_⟩
  rw [List.mem_singleton.mp last]
  exact fun same => absent (same ▸ mem)

end Sys2Proof.Machine
end

section
/-! What all commands have in common. Every command answers a next state, and none but those of start-up touch the loader.
In a configured station a command either ends in the evaluation that closes an event (`finish`) or leaves alone all that
loads, shares and outputs depend on (`Undisturbed`); in a station without a table it moves neither zone nor membership. -/

namespace Sys2Proof.Machine

/-- The state that a command leads to. -/
def State.after (c : Instr) (s : State) : State :=
  match exec c s with
  | .next t => t
  | .fault _ | .refused _ => s

theorem exec_after (c : Instr) (s : State) : exec c s = .next (s.after c) := by cases c <;> rfl

/-- The state that a step leads to: the command in front, the event that is due, or a millisecond. -/
def State.stepped (s : State) : State :=
  match s.pending with
  | c :: rest => ({ s with pending := rest } : State).after c
  | [] =>
    match s.nextDue with
    | some c => s.after c
    | none => passMillisecond s

theorem step_stepped (s : State) : step s = .next s.stepped := by
  unfold step idleStep State.stepped
  cases s.pending with
  | cons c rest => exact exec_after c _
  | nil =>
    cases s.nextDue with
    | some c => exact exec_after c s
    | none => rfl

/-- What every command and every millisecond keeps, every step keeps. -/
theorem step_keeps {P : State → Prop} (waiting : ∀ s rest, P s → P { s with pending := rest })
    (command : ∀ c s, P s → P (s.after c)) (millisecond : ∀ s, P s → P (passMillisecond s)) {s t : State}
    (stepped : step s = .next t) (h : P s) : P t := by
  obtain rfl : s.stepped = t := Host.Outcome.next.inj ((step_stepped s).symm.trans stepped)
  unfold State.stepped
  split
  · exact command _ _ (waiting _ _ h)
  · split
    · exact command _ _ h
    · exact millisecond _ h

/-! ## Whether the station is configured -/

theorem running_of_member {s t : State} (h : t.member.state = s.member.state) : t.running = s.running := by
  simp only [State.running, h]

theorem me_of_loader {s t : State} (h : t.loader = s.loader) : t.me = s.me := by simp only [State.me, h]

theorem running_setMember (m : MemberState) (s : State) (configured : m ≠ .undecided ∧ m ≠ .unconfigured) :
    (setMember m s).running = true := by
  simp only [State.running, setMember_state]
  cases m <;> simp_all

@[simp] theorem running_queueKind (kind : TxKind) (s : State) : (queueKind kind s).running = s.running :=
  running_of_member (by simp)

theorem loadsAllowed_of_not_running {s : State} (h : s.running = false) : s.loadsAllowed = false := by
  simp [State.loadsAllowed, h]

theorem finish_of_not_running {s : State} (h : s.running = false) (ev : Ev) (before : State) : finish ev before s = s := by
  simp [finish, h]

theorem finish_of_running {s : State} (h : s.running = true) (ev : Ev) (before : State) :
    finish ev before s = finishRunning ev before s := by
  simp [finish, h]

theorem whenRunning_of_not {s : State} (h : s.running = false) (f : State → State) : whenRunning f s = s := by
  simp [whenRunning, h]

/-! ## The parts of a taking -/

/-- All of the zone but the setpoint with its flag stands. -/
def Zone.sameButSetpoint (z w : Zone) : Prop := { w with setpoint := z.setpoint, pendingFlag := z.pendingFlag } = z

theorem handSlotsOn_zone (o : Overrides) (s : State) :
    (handSlotsOn o s).zone = (recomputeSetpoint { s with overrides := o }).zone := by
  unfold handSlotsOn; dsimp only; (repeat' split) <;> simp

@[simp] theorem handSlotsOn_sameButSetpoint (o : Overrides) (s : State) :
    s.zone.sameButSetpoint (handSlotsOn o s).zone := by
  rw [handSlotsOn_zone]; rfl

@[simp] theorem sameButSetpoint_refl (z : Zone) : z.sameButSetpoint z := rfl

@[simp] theorem takeOverride_frame (kind mask value duration : Byte) (s : State) :
    (takeOverride kind mask value duration s).2.pending = s.pending ∧
      (takeOverride kind mask value duration s).2.moment = s.moment ∧
      (takeOverride kind mask value duration s).2.pins = s.pins ∧
      (takeOverride kind mask value duration s).2.loader = s.loader ∧
      (takeOverride kind mask value duration s).2.table = s.table ∧
      (takeOverride kind mask value duration s).2.share = s.share ∧
      (takeOverride kind mask value duration s).2.supply = s.supply ∧
      (takeOverride kind mask value duration s).2.member = s.member ∧
      (takeOverride kind mask value duration s).2.stats = s.stats ∧
      s.zone.sameButSetpoint (takeOverride kind mask value duration s).2.zone := by
  unfold takeOverride; (repeat' split) <;> simp

@[simp] theorem takeCancel_frame (kind mask : Byte) (s : State) :
    (takeCancel kind mask s).2.pending = s.pending ∧ (takeCancel kind mask s).2.moment = s.moment ∧
      (takeCancel kind mask s).2.pins = s.pins ∧ (takeCancel kind mask s).2.loader = s.loader ∧
      (takeCancel kind mask s).2.table = s.table ∧ (takeCancel kind mask s).2.share = s.share ∧
      (takeCancel kind mask s).2.supply = s.supply ∧ (takeCancel kind mask s).2.member = s.member ∧
      (takeCancel kind mask s).2.stats = s.stats ∧ s.zone.sameButSetpoint (takeCancel kind mask s).2.zone := by
  unfold takeCancel; (repeat' split) <;> simp

@[simp] theorem hear_member_state (station : Nat) (p : StatusPayload) (s : State) :
    (hear station p s).member.state = s.member.state := by
  unfold hear; split <;> simp

@[simp] theorem leaseRenewed_member_state (seconds : Nat) (s : State) :
    (leaseRenewed seconds s).member.state = s.member.state := by simp [leaseRenewed]

@[simp] theorem leaseEnded_member_state (s : State) : (leaseEnded s).member.state = s.member.state := by
  simp [leaseEnded]

/-- A bulletin's taking leaves the loader, the supply, the membership state and, but for the setpoint, the zone. -/
@[simp] theorem takeBulletin_frame (own : Bool) (sender : Nat) (b : Bulletin) (s : State) :
    (takeBulletin own sender b s).state.pending = s.pending ∧ (takeBulletin own sender b s).state.moment = s.moment ∧
      (takeBulletin own sender b s).state.pins = s.pins ∧ (takeBulletin own sender b s).state.loader = s.loader ∧
      (takeBulletin own sender b s).state.supply = s.supply ∧
      (takeBulletin own sender b s).state.member.state = s.member.state ∧
      s.zone.sameButSetpoint (takeBulletin own sender b s).state.zone := by
  cases b with
  | allowance => simp only [takeBulletin, takesAllowance]; split <;> simp
  | lapse => simp only [takeBulletin, takesLapse]; split <;> simp
  | expel => simp only [takeBulletin, takesExpel]; split <;> simp
  | join => simp only [takeBulletin, takesJoin]; (repeat' split) <;> simp
  | status => simp only [takeBulletin, takesStatus]; split <;> simp
  | claim => simp only [takeBulletin, takesClaim]; split <;> simp
  | ret => simp only [takeBulletin, takesReturn]; split <;> simp
  | draft => simp only [takeBulletin, takesDraft]; split <;> simp
  | override => simp [takeBulletin, slotCourse]
  | cancel => simp [takeBulletin, slotCourse]
  | report => simp only [takeBulletin]; split <;> simp
  | snapshot | query | unknown => simp [takeBulletin]

/-- R147, R152, R156: what the membership unit's response leaves. -/
@[simp] theorem mismatchResponse_blocks (c : Course) :
    (mismatchResponse c).state.pending = c.state.pending ∧ (mismatchResponse c).state.moment = c.state.moment ∧
      (mismatchResponse c).state.pins = c.state.pins ∧ (mismatchResponse c).state.loader = c.state.loader ∧
      (mismatchResponse c).state.share = c.state.share ∧ (mismatchResponse c).state.supply = c.state.supply ∧
      (mismatchResponse c).state.zone = c.state.zone := by
  unfold mismatchResponse
  split
  · rw [mapState_state]
    split <;> simp [dropOwnClaim]
  · simp

@[simp] theorem memberResponse_blocks (own : Bool) (b : Bulletin) (c : Course) :
    (memberResponse own b c).state.pending = c.state.pending ∧ (memberResponse own b c).state.moment = c.state.moment ∧
      (memberResponse own b c).state.pins = c.state.pins ∧ (memberResponse own b c).state.loader = c.state.loader ∧
      (memberResponse own b c).state.table = (mismatchResponse c).state.table ∧
      (memberResponse own b c).state.share = c.state.share ∧ (memberResponse own b c).state.supply = c.state.supply ∧
      (memberResponse own b c).state.zone = c.state.zone := by
  simp [memberResponse]

@[simp] theorem addressed_member_state (own : Option OwnFrame) (address : Nat) (s : State) :
    (addressed own address s).member.state = s.member.state := by
  unfold addressed closeOwnFrame; cases own <;> rfl

@[simp] theorem expelSettled_member_state (own : Option OwnFrame) (s : State) :
    (expelSettled own s).member.state = s.member.state := by
  unfold expelSettled; (repeat' split) <;> rfl

/-- The membership unit's response to a taking keeps a configured station configured. -/
theorem running_mismatchResponse {c : Course} (h : c.state.running = true) : (mismatchResponse c).state.running = true := by
  have dropped : (dropOwnClaim c).state.running = true := by
    rw [running_of_member (s := c.state)]
    · exact h
    · simp [dropOwnClaim]
  unfold mismatchResponse
  split
  · rw [mapState_state]
    split
    · exact running_setMember _ _ (by decide)
    · exact dropped
  · exact h

theorem running_joinResponse (own : Bool) (b : Bulletin) {s : State} (h : s.running = true) :
    (joinResponse own b s).running = true := by
  unfold joinResponse
  split
  · split
    · exact running_setMember _ _ (by decide)
    · exact h
  · split
    · unfold selfExpelled
      rw [running_queueKind]
      exact running_setMember _ _ (by decide)
    · exact h
  · exact h

theorem running_catchUpResponse (m : MemberState) {s : State} (h : s.running = true) :
    (catchUpResponse m s).running = true := by
  unfold catchUpResponse checkCatchUp
  (repeat' split)
  · exact running_setMember _ _ (by decide)
  · exact h
  · exact h

theorem running_clashResponse (own : Bool) (address : Nat) {s : State} (h : s.running = true) :
    (clashResponse own address s).running = true := by
  unfold clashResponse
  split
  · exact running_setMember _ _ (by decide)
  · exact h

theorem running_memberResponse (own : Bool) (b : Bulletin) {c : Course} (h : c.state.running = true) :
    (memberResponse own b c).state.running = true := by
  have joined := running_joinResponse own b (s := syncAges (mismatchResponse c).state) (running_mismatchResponse h)
  exact running_catchUpResponse _ (s := syncHeard (joinResponse own b (syncAges (mismatchResponse c).state))) joined

@[simp] theorem course_frame (address : Nat) (b : Bulletin) (s : State) :
    (course address b s).state.pending = s.pending ∧ (course address b s).state.moment = s.moment ∧
      (course address b s).state.pins = s.pins ∧ (course address b s).state.loader = s.loader ∧
      (course address b s).state.supply = s.supply ∧ s.zone.sameButSetpoint (course address b s).state.zone := by
  simp [course]
  have taken := (takeBulletin_frame (s.ownFrame address b).isSome address (takenBulletin (s.ownFrame address b) b)
    (hearPanel address (addressed (s.ownFrame address b) address s))).2.2.2.2.2.2
  simpa using taken

theorem running_course (address : Nat) (b : Bulletin) {s : State} (h : s.running = true) :
    (course address b s).state.running = true := by
  refine running_clashResponse _ _ (running_memberResponse _ _ ?_)
  rw [mapState_state, running_of_member (s := s)]
  · exact h
  · simp

end Sys2Proof.Machine
end

section
/-! The two ends that a command has in a configured station: `finish`, or nothing disturbed. -/

namespace Sys2Proof.Machine

/-- All that loads, shares and outputs depend on stands: between `s` and `t` only timers, pins, the transmit queue, the
statistics and the membership unit's ages may have moved. -/
structure Undisturbed (s t : State) : Prop where
  pending : t.pending = s.pending
  loader : t.loader = s.loader
  table : t.table = s.table
  share : { t.share with returnTimer := s.share.returnTimer } = s.share
  supply : { t.supply with debounce := s.supply.debounce } = s.supply
  zone : t.zone = s.zone
  oneShot : t.doors.oneShot = s.doors.oneShot
  spill : t.doors.spill = s.doors.spill
  outdoor : t.doors.outdoor = s.doors.outdoor
  defrost : { t.defrost with fogDebounce := s.defrost.fogDebounce } = s.defrost
  overrides : { t.overrides with panelSilence := s.overrides.panelSilence } = s.overrides
  member : t.member.state = s.member.state

/-- The command ended in the evaluation that closes an event; nothing before it touched loader, stage count and fan, and
of FAN_FORCE it left what stood or a value within range (R137). -/
def Finishes (s t : State) : Prop :=
  ∃ ev r u, t = finish ev r u ∧ u.running = true ∧ u.pending = s.pending ∧ u.loader = s.loader ∧
    (u.zone.stages.length = s.zone.stages.length ∧ u.zone.fan = s.zone.fan) ∧
    ∀ x, u.overrides.fanForce = some x → x.value ≤ 3 ∨ ∃ y, s.overrides.fanForce = some y ∧ y.value = x.value

theorem Undisturbed.refl (s : State) : Undisturbed s s := ⟨rfl, rfl, rfl, rfl, rfl, rfl, rfl, rfl, rfl, rfl, rfl, rfl⟩

theorem Undisturbed.trans {s u t : State} (first : Undisturbed s u) (last : Undisturbed u t) : Undisturbed s t where
  pending := last.pending.trans first.pending
  loader := last.loader.trans first.loader
  table := last.table.trans first.table
  share := (congrArg (fun x => { x with returnTimer := s.share.returnTimer }) last.share).trans first.share
  supply := (congrArg (fun x => { x with debounce := s.supply.debounce }) last.supply).trans first.supply
  zone := last.zone.trans first.zone
  oneShot := last.oneShot.trans first.oneShot
  spill := last.spill.trans first.spill
  outdoor := last.outdoor.trans first.outdoor
  defrost := (congrArg (fun x => { x with fogDebounce := s.defrost.fogDebounce }) last.defrost).trans first.defrost
  overrides := (congrArg (fun x => { x with panelSilence := s.overrides.panelSilence }) last.overrides).trans
    first.overrides
  member := last.member.trans first.member

theorem undisturbed_begin (codes : Sensors) (s : State) : Undisturbed s (begin codes s) :=
  ⟨rfl, rfl, rfl, rfl, rfl, rfl, rfl, rfl, rfl, rfl, rfl, rfl⟩

theorem undisturbed_nextMoment (s : State) : Undisturbed s (nextMoment s) :=
  ⟨rfl, rfl, rfl, rfl, rfl, rfl, rfl, rfl, rfl, rfl, rfl, rfl⟩

/-- Only the bus, the statistics, the membership unit's other items and the model's own moved. -/
theorem undisturbed_of_blocks {s t : State} (own : t.pending = s.pending ∧ t.loader = s.loader) (table : t.table = s.table)
    (share : t.share = s.share) (supply : t.supply = s.supply) (zone : t.zone = s.zone) (doors : t.doors = s.doors)
    (defrost : t.defrost = s.defrost) (overrides : t.overrides = s.overrides)
    (member : t.member.state = s.member.state) : Undisturbed s t :=
  ⟨own.1, own.2, table, by rw [share], by rw [supply], zone, by rw [doors], by rw [doors], by rw [doors], by rw [defrost],
    by rw [overrides], member⟩

theorem Finishes.of_finish {s r u : State} {ev : Ev} (running : u.running = true)
    (own : u.pending = s.pending ∧ u.loader = s.loader)
    (zone : s.zone.sameButSetpoint u.zone) (overrides : u.overrides = s.overrides) : Finishes s (finish ev r u) := by
  refine ⟨ev, r, u, rfl, running, own.1, own.2, ⟨congrArg (·.stages.length) zone, congrArg (·.fan) zone⟩, fun x slot => .inr ⟨x, ?_, rfl⟩⟩
  rw [← overrides]; exact slot

/-- The two ends of a command in a configured station. -/
def Ends (s t : State) : Prop := Undisturbed s t ∨ Finishes s t

/-- The two ends of a command's operation. -/
def EndsWell (f : State → State) : Prop := ∀ s : State, s.running = true → Ends s (f s)

theorem Ends.of_begin {codes : Sensors} {s t : State} (h : Ends (begin codes s) t) : Ends s t :=
  h.imp (undisturbed_begin codes s).trans id

theorem Ends.of_nextMoment {s t : State} (h : Ends (nextMoment s) t) : Ends s t :=
  h.imp (undisturbed_nextMoment s).trans id

theorem EndsWell.whenRunning {f : State → State} (h : EndsWell f) : EndsWell (whenRunning f) := by
  intro s running
  rw [whenRunning_of f s running]
  exact h s running

theorem EndsWell.of_blocks {f : State → State}
    (h : ∀ s, ((f s).pending = s.pending ∧ (f s).loader = s.loader) ∧ (f s).table = s.table ∧ (f s).share = s.share ∧ (f s).supply = s.supply ∧
      (f s).zone = s.zone ∧ (f s).doors = s.doors ∧ (f s).defrost = s.defrost ∧ (f s).overrides = s.overrides ∧
      (f s).member.state = s.member.state) : EndsWell f := by
  intro s _
  obtain ⟨own, table, share, supply, zone, doors, defrost, overrides, member⟩ := h s
  exact .inl (undisturbed_of_blocks own table share supply zone doors defrost overrides member)

theorem Ends.same (s : State) : Ends s s := .inl (.refl s)

/-! ## Commands of the bus -/

theorem answerHeard_ends (heard : List Bool) : EndsWell (fun s => answerHeard heard (frameHeard s)) :=
  .of_blocks fun s => by simp

theorem ownFrameEnds_member (s : State) : (ownFrameEnds s).member = s.member := rfl

theorem frameLost_member_state (s : State) : (frameLost s).member.state = s.member.state := by
  unfold frameLost; split <;> simp

theorem ownFrameFails_member_state (drive : Drive) (s : State) :
    (ownFrameFails drive s).member.state = s.member.state := by simp [ownFrameFails]

theorem ownFrameReadBack_member_state (heard : List Bool) (s : State) :
    (ownFrameReadBack heard s).member.state = s.member.state := by
  unfold ownFrameReadBack; split <;> simp [ownFrameFails_member_state, frameLost_member_state]

theorem ownFrameReadBack_ends (heard : List Bool) : EndsWell (ownFrameReadBack heard) :=
  .of_blocks fun s => by simp [ownFrameReadBack_member_state]

theorem frameLost_ends : EndsWell frameLost := .of_blocks fun s => by simp [frameLost_member_state]

theorem startOffered_ends : EndsWell startOffered := .of_blocks fun s => by simp

theorem busBecomesIdle_ends : EndsWell busBecomesIdle := .of_blocks fun s => by simp

theorem idleWaitEnds_ends : EndsWell idleWaitEnds := .of_blocks fun s => by simp

theorem muteEnds_ends : EndsWell muteEnds := .of_blocks fun s => by simp

theorem frameHeard_ends : EndsWell frameHeard := .of_blocks fun s => by simp

/-! ## Commands of share unit, membership unit and statistics -/

theorem returnTimerEnds_ends : EndsWell returnTimerEnds := by
  intro s _
  unfold returnTimerEnds
  split
  · exact .inl ⟨by simp, by simp, by simp, by simp, by simp, by simp, by simp, by simp, by simp, by simp, by simp, by simp⟩
  · exact .same s
  · exact .same s

theorem leaseRunsOut_ends : EndsWell leaseRunsOut := by
  intro s running
  unfold leaseRunsOut
  dsimp only
  (repeat' split)
  · exact .same s
  · exact .inr (.of_finish (by rw [running_queueKind]; exact running) (by simp) (by simp) (by simp))
  · exact .inr (.of_finish running ⟨rfl, rfl⟩ rfl rfl)

theorem spacingEnds_ends : EndsWell spacingEnds := by
  intro s running
  unfold spacingEnds
  split
  · exact .same s
  · exact .inr (.of_finish running ⟨rfl, rfl⟩ rfl rfl)

theorem censusEnds_ends : EndsWell censusEnds := by
  intro s _
  unfold censusEnds
  split
  · exact .same s
  · refine .inr (.of_finish ?_ (by simp) (by simp) (by simp))
    rw [running_queueKind]
    exact running_setMember _ _ (by decide)

theorem catchUpEnds_ends : EndsWell catchUpEnds := by
  intro s _
  unfold catchUpEnds
  split
  · exact .same s
  · exact .inr (.of_finish (running_setMember _ _ (by decide)) (by simp) (by simp) (by simp))

theorem statusPeriodEnds_ends : EndsWell statusPeriodEnds :=
  .of_blocks fun s => by unfold statusPeriodEnds; split <;> simp

theorem ageReaches_ends (station : Nat) : EndsWell (ageReaches station) :=
  .of_blocks fun s => by unfold ageReaches; split <;> simp

theorem secondEnds_ends : EndsWell secondEnds := .of_blocks fun s => by unfold secondEnds; split <;> simp

/-! ## Commands of supply monitor, zone controller and door unit -/

theorem settleEnds_ends : EndsWell settleEnds := by
  intro s running
  unfold settleEnds
  split
  · exact .same s
  · refine .inr (.of_finish ?_ ?_ ?_ ?_) <;> dsimp only <;> split <;>
      simp [enterRideThrough, running_of_member (s := s), running]

theorem rideThroughEnds_ends : EndsWell rideThroughEnds := by
  intro s running
  unfold rideThroughEnds
  split
  · exact .same s
  · exact .inr (.of_finish ((running_of_member (by simp)).trans running) (by simp) (by simp) (by simp))

theorem qualifyEnds_ends : EndsWell qualifyEnds := by
  intro s running
  unfold qualifyEnds
  split
  · exact .same s
  · exact .inr (.of_finish ((running_of_member (by simp)).trans running) (by simp) (by simp) (by simp))

theorem lineRaw_ends (high : Bool) : EndsWell (lineRaw high) := by
  intro s _
  refine .inl ?_
  unfold lineRaw
  dsimp only
  split <;> constructor <;> rfl

@[simp] theorem supplySeesLevel_frame (s : State) :
    (supplySeesLevel s).pending = s.pending ∧ (supplySeesLevel s).moment = s.moment ∧
      (supplySeesLevel s).pins = s.pins ∧ (supplySeesLevel s).loader = s.loader ∧
      (supplySeesLevel s).table = s.table ∧ (supplySeesLevel s).share = s.share ∧
      (supplySeesLevel s).zone = s.zone ∧ (supplySeesLevel s).doors = s.doors ∧
      (supplySeesLevel s).overrides = s.overrides ∧ (supplySeesLevel s).member = s.member ∧
      (supplySeesLevel s).bus = s.bus ∧ (supplySeesLevel s).stats = s.stats := by
  unfold supplySeesLevel; split <;> simp [enterRideThrough]

theorem lineLevel_ends : EndsWell lineLevel := by
  intro s running
  unfold lineLevel
  split
  · exact .same s
  · exact .inr (.of_finish ((running_of_member (by simp)).trans running) (by simp) (by simp) (by simp))

theorem periodEnds_ends : EndsWell periodEnds := by
  intro s running
  unfold periodEnds
  split
  · exact .same s
  · refine .inr ⟨_, _, _, rfl, (running_of_member (by simp)).trans running, by simp, by simp, by simp, fun x slot => .inr ⟨x, ?_, rfl⟩⟩
    simpa using slot

theorem stageTimerEnds_ends (stage : Nat) : EndsWell (stageTimerEnds stage) := by
  intro s running
  unfold stageTimerEnds
  split
  · exact .inr ⟨_, _, _, rfl, running, rfl, rfl, ⟨by simp [setStages], rfl⟩, fun x slot => .inr ⟨x, slot, rfl⟩⟩
  · exact .same s

theorem doorRaw_ends (door : Fin 2) (apart : Bool) : EndsWell (doorRaw door apart) := by
  intro s _
  refine .inl ?_
  unfold doorRaw restartDoorDebounce setDoor setRawDoor
  dsimp only
  (repeat' split) <;> constructor <;> rfl

theorem doorLevel_ends (door : Fin 2) : EndsWell (doorLevel door) := by
  intro s running
  unfold doorLevel
  split
  · exact .same s
  · exact .inr (.of_finish ((running_of_member (by simp)).trans running) (by simp) (by simp) (by simp))

theorem longOpenEnds_ends (door : Fin 2) : EndsWell (longOpenEnds door) := by
  intro s running
  unfold longOpenEnds
  split
  · exact .same s
  · exact .inr (.of_finish ((running_of_member (by simp)).trans running) (by simp) (by simp) (by simp))

theorem tailEnds_ends : EndsWell tailEnds := by
  intro s running
  unfold tailEnds
  split
  · exact .same s
  · exact .inr (.of_finish ((running_of_member (by simp)).trans running) (by simp) (by simp) (by simp))

theorem spillEnds_ends (station : Nat) : EndsWell (spillEnds station) := by
  intro s running
  unfold spillEnds
  split
  · exact .inr (.of_finish running ⟨rfl, rfl⟩ rfl rfl)
  · exact .same s

theorem outdoorAgeEnds_ends : EndsWell outdoorAgeEnds := by
  intro s running
  unfold outdoorAgeEnds
  split
  · exact .same s
  · exact .inr (.of_finish running ⟨rfl, rfl⟩ rfl rfl)

/-! ## Commands of defrost unit and override table -/

theorem fogRaw_ends (active : Bool) : EndsWell (fogRaw active) := by
  intro s _
  refine .inl ?_
  unfold fogRaw
  dsimp only
  split <;> constructor <;> rfl

theorem fogLevel_ends : EndsWell fogLevel := by
  intro s running
  unfold fogLevel
  split
  · exact .same s
  · exact .inr (.of_finish ((running_of_member (by simp)).trans running) (by simp) (by simp) (by simp))

theorem rampEnds_ends : EndsWell rampEnds := by
  intro s running
  unfold rampEnds
  split
  · exact .inr (.of_finish running ⟨rfl, rfl⟩ rfl rfl)
  · exact .same s

theorem holdEnds_ends : EndsWell holdEnds := by
  intro s running
  unfold holdEnds
  split
  · exact .inr (.of_finish ((running_of_member (by simp)).trans running) (by simp) (by simp) (by simp))
  · exact .same s

theorem trimEnds_ends : EndsWell trimEnds := by
  intro s running
  unfold trimEnds
  split
  · exact .inr (.of_finish running ⟨rfl, rfl⟩ rfl rfl)
  · exact .same s

/-- R137: what FAN_FORCE holds of `o` stood in `p` or is within range. -/
def FanSlotFrom (p o : Overrides) : Prop :=
  ∀ x, o.fanForce = some x → x.value ≤ 3 ∨ ∃ y, p.fanForce = some y ∧ y.value = x.value

theorem FanSlotFrom.refl (p : Overrides) : FanSlotFrom p p := fun x slot => .inr ⟨x, slot, rfl⟩

theorem FanSlotFrom.of_none {p o : Overrides} (empty : o.fanForce = none) : FanSlotFrom p o := by
  intro x slot; rw [empty] at slot; cases slot

theorem FanSlotFrom.of_eq {p o : Overrides} (same : o.fanForce = p.fanForce) : FanSlotFrom p o :=
  fun x slot => .inr ⟨x, same ▸ slot, rfl⟩

theorem emptied_fanSlot (kind : OverrideKind) (o : Overrides) : FanSlotFrom o (o.emptied kind) := by
  cases kind with
  | fanForce => exact .of_none rfl
  | setpointOffset | zoneOff | boostInhibit | economy | defrostMode => exact .of_eq rfl

theorem allEmptied_fanSlot (o : Overrides) : FanSlotFrom o o.allEmptied := .of_none rfl

theorem silenced_fanSlot (o : Overrides) : FanSlotFrom o o.silenced := by
  intro x slot
  exact .inr ⟨x, (Option.filter_eq_some_iff.mp slot).1, rfl⟩

theorem filled_fanSlot {cab : Bool} {kind : OverrideKind} {value duration : Byte} {o p : Overrides}
    (filled : o.filled cab kind value duration = some p) : FanSlotFrom o p := by
  cases kind with
  | fanForce =>
    simp only [Overrides.filled] at filled
    split at filled
    · cases filled
      rename_i inRange
      intro x slot
      cases slot
      exact .inl inRange
    · cases filled
  | zoneOff | boostInhibit | economy =>
    cases filled
    exact .of_eq rfl
  | setpointOffset =>
    simp only [Overrides.filled] at filled
    split at filled
    · cases filled
      exact .of_eq rfl
    · cases filled
  | defrostMode =>
    simp only [Overrides.filled] at filled
    split at filled
    · obtain ⟨mode, _, rfl⟩ := Option.map_eq_some_iff.mp filled
      exact .of_eq rfl
    · cases filled

theorem handSlotsOn_finishes {s : State} (running : s.running = true) {o : Overrides} (slot : FanSlotFrom s.overrides o)
    (ev : Ev) (r : State) : Finishes s (finish ev r (handSlotsOn o s)) := by
  refine ⟨ev, r, _, rfl, (running_of_member (by simp)).trans running, by simp, by simp, ?_, ?_⟩
  · rw [handSlotsOn_zone]; exact ⟨rfl, rfl⟩
  · rw [handSlotsOn_overrides]; exact slot

theorem slotEnds_ends (kind : OverrideKind) : EndsWell (slotEnds kind) := by
  intro s running
  unfold slotEnds
  split
  · exact .same s
  · exact .inr (handSlotsOn_finishes running (emptied_fanSlot kind _) _ _)

theorem panelFallsSilent_ends : EndsWell panelFallsSilent := by
  intro s running
  unfold panelFallsSilent
  (repeat' split)
  · exact .same s
  · exact .inr (handSlotsOn_finishes running (silenced_fanSlot _) _ _)
  · exact .inl ⟨rfl, rfl, rfl, rfl, rfl, rfl, rfl, rfl, rfl, rfl, rfl, rfl⟩

/-! ## Completed frames -/

theorem takeOverride_fanSlot (kind mask value duration : Byte) (s : State) :
    FanSlotFrom s.overrides (takeOverride kind mask value duration s).2.overrides := by
  unfold takeOverride
  (repeat' split)
  · rename_i filled
    rw [handSlotsOn_overrides]
    exact filled_fanSlot filled
  all_goals exact .refl _

theorem takeCancel_fanSlot (kind mask : Byte) (s : State) :
    FanSlotFrom s.overrides (takeCancel kind mask s).2.overrides := by
  unfold takeCancel
  (repeat' split)
  · rw [handSlotsOn_overrides]; exact allEmptied_fanSlot _
  · exact .refl _
  · rw [handSlotsOn_overrides]; exact emptied_fanSlot _ _
  all_goals exact .refl _

/-- Only OVERRIDE and CANCEL reach the slots. -/
theorem takeBulletin_overrides (own : Bool) (sender : Nat) (b : Bulletin) (s : State)
    (notOverride : ∀ kind mask value duration, b ≠ .override kind mask value duration)
    (notCancel : ∀ kind mask, b ≠ .cancel kind mask) : (takeBulletin own sender b s).state.overrides = s.overrides := by
  cases b with
  | allowance => simp only [takeBulletin, takesAllowance]; split <;> simp
  | lapse => simp only [takeBulletin, takesLapse]; split <;> simp
  | expel => simp only [takeBulletin, takesExpel]; split <;> simp
  | join => simp only [takeBulletin, takesJoin]; (repeat' split) <;> simp
  | status => simp only [takeBulletin, takesStatus]; split <;> simp
  | claim => simp only [takeBulletin, takesClaim]; split <;> simp
  | ret => simp only [takeBulletin, takesReturn]; split <;> simp
  | draft => simp only [takeBulletin, takesDraft]; split <;> simp
  | override => exact (notOverride _ _ _ _ rfl).elim
  | cancel => exact (notCancel _ _ rfl).elim
  | report => simp only [takeBulletin]; split <;> simp
  | snapshot | query | unknown => simp [takeBulletin]

theorem takeBulletin_fanSlot (own : Bool) (sender : Nat) (b : Bulletin) (s : State) :
    FanSlotFrom s.overrides (takeBulletin own sender b s).state.overrides := by
  cases b with
  | override => exact takeOverride_fanSlot _ _ _ _ s
  | cancel => exact takeCancel_fanSlot _ _ s
  | unknown => exact .refl _
  | allowance | lapse | expel | join | status | claim | ret | draft | snapshot | query | report =>
    rw [takeBulletin_overrides _ _ _ _ (by simp) (by simp)]
    exact .refl _

theorem hearPanel_fanSlot (address : Nat) (s : State) :
    (hearPanel address s).overrides.fanForce = s.overrides.fanForce := by
  unfold hearPanel; split <;> rfl

theorem course_finishes (address : Nat) (b : Bulletin) {s : State} (running : s.running = true) (ev : Ev) (r : State) :
    Finishes s (finish ev r (course address b s).state) := by
  refine ⟨ev, r, _, rfl, running_course address b running, by simp, by simp, ?_, ?_⟩
  · have zone : s.zone.sameButSetpoint (course address b s).state.zone := by simp
    exact ⟨congrArg (·.stages.length) zone, congrArg (·.fan) zone⟩
  · have slots := takeBulletin_fanSlot (s.ownFrame address b).isSome address (takenBulletin (s.ownFrame address b) b)
      (hearPanel address (addressed (s.ownFrame address b) address s))
    simpa [course, FanSlotFrom, hearPanel_fanSlot] using slots

theorem filteredFrame_ends (own : Option OwnFrame) (address : Nat) : EndsWell (filteredFrame own address) := by
  intro s _
  unfold filteredFrame
  dsimp only
  split
  · exact .inr (.of_finish (running_setMember _ _ (by decide)) (by simp) (by simp) (by simp))
  · exact .inl (undisturbed_of_blocks (by simp) (by simp) (by simp) (by simp) (by simp) (by simp) (by simp) (by simp)
      (by simp))

theorem undisturbed_heardFrame (codes : Sensors) (s : State) : Undisturbed s (s.heardFrame codes) :=
  ⟨rfl, rfl, rfl, rfl, rfl, rfl, rfl, rfl, rfl, rfl, rfl, rfl⟩

theorem completeFrame_ends (codes : Sensors) (address : BitVec 4) (b : Bulletin) :
    EndsWell (completeFrame codes address b) := by
  intro s running
  cases passes : s.passes address.toNat b with
  | true =>
    rw [completeFrame_of_passes codes address b s running passes]
    exact .inr (course_finishes _ _ (s := s.heardFrame codes) running _ _)
  | false =>
    rw [completeFrame_of_filtered codes address b s running passes]
    exact (filteredFrame_ends _ _ (s.heardFrame codes) running).imp (undisturbed_heardFrame codes s).trans id

/-! ## Every command -/

/-- A command that is not one of start-up ends in one of the two ways in a configured station. -/
theorem after_ends {c : Instr} (still : startsUp c = false) {s : State} (running : s.running = true) :
    Ends s (s.after c) := by
  cases c with
  | allowance | lapse | expel | join | status | claim | ret | draft | override | cancel | snapshot | query | report
  | unknownKindFrame => exact completeFrame_ends _ _ _ s running
  | slotExpiry codes kind => exact .of_begin ((slotEnds_ends kind).whenRunning _ running)
  | panelSilenceExpiry => exact .of_begin (panelFallsSilent_ends.whenRunning _ running)
  | doorLevelChange codes door => exact .of_begin ((doorLevel_ends door).whenRunning _ running)
  | longOpenExpiry codes door => exact .of_begin ((longOpenEnds_ends door).whenRunning _ running)
  | tailTimerExpiry => exact .of_begin (tailEnds_ends.whenRunning _ running)
  | spillTimerExpiry codes station => exact .of_begin ((spillEnds_ends _).whenRunning _ running)
  | outdoorAgeExpiry => exact .of_begin (outdoorAgeEnds_ends.whenRunning _ running)
  | fogLevelChange => exact .of_begin (fogLevel_ends.whenRunning _ running)
  | rampTimerExpiry => exact .of_begin (rampEnds_ends.whenRunning _ running)
  | holdTimerExpiry => exact .of_begin (holdEnds_ends.whenRunning _ running)
  | trimTimerExpiry => exact .of_begin (trimEnds_ends.whenRunning _ running)
  | censusTimerExpiry => exact .of_begin (censusEnds_ends.whenRunning _ running)
  | catchUpTimerExpiry => exact .of_begin (catchUpEnds_ends.whenRunning _ running)
  | settleTimerExpiry => exact .of_begin (settleEnds_ends.whenRunning _ running)
  | rideThroughExpiry => exact .of_begin (rideThroughEnds_ends.whenRunning _ running)
  | qualifyTimerExpiry => exact .of_begin (qualifyEnds_ends.whenRunning _ running)
  | lineLevelChange => exact .of_begin (lineLevel_ends _ running)
  | periodicEvaluation => exact .of_begin (periodEnds_ends.whenRunning _ running)
  | stageMinimumTimerExpiry codes stage => exact .of_begin ((stageTimerEnds_ends _).whenRunning _ running)
  | doorRawChange door apart => exact .of_nextMoment (doorRaw_ends door apart _ running)
  | fogRawChange active => exact .of_nextMoment (fogRaw_ends active _ running)
  | lineRawChange high => exact .of_nextMoment (lineRaw_ends high _ running)
  | statusPeriodExpiry => exact .of_nextMoment (statusPeriodEnds_ends.whenRunning _ running)
  | silenceAgeLimit station => exact .of_nextMoment ((ageReaches_ends _).whenRunning _ running)
  | leaseTimerExpiry => exact .of_nextMoment (leaseRunsOut_ends.whenRunning _ running)
  | claimSpacingExpiry => exact .of_nextMoment (spacingEnds_ends.whenRunning _ running)
  | returnTimerExpiry => exact .of_nextMoment (returnTimerEnds_ends.whenRunning _ running)
  | statisticsSecond => exact .of_nextMoment (secondEnds_ends.whenRunning _ running)
  | frameError heard => exact .of_nextMoment (answerHeard_ends heard _ running)
  | ownFrameVoid heard => exact .of_nextMoment ((ownFrameReadBack_ends heard).whenRunning _ running)
  | ownFrameLost => exact .of_nextMoment (frameLost_ends.whenRunning _ running)
  | frameStart => exact .of_nextMoment (startOffered_ends _ running)
  | busIdle => exact .of_nextMoment (busBecomesIdle_ends _ running)
  | busIdle2ms => exact .of_nextMoment (idleWaitEnds_ends _ running)
  | muteTimerExpiry => exact .of_nextMoment (muteEnds_ends _ running)
  | startBit => exact .of_nextMoment (frameHeard_ends _ running)
  | powerOnReset | externalReset | resetRelease | optionReadDone | optionReadFailed => cases still

end Sys2Proof.Machine
end

section
/-! What the bytes of the option memory must hold for a vehicle table to come into force (R190 to R192, R203). -/

namespace Sys2Proof.Machine

/-! ## Fields -/

theorem within_eq_some {low high n m : Nat} : within low high n = some m ↔ m = n ∧ low ≤ n ∧ n ≤ high := by
  unfold within
  split
  · rw [Option.some.injEq, eq_comm]; exact (and_iff_left ‹_›).symm
  · exact ⟨nofun, fun h => absurd h.2 ‹_›⟩

theorem byteOf_toNat (b : Byte) : byteOf b.toNat = b := BitVec.ofNat_toNat 8 b |>.trans (BitVec.setWidth_eq b)

theorem byteAt_lt (bytes : List Byte) (a : Nat) : byteAt bytes a < 256 := (bytes.getD a 0).isLt

theorem readingOf_eq_some {b : Byte} {t : Int} (h : readingOf b = some t) : t = b.toInt ∧ -80 ≤ t ∧ t ≤ 120 := by
  unfold readingOf tempOf at h
  split at h
  · rename_i u found
    split at found
    · cases found
    · cases found
      split at h
      · rename_i range
        cases h
        exact ⟨rfl, range⟩
      · cases h
  · cases h

theorem readingOf_byteAt {bytes : List Byte} {a : Nat} {t : Int} (h : readingOf (byteOf (byteAt bytes a)) = some t) :
    t = (bytes.getD a 0).toInt ∧ -80 ≤ t ∧ t ≤ 120 := by
  rw [byteAt, byteOf_toNat] at h
  exact readingOf_eq_some h

/-- R203: the eight codes that are temperatures but for the unknown one. -/
theorem tempOf_eq_some {b : Byte} {t : Int} (h : tempOf b = some t) : t = b.toInt ∧ -127 ≤ t ∧ t ≤ 127 := by
  unfold tempOf at h
  split at h
  · cases h
  · rename_i known
    cases h
    have notLowest : b.toInt ≠ -128 := fun low => known (BitVec.eq_of_toInt_eq (low.trans (by decide)))
    have least := BitVec.le_toInt b
    have most := BitVec.toInt_lt (x := b)
    refine ⟨rfl, ?_, ?_⟩ <;> simp at least most <;> omega

/-- The nine bits of the attention mask: the eight of byte 21 and the lowest of byte 20. -/
theorem maskOf_getLsbD (bytes : List Byte) (i : Nat) (h : i < 9) :
    (maskOf bytes).getLsbD i = if i < 8 then (bytes.getD 21 0).getLsbD i else (bytes.getD 20 0).getLsbD 0 := by
  have low : byteAt bytes 21 < 2 ^ 8 := byteAt_lt bytes 21
  rw [maskOf, BitVec.getLsbD_ofNat, show 256 * (byteAt bytes 20 % 2) = 2 ^ 8 * (byteAt bytes 20 % 2) from rfl,
    Nat.testBit_two_pow_mul_add _ low]
  by_cases small : i < 8
  · simp [h, small, byteAt, BitVec.getLsbD]
  · obtain rfl : i = 8 := by omega
    simp [byteAt, BitVec.getLsbD, Nat.testBit]

/-- R203: the defrost unit's fields with their ranges. -/
theorem defrostFieldsOf_spells {bytes : List Byte} {d : DefrostFields} (h : defrostFieldsOf bytes = some d) :
    (d.units = (bytes.getD 12 0).toNat ∧ 1 ≤ d.units ∧ d.units ≤ 31) ∧
      (d.trim = (bytes.getD 13 0).toNat ∧ d.trim ≤ d.units) ∧
      (d.clear = (bytes.getD 14 0).toInt ∧ -80 ≤ d.clear ∧ d.clear ≤ 120) ∧
      (d.threshold = (bytes.getD 15 0).toInt ∧ -80 ≤ d.threshold ∧ d.threshold ≤ 120) ∧
      (d.ramp = (bytes.getD 16 0).toNat ∧ 1 ≤ d.ramp ∧ d.ramp ≤ 15) ∧
      (d.hold = (bytes.getD 17 0).toNat ∧ 1 ≤ d.hold ∧ d.hold ≤ 15) ∧
      (d.trimTime = (bytes.getD 18 0).toNat ∧ 1 ≤ d.trimTime ∧ d.trimTime ≤ 15) := by
  simp only [defrostFieldsOf, Option.bind_eq_bind, Option.bind_eq_some_iff, within_eq_some] at h
  obtain ⟨units, ⟨rfl, hu⟩, trim, ⟨rfl, ht⟩, clear, hc, threshold, hth, ramp, ⟨rfl, hr⟩, hold, ⟨rfl, hh⟩, time,
    ⟨rfl, htt⟩, rest⟩ := h
  obtain rfl := Option.some.inj rest
  exact ⟨⟨rfl, hu⟩, ⟨rfl, ht.2⟩, readingOf_byteAt hc, readingOf_byteAt hth, ⟨rfl, hr⟩, ⟨rfl, hh⟩, ⟨rfl, htt⟩⟩

/-! ## The roster -/

theorem rosterFrom_length {bytes : List Byte} :
    ∀ {n a : Nat} {roster : List RosterEntry}, rosterFrom bytes n a = some roster → roster.length = n
  | 0, _, _, h => by cases h; rfl
  | n + 1, a, roster, h => by
    unfold rosterFrom at h
    split at h
    · rename_i found
      cases h
      rw [List.length_cons, rosterFrom_length found]
    · cases h

/-- R203: entry `k` of the roster is read nine bytes apart. -/
theorem rosterFrom_get {bytes : List Byte} :
    ∀ {n a : Nat} {roster : List RosterEntry}, rosterFrom bytes n a = some roster →
      ∀ (k : Nat) (e : RosterEntry), roster[k]? = some e → rosterEntryAt bytes (a + 9 * k) = some e
  | 0, _, _, h, k, e, found => by cases h; cases found
  | n + 1, a, roster, h, k, e, found => by
    unfold rosterFrom at h
    split at h
    · rename_i first others
      cases h
      cases k with
      | zero => cases found; exact first
      | succ k =>
        rw [show a + 9 * (k + 1) = a + 9 + 9 * k by omega]
        exact rosterFrom_get others k e found
    · cases h

theorem getLsbD_seven (b : Byte) : b.getLsbD 7 = decide (b.toNat / 128 = 1) := by
  have := b.isLt
  rw [BitVec.getLsbD, Nat.testBit_eq_decide_div_mod_eq]
  congr 1
  simp only [eq_iff_iff]
  omega

theorem extract_toNat (b : Byte) (low width : Nat) :
    (b.extractLsb' low width).toNat = b.toNat / 2 ^ low % 2 ^ width := by
  rw [BitVec.extractLsb'_toNat, Nat.shiftRight_eq_div_pow]

/-- The ranges that every roster entry keeps (R203). -/
def EntryInRange (e : RosterEntry) : Prop :=
  e.station ≤ 7 ∧ e.dedicated ≤ 31 ∧ e.weight ∈ [0, 1, 2, 4, 8] ∧ 1 ≤ e.gain ∧ e.gain ≤ 4 ∧
    -127 ≤ e.baseSetpoint ∧ e.baseSetpoint ≤ 127 ∧ e.doorCount ≤ 2 ∧ e.doorBoost ≤ 15 ∧ e.sizes.length = 4 ∧
    (∀ size ∈ e.sizes, size ≤ 15) ∧ e.neighbours.length ≤ 2

theorem rosterEntryAt_spells {bytes : List Byte} {a : Nat} {e : RosterEntry} (h : rosterEntryAt bytes a = some e) :
    SpellsEntry bytes a e ∧ EntryInRange e := by
  simp only [rosterEntryAt, Option.bind_eq_bind, Option.bind_eq_some_iff, within_eq_some] at h
  obtain ⟨station, ⟨rfl, hs⟩, weight, hw, doors, ⟨rfl, hd⟩, dedicated, ⟨rfl, hde⟩, base, hb, boost, ⟨rfl, hbo⟩, rest⟩ := h
  obtain rfl := Option.some.inj rest
  rw [baseSetpointOf, byteAt, byteOf_toNat] at hb
  obtain ⟨baseIs, baseLow, baseHigh⟩ := tempOf_eq_some hb
  have flags := byteAt_lt bytes (a + 1)
  have first := byteAt_lt bytes (a + 6)
  have second := byteAt_lt bytes (a + 7)
  refine ⟨⟨rfl, ?_, ?_, ?_, ?_, rfl, rfl, baseIs, ?_, rfl⟩, hs.2, hde.2, List.mem_of_getElem? hw, ?_, ?_, baseLow, baseHigh,
    hd.2, hbo.2, rfl, ?_, ?_⟩
  · rw [getLsbD_seven]; simp only [decide_eq_true_eq]; rfl
  · rw [extract_toNat]; exact hw
  · rw [extract_toNat]; rfl
  · rw [extract_toNat]; simp [byteAt]
  · simp only [extract_toNat, sizesOf]
    unfold byteAt at first second
    simp only [byteAt, List.cons.injEq, and_true, Nat.reducePow, Nat.div_one, true_and]
    exact ⟨by omega, by omega⟩
  · simp
  · simp only; omega
  · simp only [sizesOf, List.mem_cons, List.not_mem_nil, or_false, forall_eq_or_imp, forall_eq]
    omega
  · exact List.length_filter_le _ _

theorem distinct_iff_nodup : ∀ {ns : List Nat}, distinct ns = true ↔ ns.Nodup
  | [] => by simp [distinct]
  | n :: ns => by simp [distinct, distinct_iff_nodup (ns := ns)]

/-- R192: what the checks on the roster ask for. -/
theorem rosterValid_iff {strap : Nat} {roster : List RosterEntry} :
    rosterValid strap roster = true ↔
      (roster.map (·.station)).Nodup ∧ (roster.filter (fun e => e.role == .cab)).length = 1 ∧
        (∀ e ∈ roster, (∀ n ∈ e.neighbours, n ≠ e.station ∧ ∃ o ∈ roster, o.station = n) ∧ e.neighbours.Nodup) ∧
        (roster.map (·.dedicated)).sum ≤ 248 ∧ ∃ e ∈ roster, e.station = strap := by
  simp [rosterValid, neighboursValid, distinct_iff_nodup, and_assoc]

/-! ## The whole table -/

/-- What `fieldsOf` reads: every field with its place and range, and the roster. -/
theorem fieldsOf_spells {bytes : List Byte} {vt : VehicleTable} (h : fieldsOf bytes = some vt) :
    SpellsFields bytes vt ∧ rosterFrom bytes (byteAt bytes 2) 22 = some vt.roster ∧
      (30000 ≤ vt.longOpen ∧ vt.longOpen ≤ 240000 ∧ vt.longOpen % 1000 = 0) ∧
      (30000 ≤ vt.spillLimit ∧ vt.spillLimit ≤ 240000 ∧ vt.spillLimit % 1000 = 0) ∧
      (1 ≤ vt.defrostUnits ∧ vt.defrostUnits ≤ 31 ∧ vt.trimUnits ≤ vt.defrostUnits) ∧
      (-80 ≤ vt.clearTemp ∧ vt.clearTemp ≤ 120 ∧ -80 ≤ vt.autoThreshold ∧ vt.autoThreshold ≤ 120) ∧
      (60000 ≤ vt.rampLimit ∧ vt.rampLimit ≤ 900000 ∧ vt.rampLimit % 60000 = 0) ∧
      (60000 ≤ vt.holdTime ∧ vt.holdTime ≤ 900000 ∧ vt.holdTime % 60000 = 0) ∧
      (60000 ≤ vt.trimTime ∧ vt.trimTime ≤ 900000 ∧ vt.trimTime % 60000 = 0) ∧ byteAt bytes 19 ≤ 1 := by
  unfold fieldsOf at h
  obtain ⟨ride, hride, h⟩ := Option.bind_eq_some_iff.mp h
  obtain ⟨batch, hbatch, h⟩ := Option.bind_eq_some_iff.mp h
  obtain ⟨rtimer, hrtimer, h⟩ := Option.bind_eq_some_iff.mp h
  obtain ⟨spacing, hspacing, h⟩ := Option.bind_eq_some_iff.mp h
  obtain ⟨minimum, hminimum, h⟩ := Option.bind_eq_some_iff.mp h
  obtain ⟨debounce, hdebounce, h⟩ := Option.bind_eq_some_iff.mp h
  obtain ⟨long, hlong, h⟩ := Option.bind_eq_some_iff.mp h
  obtain ⟨tail, htail, h⟩ := Option.bind_eq_some_iff.mp h
  obtain ⟨spill, hspill, h⟩ := Option.bind_eq_some_iff.mp h
  obtain ⟨d, hd, h⟩ := Option.bind_eq_some_iff.mp h
  obtain ⟨freeze, hfreeze, h⟩ := Option.bind_eq_some_iff.mp h
  obtain ⟨roster, hroster, rest⟩ := Option.bind_eq_some_iff.mp h
  obtain ⟨rfl, hlong⟩ := within_eq_some.mp hlong
  obtain ⟨rfl, hspill⟩ := within_eq_some.mp hspill
  obtain ⟨rfl, _, hfreeze⟩ := within_eq_some.mp hfreeze
  obtain rfl := Option.some.inj rest
  obtain ⟨⟨units, unitsLow, unitsHigh⟩, ⟨trim, trimHigh⟩, ⟨clear, clearLow, clearHigh⟩, ⟨threshold, thLow, thHigh⟩,
    ⟨ramp, rampLow, rampHigh⟩, ⟨hold, holdLow, holdHigh⟩, ⟨time, timeLow, timeHigh⟩⟩ := defrostFieldsOf_spells hd
  have check : (BitVec.ofNat 16 (256 * byteAt bytes 0 + byteAt bytes 1)).toNat =
      256 * (bytes.getD 0 0).toNat + (bytes.getD 1 0).toNat := by
    have := byteAt_lt bytes 0
    have := byteAt_lt bytes 1
    rw [BitVec.toNat_ofNat]
    unfold byteAt at *
    omega
  refine ⟨⟨check, rosterFrom_length hroster, hride, hbatch, hrtimer, hspacing, hminimum, hdebounce, rfl, htail, rfl, units,
    trim, clear, threshold, by simp only [ramp], by simp only [hold], by simp only [time], ?_, ?_⟩, hroster, ?_, ?_,
    ⟨unitsLow, unitsHigh, trimHigh⟩, ⟨clearLow, clearHigh, thLow, thHigh⟩, ?_, ?_, ?_, hfreeze⟩
  · exact Bool.beq_eq_decide_eq _ _
  · refine ⟨?_, ?_, ?_, ?_, ?_, ?_, ?_, ?_, ?_⟩ <;> exact maskOf_getLsbD bytes _ (by decide)
  all_goals simp only
  all_goals omega

theorem imageOf_eq_some {bytes image : List Byte} (h : imageOf bytes = some image) :
    2 ≤ byteAt image 2 ∧ byteAt image 2 ≤ 8 ∧ image = bytes.take (22 + 9 * byteAt image 2) ∧
      image.length = 22 + 9 * byteAt image 2 := by
  unfold imageOf at h
  dsimp only at h
  split at h
  · rename_i range
    obtain ⟨low, high, long⟩ := range
    obtain rfl := Option.some.inj h
    have same : byteAt (bytes.take (22 + 9 * byteAt bytes 2)) 2 = byteAt bytes 2 := by
      unfold byteAt
      rw [List.getD_eq_getElem?_getD, List.getElem?_take_of_lt (by omega), List.getD_eq_getElem?_getD]
    rw [same]
    exact ⟨low, high, rfl, by rw [List.length_take]; omega⟩
  · cases h

/-- A table comes into force only from an image whose fields, check and roster hold. -/
theorem tableFrom_eq_some {strap : Nat} {bytes image : List Byte} {vt : VehicleTable}
    (h : tableFrom strap bytes = some (image, vt)) :
    imageOf bytes = some image ∧ fieldsOf image = some vt ∧ vt.check = tableCheck image ∧
      rosterValid strap vt.roster = true := by
  unfold tableFrom at h
  split at h
  · rename_i found
    obtain ⟨vt', checked, same⟩ := Option.map_eq_some_iff.mp h
    cases same
    unfold checkedTable at checked
    split at checked
    · rename_i fields
      split at checked
      · rename_i valid
        cases checked
        exact ⟨found, fields, valid⟩
      · cases checked
    · cases checked
  · cases h

theorem tableFrom_entry {strap : Nat} {bytes image : List Byte} {vt : VehicleTable}
    (h : tableFrom strap bytes = some (image, vt)) {e : RosterEntry} (mem : e ∈ vt.roster) : EntryInRange e := by
  obtain ⟨_, fields, _, _⟩ := tableFrom_eq_some h
  obtain ⟨_, roster, _⟩ := fieldsOf_spells fields
  obtain ⟨k, bound, rfl⟩ := List.getElem_of_mem mem
  exact (rosterEntryAt_spells (rosterFrom_get roster k _ (List.getElem?_eq_getElem bound))).2

/-- Settles O50: the fields as read, the ranges of the reads, and the checks on the roster. -/
theorem tableInForceIsChecked : Obligations.TableInForceIsChecked := by
  intro strap bytes image vt found
  obtain ⟨imaged, fields, check, valid⟩ := tableFrom_eq_some found
  obtain ⟨spells, roster, ⟨longLow, longHigh, longMod⟩, ⟨spillLow, spillHigh, spillMod⟩, ⟨unitsLow, unitsHigh, trimHigh⟩,
    ⟨clearLow, clearHigh, thLow, thHigh⟩, ⟨rampLow, rampHigh, rampMod⟩, ⟨holdLow, holdHigh, holdMod⟩,
    ⟨timeLow, timeHigh, timeMod⟩, freeze⟩ := fieldsOf_spells fields
  obtain ⟨countLow, countHigh, taken, long⟩ := imageOf_eq_some imaged
  obtain ⟨stations, cabs, neighbours, dedicated, strapped⟩ := rosterValid_iff.mp valid
  have count : vt.roster.length = byteAt image 2 := rosterFrom_length roster
  have read := spells
  obtain ⟨_, _, ride, batch, rtimer, spacing, minimum, debounce, _, tail, _, _, _, _, _, _, _, _, frozen, _⟩ := spells
  have freezeByte : image[19]? = some (if vt.counterFreeze = true then 1 else 0) := by
    have bound : 19 < image.length := by omega
    have small : (image.getD 19 0).toNat ≤ 1 := freeze
    rw [List.getD_eq_getElem?_getD, List.getElem?_eq_getElem bound, Option.getD_some] at frozen small
    rw [List.getElem?_eq_getElem bound, frozen]
    congr 1
    apply BitVec.eq_of_toNat_eq
    by_cases one : image[19].toNat = 1
    · simp [one]
    · have : image[19].toNat = 0 := by omega
      simp [this]
  rw [count]
  exact ⟨taken, long, countLow, countHigh, check, read,
    fun k e entry => (rosterEntryAt_spells (rosterFrom_get roster k e entry)).1, stations, cabs,
    List.mem_of_getElem? ride, List.mem_of_getElem? batch, List.mem_of_getElem? rtimer, List.mem_of_getElem? spacing,
    List.mem_of_getElem? minimum, List.mem_of_getElem? debounce, longLow, longHigh, longMod, List.mem_of_getElem? tail,
    spillLow, spillHigh, spillMod, unitsLow, unitsHigh, clearLow, clearHigh, thLow, thHigh, rampLow, rampHigh, rampMod,
    holdLow, holdHigh, holdMod, timeLow, timeHigh, timeMod, freezeByte, trimHigh, dedicated, strapped,
    fun e mem => by
      obtain ⟨st, ded, wt, gLow, gHigh, bLow, bHigh, doors, boost, sizes, size, few⟩ := tableFrom_entry found mem
      exact ⟨st, ded, wt, gLow, gHigh, bLow, bHigh, doors, boost, sizes, size, few, (neighbours e mem).2,
        (neighbours e mem).1⟩⟩

end Sys2Proof.Machine
end

section
/-! The tier-1 obligations: one step of the queue, idle steps, resets, raw inputs and the bus's own events. -/

namespace Sys2Proof.Machine

/-- Settles O1, from the case of `step` where a command waits. -/
theorem stepRunsFrontCommand : Obligations.StepRunsFrontCommand := by
  intro c rest s queue
  simp only [step, queue]

/-! ## Idle steps -/

theorem nextDue_eq_none {s : State} : s.nextDue = none ↔ s.mayStart = false ∧ ∀ c, c ∉ s.dueExpiries := by
  unfold State.nextDue
  split
  · simp_all
  · simp_all [List.head?_eq_none_iff, List.eq_nil_iff_forall_not_mem]

theorem phaseExpiry_eq_iff {codes : Sensors} {state : DefrostState} {c : Instr} :
    c = phaseExpiry codes state ↔
      (state = .ramp → c = .rampTimerExpiry codes) ∧ (state = .hold → c = .holdTimerExpiry codes) ∧
        (state ≠ .ramp → state ≠ .hold → c = .trimTimerExpiry codes) := by
  cases state <;> simp [phaseExpiry]

/-- Settles O2: the cases of `idleStep` and `nextDue`, the membership of each part of `dueExpiries` by its own lemma, and
a millisecond's effect as defined. -/
theorem emptyQueueStep : Obligations.EmptyQueueStep := by
  refine ⟨fun s queue => ⟨fun c due => ?_, fun none => ?_⟩, fun s => ⟨fun may => ?_, fun may => ?_, nextDue_eq_none⟩, ?_, ?_,
    fun s => rfl⟩
  · simp only [step, queue, idleStep, due]
  · simp only [step, queue, idleStep, none]
  · simp only [State.nextDue, may, if_true]
  · simp [State.nextDue, may]
  · intro s c
    unfold State.dueExpiries
    simp only [List.mem_append, mem_dueTimer, mem_dueSpills, mem_dueAges, mem_dueSlots, mem_dueStages,
      returnTimer_left_zero, or_assoc, phaseExpiry_eq_iff]
  · intro o kind
    cases kind <;> rfl

/-! ## Resets and raw inputs -/

/-- Settles O48: the resets and the release as defined. -/
theorem resetsAndRelease : Obligations.ResetsAndRelease := by
  refine fun s => ⟨rfl, rfl, fun straps phase => ?_⟩
  show Host.Outcome.next (resetReleased straps (nextMoment s)) = _
  unfold resetReleased
  rw [if_pos (show (nextMoment s).loader.phase = .inReset from phase)]
  rfl

theorem watchesLine_iff (s : State) : s.watchesLine = true ↔ s.loader.phase = .reading ∨ s.loader.phase = .loaded := by
  simp [State.watchesLine]

theorem rawDoor_ne_iff (a b : Bool) :
    (if a then DoorLevel.apart else .shut) ≠ (if b then DoorLevel.apart else .shut) ↔ a ≠ b := by
  cases a <;> cases b <;> decide

/-- Settles O39, input by input: the pin moves, and the debounce time where the input is read. -/
theorem rawInputsOnlyDebounce : Obligations.RawInputsOnlyDebounce := by
  refine ⟨fun high s => congrArg Host.Outcome.next ?_, fun active s => congrArg Host.Outcome.next ?_,
    fun apart s => congrArg Host.Outcome.next ?_, fun apart s => congrArg Host.Outcome.next ?_⟩
  · unfold lineRaw
    dsimp only
    simp only [watchesLine_iff]
    by_cases read : s.pins.line ≠ high ∧ (s.loader.phase = .reading ∨ s.loader.phase = .loaded)
    · exact (if_pos read).trans (by rw [if_pos read]; rfl)
    · exact (if_neg read).trans (by rw [if_neg read]; rfl)
  · unfold fogRaw
    dsimp only
    by_cases read : s.pins.fog ≠ active ∧ s.running = true ∧ s.isCab = true
    · exact (if_pos read).trans (by rw [if_pos read]; rfl)
    · exact (if_neg read).trans (by rw [if_neg read]; rfl)
  · unfold doorRaw
    have seen : ((nextMoment s).rawDoor 0 ≠ (setRawDoor 0 apart (nextMoment s)).rawDoor 0 ∧ (nextMoment s).running = true ∧
        (nextMoment s).doorExists 0 = true) ↔ s.pins.door0 ≠ apart ∧ s.running = true ∧ 0 < s.entry.doorCount := by
      refine and_congr (rawDoor_ne_iff _ _) (and_congr Iff.rfl decide_eq_true_iff)
    by_cases read : s.pins.door0 ≠ apart ∧ s.running = true ∧ 0 < s.entry.doorCount
    · dsimp only; rw [if_pos (seen.mpr read), if_pos read]; rfl
    · dsimp only; rw [if_neg (mt seen.mp read), if_neg read]; rfl
  · unfold doorRaw
    have seen : ((nextMoment s).rawDoor 1 ≠ (setRawDoor 1 apart (nextMoment s)).rawDoor 1 ∧ (nextMoment s).running = true ∧
        (nextMoment s).doorExists 1 = true) ↔ s.pins.door1 ≠ apart ∧ s.running = true ∧ 1 < s.entry.doorCount := by
      refine and_congr (rawDoor_ne_iff _ _) (and_congr Iff.rfl decide_eq_true_iff)
    by_cases read : s.pins.door1 ≠ apart ∧ s.running = true ∧ 1 < s.entry.doorCount
    · dsimp only; rw [if_pos (seen.mpr read), if_pos read]; rfl
    · dsimp only; rw [if_neg (mt seen.mp read), if_neg read]; rfl

/-! ## The bus's own events -/

theorem mayObject_iff (s : State) :
    s.mayObject = true ↔
      s.running = true ∧ s.member.state ≠ .clash ∧ s.bus.standing = .active ∧ s.bus.inFlight = none := by
  simp [State.mayObject, State.acceptsRequests, and_assoc]

/-- Settles O31: the receiver's verdict, and whether the station may object. -/
theorem frameErrorAnswered : Obligations.FrameErrorAnswered := by
  intro heard s
  refine ⟨answerHeard heard (frameHeard (nextMoment s)), rfl, ?_, ?_⟩
  · unfold answerHeard; (repeat' split) <;> rfl
  · have may : (frameHeard (nextMoment s)).mayObject = s.mayObject := rfl
    unfold answerHeard
    rw [may]
    cases receive heard with
    | error e =>
      by_cases object : s.mayObject = true
      · simp only [if_pos object, if_pos ((mayObject_iff s).mp object)]
        cases e <;> rfl
      · simp only [if_neg object, if_neg (mt (mayObject_iff s).mpr object)]
        rfl
    | sound | incomplete => rfl

theorem queueReturn_sending {s : State} (aside : 0 < s.share.aside) (accepts : s.acceptsRequests = true) :
    (queueReturn s).sending .ret := by
  unfold queueReturn
  rw [if_pos aside]
  exact queueKind_sending .ret s accepts

theorem queueReturn_of_zero {s : State} (aside : s.share.aside = 0) : queueReturn s = s := by
  simp [queueReturn, aside]

theorem acceptsRequests_iff (s : State) : s.acceptsRequests = true ↔ s.running = true ∧ s.member.state ≠ .clash := by
  simp [State.acceptsRequests]

/-- A queued kind shows in the bus only. -/
theorem queueReturn_bus_only (s : State) : { queueReturn s with bus := s.bus } = s := by
  unfold queueReturn queueKind; (repeat' split) <;> rfl

/-- Settles O32, event by event; the opportunistic RETURN by `queueReturn`. -/
theorem idleDetectorAndMuteTimer : Obligations.IdleDetectorAndMuteTimer := by
  refine fun s => ⟨rfl, fun busy => congrArg Host.Outcome.next ?_, fun waits => ?_, fun mute => congrArg Host.Outcome.next ?_⟩
  · unfold busBecomesIdle
    rw [if_neg (by simpa using busy)]
    rfl
  · obtain ⟨left, wait⟩ := Option.isSome_iff_exists.mp waits
    let ended : State := { s with moment := s.moment + 1, bus := { s.bus with idleWait := none } }
    have ends : idleWaitEnds (nextMoment s) = if s.bus.queue.isEmpty then queueReturn ended else ended := by
      simp only [idleWaitEnds, nextMoment_frame, wait]; rfl
    refine ⟨_, rfl, ?_, fun empty aside running noClash => ?_, fun kept => ?_, ?_⟩
    · rw [ends]; split <;> simp [ended]
    · rw [ends, if_pos (by simp [empty])]
      exact queueReturn_sending aside ((acceptsRequests_iff ended).mpr ⟨running, noClash⟩)
    · rw [ends]
      obtain waiting | zero := kept
      · rw [if_neg (by simpa using waiting)]
      · rw [queueReturn_of_zero (s := ended) zero, ite_self]
    · rw [ends]
      split
      · have same := queueReturn_bus_only ended
        exact congrArg (fun u : State => { u with moment := s.moment, bus := s.bus }) same
      · rfl
  · obtain ⟨left, runs⟩ := Option.isSome_iff_exists.mp mute
    simp only [muteEnds, nextMoment_frame, runs]
    rfl

/-- R1, R2: the table of no station is lawful. -/
theorem tableLaw_empty : TableLaw ShareTable.empty := by
  exact ⟨List.nodup_nil, nofun, nofun, ⟨List.nodup_nil, nofun⟩, .inr (Nat.le_refl 0), nofun, ⟨.nil, .nil⟩,
    by decide, by decide, by decide, nofun, nofun⟩

/-- Settles O51: the table of no station, and every other item by evaluating the reset state. -/
theorem resetStateIsLawful : Obligations.ResetStateIsLawful := by
  refine ⟨tableLaw_empty, rfl, rfl, nofun, fun _ => rfl, List.nodup_nil, fun _ => ⟨nofun, rfl⟩, Nat.zero_le _, ?_⟩
  decide

end Sys2Proof.Machine
end

section
/-! The laws of loads and of units aside (R49, R83, R84), and of the pins (R158, R204): the end of an event sets them up, and
what comes to no such end leaves alone what they speak of. -/

namespace Sys2Proof.Machine

/-! ## Commands in a station that is not configured -/

/-- In a station without a table in force a command other than those of start-up moves no zone, membership state, share
unit, slot or table, and drives nothing new on the bus. -/
structure Unmoved (s t : State) : Prop where
  pending : t.pending = s.pending
  loader : t.loader = s.loader
  table : t.table = s.table
  share : t.share = s.share
  zone : t.zone = s.zone
  overrides : t.overrides = s.overrides
  member : t.member = s.member
  drive : t.bus.drive = s.bus.drive ∨ t.bus.drive = .released
  queue : t.bus.queue = s.bus.queue
  inFlight : t.bus.inFlight = s.bus.inFlight

theorem unmoved_begin (codes : Sensors) (s : State) : Unmoved s (begin codes s) :=
  ⟨rfl, rfl, rfl, rfl, rfl, rfl, rfl, .inl rfl, rfl, rfl⟩

theorem unmoved_nextMoment (s : State) : Unmoved s (nextMoment s) :=
  ⟨rfl, rfl, rfl, rfl, rfl, rfl, rfl, .inl rfl, rfl, rfl⟩

theorem unmoved_whenRunning_begin {s : State} (idle : s.running = false) (f : State → State) (codes : Sensors) :
    Unmoved s (whenRunning f (begin codes s)) := by
  rw [whenRunning_of_not (s := begin codes s) idle]; exact unmoved_begin codes s

theorem unmoved_whenRunning_nextMoment {s : State} (idle : s.running = false) (f : State → State) :
    Unmoved s (whenRunning f (nextMoment s)) := by
  rw [whenRunning_of_not (s := nextMoment s) idle]; exact unmoved_nextMoment s

theorem unmoved_completeFrame {s : State} (idle : s.running = false) (codes : Sensors) (address : BitVec 4) (b : Bulletin) :
    Unmoved s (completeFrame codes address b s) := by
  have begun : (frameHeard (begin codes s)).running = false := idle
  simp only [completeFrame, begun]
  exact ⟨rfl, rfl, rfl, rfl, rfl, rfl, rfl, .inl rfl, rfl, rfl⟩

theorem queueReturn_of_not_running {s : State} (idle : s.running = false) : queueReturn s = s := by
  simp [queueReturn, queueKind, State.acceptsRequests, idle]

theorem unmoved_lineLevel {s : State} (idle : s.running = false) (codes : Sensors) :
    Unmoved s (lineLevel (begin codes s)) := by
  unfold lineLevel
  split
  · exact unmoved_begin codes s
  · rw [finish_of_not_running ((running_of_member (by simp)).trans idle)]
    exact ⟨by simp, by simp, by simp, by simp, by simp, by simp, by simp, .inl (by simp), by simp, by simp⟩

theorem after_unmoved {c : Instr} (still : startsUp c = false) {s : State} (idle : s.running = false) :
    Unmoved s (s.after c) := by
  cases c with
  | allowance | lapse | expel | join | status | claim | ret | draft | override | cancel | snapshot | query | report
  | unknownKindFrame => exact unmoved_completeFrame idle _ _ _
  | slotExpiry | panelSilenceExpiry | doorLevelChange | longOpenExpiry | tailTimerExpiry | spillTimerExpiry
  | outdoorAgeExpiry | fogLevelChange | rampTimerExpiry | holdTimerExpiry | trimTimerExpiry | censusTimerExpiry
  | catchUpTimerExpiry | settleTimerExpiry | rideThroughExpiry | qualifyTimerExpiry | periodicEvaluation
  | stageMinimumTimerExpiry => exact unmoved_whenRunning_begin idle _ _
  | statusPeriodExpiry | silenceAgeLimit | leaseTimerExpiry | claimSpacingExpiry | returnTimerExpiry | statisticsSecond
  | ownFrameVoid | ownFrameLost => exact unmoved_whenRunning_nextMoment idle _
  | lineLevelChange => exact unmoved_lineLevel idle _
  | doorRawChange door apart =>
    show Unmoved s (doorRaw door apart (nextMoment s))
    unfold doorRaw setRawDoor
    rw [if_neg (by simp [idle])]
    split <;> exact ⟨rfl, rfl, rfl, rfl, rfl, rfl, rfl, .inl rfl, rfl, rfl⟩
  | fogRawChange active =>
    show Unmoved s (fogRaw active (nextMoment s))
    unfold fogRaw
    rw [if_neg (by simp [idle])]
    exact ⟨rfl, rfl, rfl, rfl, rfl, rfl, rfl, .inl rfl, rfl, rfl⟩
  | lineRawChange high =>
    show Unmoved s (lineRaw high (nextMoment s))
    unfold lineRaw
    dsimp only
    split <;> exact ⟨rfl, rfl, rfl, rfl, rfl, rfl, rfl, .inl rfl, rfl, rfl⟩
  | frameError heard =>
    show Unmoved s (answerHeard heard (frameHeard (nextMoment s)))
    have mute : (frameHeard (nextMoment s)).mayObject = false := by
      show (s.running && s.member.state != .clash && s.bus.standing == .active && s.bus.inFlight.isNone) = false
      simp [idle]
    simp only [answerHeard, mute]
    split <;> exact ⟨rfl, rfl, rfl, rfl, rfl, rfl, rfl, .inl rfl, rfl, rfl⟩
  | frameStart =>
    show Unmoved s (startOffered (nextMoment s))
    simp only [startOffered, State.mayStart, State.acceptsRequests, running_nextMoment, idle]
    exact unmoved_nextMoment s
  | busIdle =>
    show Unmoved s (busBecomesIdle (nextMoment s))
    unfold busBecomesIdle
    split
    · exact unmoved_nextMoment s
    · exact ⟨rfl, rfl, rfl, rfl, rfl, rfl, rfl, .inr rfl, rfl, rfl⟩
  | busIdle2ms =>
    show Unmoved s (idleWaitEnds (nextMoment s))
    unfold idleWaitEnds
    dsimp only
    (repeat' split)
    · exact unmoved_nextMoment s
    · rw [queueReturn_of_not_running (by exact idle)]
      exact ⟨rfl, rfl, rfl, rfl, rfl, rfl, rfl, .inl rfl, rfl, rfl⟩
    · exact ⟨rfl, rfl, rfl, rfl, rfl, rfl, rfl, .inl rfl, rfl, rfl⟩
  | muteTimerExpiry =>
    show Unmoved s (muteEnds (nextMoment s))
    unfold muteEnds
    split <;> exact ⟨rfl, rfl, rfl, rfl, rfl, rfl, rfl, .inl rfl, rfl, rfl⟩
  | startBit => exact ⟨rfl, rfl, rfl, rfl, rfl, rfl, rfl, .inl rfl, rfl, rfl⟩
  | powerOnReset | externalReset | resetRelease | optionReadDone | optionReadFailed => cases still

/-! ## The start-up commands -/

@[simp] theorem recomputeSetpoint_fan (s : State) : (recomputeSetpoint s).zone.fan = s.zone.fan := rfl

@[simp] theorem tableInForce_frame (image : List Byte) (vt : VehicleTable) (s : State) :
    (tableInForce image vt s).pending = s.pending ∧
      (tableInForce image vt s).loader = { s.loader with phase := .loaded, image, vt } ∧
      (tableInForce image vt s).table = ShareTable.ofRoster vt.roster ∧
      (tableInForce image vt s).share = s.share ∧ (tableInForce image vt s).overrides = s.overrides ∧
      (tableInForce image vt s).zone.fan = s.zone.fan ∧
      (tableInForce image vt s).member.state = .listen := by
  simp [tableInForce]

theorem tableInForce_stages (image : List Byte) (vt : VehicleTable) (s : State) :
    (tableInForce image vt s).zone.stages = stagesOf (tableInForce image vt s).entry := rfl

/-- The state from which the load's own event closes. -/
def State.tableLoaded (image : List Byte) (vt : VehicleTable) (s : State) : State :=
  checkDefrost (readCabSensors (tableInForce image vt s))

theorem loadSucceeds_eq (image : List Byte) (vt : VehicleTable) (s : State) :
    loadSucceeds image vt s = finish { periodic := true } s (s.tableLoaded image vt) := rfl

@[simp] theorem tableLoaded_frame (image : List Byte) (vt : VehicleTable) (s : State) :
    (s.tableLoaded image vt).pending = s.pending ∧
      (s.tableLoaded image vt).loader = { s.loader with phase := .loaded, image, vt } ∧
      (s.tableLoaded image vt).table = ShareTable.ofRoster vt.roster ∧
      (s.tableLoaded image vt).share = s.share ∧ (s.tableLoaded image vt).overrides = s.overrides ∧
      (s.tableLoaded image vt).zone = (tableInForce image vt s).zone ∧
      (s.tableLoaded image vt).member.state = .listen := by
  simp [State.tableLoaded]

theorem running_tableLoaded (image : List Byte) (vt : VehicleTable) (s : State) :
    (s.tableLoaded image vt).running = true := by
  simp [State.running]

/-- What a command of start-up leads to. -/
theorem after_startUp {c : Instr} (start : startsUp c = true) (s : State) :
    (∃ stats, s.after c = { State.reset with pending := s.pending, moment := s.moment + 1, pins := s.pins, stats }) ∨
      (∃ straps, s.loader.phase = .inReset ∧
        s.after c = restartLineDebounce { nextMoment s with loader := { s.loader with phase := .reading, strap := straps } }) ∨
      (∃ u bytes image vt, Undisturbed s u ∧ u.bus = s.bus ∧ u.stats = s.stats ∧ s.loader.phase = .reading ∧
        tableFrom s.me bytes = some (image, vt) ∧ s.after c = loadSucceeds image vt u) ∨
      (∃ u, Undisturbed s u ∧ u.member = s.member ∧ u.bus = s.bus ∧ u.stats = s.stats ∧ s.loader.phase = .reading ∧
        s.after c = loadFails u) ∨
      (Undisturbed s (s.after c) ∧ (s.after c).member = s.member ∧ (s.after c).bus = s.bus ∧
        (s.after c).stats = s.stats) := by
  cases c with
  | powerOnReset => exact .inl ⟨_, rfl⟩
  | externalReset => exact .inl ⟨_, rfl⟩
  | resetRelease straps =>
    show _ ∨ (∃ st, _ ∧ resetReleased straps (nextMoment s) = _) ∨ _
    by_cases inReset : s.loader.phase = .inReset
    · exact .inr (.inl ⟨straps, inReset, if_pos inReset⟩)
    · refine .inr (.inr (.inr (.inr ?_)))
      have same : s.after (.resetRelease straps) = nextMoment s := if_neg inReset
      rw [same]
      exact ⟨undisturbed_nextMoment s, rfl, rfl, rfl⟩
  | optionReadDone codes bytes =>
    have eq : s.after (.optionReadDone codes bytes) = readDone bytes (begin codes s) := rfl
    by_cases reading : s.loader.phase = .reading
    · have here : readDone bytes (begin codes s) =
          match tableFrom s.me bytes with
          | some found => loadSucceeds found.1 found.2 (begin codes s)
          | none => loadFails (begin codes s) := if_pos reading
      rw [eq, here]
      cases found : tableFrom s.me bytes with
      | some p =>
        exact .inr (.inr (.inl ⟨_, bytes, p.1, p.2, undisturbed_begin codes s, rfl, rfl, reading, found, rfl⟩))
      | none => exact .inr (.inr (.inr (.inl ⟨_, undisturbed_begin codes s, rfl, rfl, rfl, reading, rfl⟩)))
    · have same : readDone bytes (begin codes s) = begin codes s := if_neg reading
      rw [eq, same]
      exact .inr (.inr (.inr (.inr ⟨undisturbed_begin codes s, rfl, rfl, rfl⟩)))
  | optionReadFailed cause =>
    have eq : s.after (.optionReadFailed cause) = readFails (nextMoment s) := rfl
    by_cases reading : s.loader.phase = .reading
    · have here : readFails (nextMoment s) = loadFails (nextMoment s) := if_pos reading
      rw [eq, here]
      exact .inr (.inr (.inr (.inl ⟨_, undisturbed_nextMoment s, rfl, rfl, rfl, reading, rfl⟩)))
    · have same : readFails (nextMoment s) = nextMoment s := if_neg reading
      rw [eq, same]
      exact .inr (.inr (.inr (.inr ⟨undisturbed_nextMoment s, rfl, rfl, rfl⟩)))
  | _ => cases start

/-! ## The loader, the queue of commands and the configuration under every command -/

theorem after_loader {c : Instr} (still : startsUp c = false) (s : State) :
    (s.after c).pending = s.pending ∧ (s.after c).loader = s.loader ∧ (s.after c).running = s.running := by
  cases running : s.running with
  | false =>
    have unmoved := after_unmoved still running
    exact ⟨unmoved.pending, unmoved.loader, (running_of_member (congrArg (·.state) unmoved.member)).trans running⟩
  | true =>
    obtain undisturbed | ⟨ev, r, u, eq, configured, pending, loader, _⟩ := after_ends still running
    · exact ⟨undisturbed.pending, undisturbed.loader, (running_of_member undisturbed.member).trans running⟩
    · rw [eq]
      exact ⟨by simpa using pending, by simpa using loader, (running_of_member (by simp)).trans configured⟩

theorem after_pending (c : Instr) (s : State) : (s.after c).pending = s.pending := by
  cases start : startsUp c with
  | false => exact (after_loader start s).1
  | true =>
    obtain ⟨_, eq⟩ | ⟨_, _, eq⟩ | ⟨u, _, _, _, same, _, _, _, _, eq⟩ | ⟨u, same, _, _, _, _, eq⟩ | ⟨same, _⟩ :=
      after_startUp start s
    · rw [eq]
    · rw [eq]; rfl
    · rw [eq, loadSucceeds_eq]; simpa using same.pending
    · rw [eq]; exact same.pending
    · exact same.pending

/-- Settles O3: the state after the command, its queue and, but for start-up, its loader. -/
theorem commandsCompleteAndKeepTheLoad : Obligations.CommandsCompleteAndKeepTheLoad := fun c s =>
  ⟨s.after c, exec_after c s, after_pending c s, fun still => (after_loader still s).2.1⟩

/-- R204: a table is in force exactly in the states after a successful load; every command keeps that. -/
theorem after_keepsPhaseLaw (c : Instr) (s : State) (law : PhaseLaw s) : PhaseLaw (s.after c) := by
  cases start : startsUp c with
  | false =>
    obtain ⟨_, loader, running⟩ := after_loader start s
    rw [PhaseLaw, running, loader]
    exact law
  | true =>
    obtain ⟨_, eq⟩ | ⟨_, phase, eq⟩ | ⟨u, _, _, _, same, _, _, _, _, eq⟩ | ⟨u, same, _, _, _, _, eq⟩ | ⟨same, _⟩ :=
      after_startUp start s
    · rw [eq]; rfl
    · rw [eq]
      have idle : s.running = false := by rw [law, phase]; rfl
      exact idle
    · rw [eq, loadSucceeds_eq, PhaseLaw, finish_of_running (running_tableLoaded _ _ _)]
      simp [State.running]
    · rw [eq]; rfl
    · rw [PhaseLaw, running_of_member same.member, same.loader]; exact law

/-! ## Loads (R83, R84) -/

theorem loadOf_cons (g : Stage) (gs : List Stage) : loadOf (g :: gs) = g.load + loadOf gs := by simp [loadOf]

theorem loadOf_reverse (stages : List Stage) : loadOf stages.reverse = loadOf stages := by
  simp [loadOf, List.sum_reverse]

@[simp] theorem switchedOff_load (minimum : Nat) (g : Stage) : (g.switchedOff minimum).load = 0 := by
  unfold Stage.switchedOff Stage.load; split <;> simp_all

theorem loadOf_allOff (minimum : Nat) (stages : List Stage) : loadOf (stages.map (Stage.switchedOff minimum)) = 0 := by
  induction stages with
  | nil => rfl
  | cons g gs ih => rw [List.map_cons, loadOf_cons, switchedOff_load, ih]

theorem loadOf_forcedDown (minimum limit : Nat) (stages : List Stage) :
    ∀ load, load = loadOf stages → loadOf (forcedDown minimum limit load stages) ≤ limit := by
  induction stages with
  | nil => intro load _; exact Nat.zero_le _
  | cons g gs ih =>
    intro load total
    rw [loadOf_cons] at total
    unfold forcedDown
    split
    · rw [loadOf_cons, switchedOff_load, Nat.zero_add]
      exact ih _ (by omega)
    · rw [loadOf_cons]; omega

/-- R84: after the cut the stages load no more than the limit. -/
theorem loadOf_forced_le (minimum limit : Nat) (stages : List Stage) : loadOf (forced minimum limit stages) ≤ limit := by
  rw [forced, loadOf_reverse]
  exact loadOf_forcedDown minimum limit _ _ (loadOf_reverse stages).symm

theorem loadOf_offPass_le (minimum : Nat) :
    ∀ (wanted : List Bool) (stages : List Stage), loadOf (offPass minimum wanted stages) ≤ loadOf stages
  | [], _ => by simp [offPass]
  | _ :: _, [] => by simp [offPass]
  | w :: ws, g :: gs => by
    have rest := loadOf_offPass_le minimum ws gs
    unfold offPass
    rw [loadOf_cons, loadOf_cons]
    split
    · rw [switchedOff_load]; omega
    · omega

/-- R83: the stages that are switched on stay within the limit, on top of what the stages passed over load (`passed`). -/
theorem loadOf_onPass_le (minimum limit : Nat) :
    ∀ (wanted : List Bool) (stages : List Stage) (load passed : Nat), load = passed + loadOf stages → load ≤ limit →
      passed + loadOf (onPass minimum limit load wanted stages) ≤ limit
  | [], stages, load, passed, total, within => by simpa [onPass, ← total] using within
  | _ :: _, [], load, passed, total, within => by simpa [onPass, ← total] using within
  | w :: ws, g :: gs, load, passed, total, within => by
    rw [loadOf_cons] at total
    unfold onPass
    split
    · rename_i switch
      simp only [Bool.and_eq_true, Bool.not_eq_true', decide_eq_true_eq] at switch
      obtain ⟨⟨⟨_, off⟩, _⟩, fits⟩ := switch
      have none : g.load = 0 := by simp [Stage.load, off]
      have rest := loadOf_onPass_le minimum limit ws gs (load + g.size) (passed + g.size) (by omega) fits
      have on : (g.switchedOn minimum).load = g.size := by simp [Stage.switchedOn, Stage.load]
      rw [loadOf_cons, on]
      omega
    · have rest := loadOf_onPass_le minimum limit ws gs load (passed + g.load) (by omega) within
      rw [loadOf_cons]
      omega

theorem loadOf_switched_le {minimum target limit : Nat} {allowed : Bool} {stages : List Stage}
    (within : loadOf stages ≤ limit) : loadOf (switched minimum target limit allowed stages) ≤ limit := by
  have off := Nat.le_trans (loadOf_offPass_le minimum (wantedFrom target 0 stages) stages) within
  unfold switched
  dsimp only
  split
  · simpa using loadOf_onPass_le minimum limit _ _ _ 0 (Nat.zero_add _).symm off
  · exact off

theorem loadOf_switched_off {minimum target limit : Nat} {stages : List Stage} (none : loadOf stages = 0) :
    loadOf (switched minimum target limit false stages) = 0 := by
  have off := loadOf_offPass_le minimum (wantedFrom target 0 stages) stages
  simp only [switched, Bool.false_eq_true, if_false]
  omega

/-- The figures that the load law speaks of stand. -/
structure SameLoads (s t : State) : Prop where
  loader : t.loader = s.loader
  table : t.table = s.table
  aside : t.share.aside = s.share.aside
  leaseExpired : t.share.leaseExpired = s.share.leaseExpired
  supply : t.supply.state = s.supply.state
  stages : t.zone.stages = s.zone.stages
  defrost : t.defrost.state = s.defrost.state
  member : t.member.state = s.member.state

theorem SameLoads.refl (s : State) : SameLoads s s := ⟨rfl, rfl, rfl, rfl, rfl, rfl, rfl, rfl⟩

theorem SameLoads.ownRow {s t : State} (same : SameLoads s t) : t.ownRow = s.ownRow := by
  simp only [State.ownRow, me_of_loader same.loader, same.table]

theorem SameLoads.isCab {s t : State} (same : SameLoads s t) : t.isCab = s.isCab := by
  simp only [State.isCab, State.entry, me_of_loader same.loader, same.loader]

theorem SameLoads.usable {s t : State} (same : SameLoads s t) : t.usable = s.usable := by
  simp only [State.usable, same.ownRow, same.table]

theorem SameLoads.spendable {s t : State} (same : SameLoads s t) : t.spendable = s.spendable := by
  simp only [State.spendable, State.borrowedCounts, State.inStep, same.ownRow, same.usable, same.aside,
    same.leaseExpired, same.member]
  rfl

theorem SameLoads.request {s t : State} (same : SameLoads s t) : t.request = s.request := by
  simp only [State.request, same.isCab, same.defrost, same.loader]

theorem SameLoads.loadsAllowed {s t : State} (same : SameLoads s t) : t.loadsAllowed = s.loadsAllowed := by
  simp only [State.loadsAllowed, State.live, running_of_member same.member, same.supply, same.member]

theorem SameLoads.stationLoad {s t : State} (same : SameLoads s t) : t.stationLoad = s.stationLoad := by
  simp only [State.stationLoad, State.airLoad, State.defrostLoad, same.stages, same.request, same.spendable,
    same.loadsAllowed]

theorem SameLoads.loadLaw {s t : State} (same : SameLoads s t) (law : LoadLaw s) : LoadLaw t := by
  rw [LoadLaw, same.loadsAllowed, same.stationLoad, same.spendable]
  exact law

/-- R83: with the stages within the air limit, or off where loads are not allowed, the station load is within spendable. -/
theorem loadLaw_of_airLoad {s : State} (allowed : s.loadsAllowed = true → s.airLoad ≤ s.airLimit)
    (barred : s.loadsAllowed = false → s.airLoad = 0) : LoadLaw s := by
  unfold LoadLaw State.stationLoad State.defrostLoad
  cases may : s.loadsAllowed with
  | true =>
    have air := allowed may
    unfold State.airLimit at air
    simp only [if_true]
    omega
  | false =>
    have air := barred may
    simp [air]

/-- The air limit and whether loads are allowed do not depend on the stages. -/
@[simp] theorem setStages_limits (stages : List Stage) (s : State) :
    (setStages stages s).airLimit = s.airLimit ∧ (setStages stages s).loadsAllowed = s.loadsAllowed ∧
      (setStages stages s).airLoad = loadOf stages := ⟨rfl, rfl, rfl⟩

theorem cutStages_within (s : State) :
    ((cutStages s).loadsAllowed = true → (cutStages s).airLoad ≤ (cutStages s).airLimit) ∧
      ((cutStages s).loadsAllowed = false → (cutStages s).airLoad = 0) := by
  unfold cutStages
  split
  · rename_i allowed
    simp [loadOf_forced_le, allowed]
  · rename_i barred
    simp [loadOf_allOff, barred]

theorem switchStages_within {s : State} (allowed : s.loadsAllowed = true → s.airLoad ≤ s.airLimit)
    (barred : s.loadsAllowed = false → s.airLoad = 0) :
    ((switchStages s).loadsAllowed = true → (switchStages s).airLoad ≤ (switchStages s).airLimit) ∧
      ((switchStages s).loadsAllowed = false → (switchStages s).airLoad = 0) := by
  unfold switchStages
  simp only [setStages_limits]
  refine ⟨fun may => loadOf_switched_le (allowed may), fun may => ?_⟩
  rw [may]
  exact loadOf_switched_off (barred may)

theorem loadLaw_cutStages (s : State) : LoadLaw (cutStages s) :=
  loadLaw_of_airLoad (cutStages_within s).1 (cutStages_within s).2

theorem sameLoads_setFan (s : State) : SameLoads s (setFan s) := ⟨rfl, rfl, rfl, rfl, rfl, rfl, rfl, rfl⟩

theorem loadLaw_regulate (ev : Ev) (before s : State) : LoadLaw (regulate ev before s) := by
  obtain ⟨allowed, barred⟩ := cutStages_within (shareEvaluation ev before s)
  obtain ⟨allowed', barred'⟩ := switchStages_within allowed barred
  exact (sameLoads_setFan _).loadLaw (loadLaw_of_airLoad allowed' barred')

theorem loadLaw_evaluate (ev : Ev) (before : State) {s : State} (law : LoadLaw s) : LoadLaw (evaluate ev before s) := by
  unfold evaluate
  (repeat' split)
  · exact loadLaw_regulate ev before _
  · exact loadLaw_cutStages _
  · exact law

/-- The end of an event sets up the load law, whatever came before. -/
theorem loadLaw_finishRunning (ev : Ev) (before s : State) : LoadLaw (finishRunning ev before s) := by
  unfold finishRunning
  dsimp only
  have evaluated : LoadLaw (evaluate ev before (settle
      (defrostSeesTaking (owedRaised ev before s || ev.cleared) before.safetyKept s))) :=
    loadLaw_evaluate ev before (loadLaw_cutStages _)
  refine SameLoads.loadLaw ⟨by simp, by simp, by simp, by simp, by simp, ?_, by simp, by simp⟩ evaluated
  rw [(checkExpulsion_frame _).2.2.2.2.2.2.2.1, (noteStatus_frame _ _).2.2.2.2.2.2.2.1]
  unfold refreshFan; split <;> rfl

theorem Undisturbed.aside {s t : State} (same : Undisturbed s t) : t.share.aside = s.share.aside :=
  (congrArg ShareUnit.aside same.share :)

theorem Undisturbed.sameLoads {s t : State} (same : Undisturbed s t) : SameLoads s t where
  loader := same.loader
  table := same.table
  aside := same.aside
  leaseExpired := (congrArg ShareUnit.leaseExpired same.share :)
  supply := (congrArg Supply.state same.supply :)
  stages := congrArg Zone.stages same.zone
  defrost := (congrArg Defrost.state same.defrost :)
  member := same.member

/-- Where loads are not allowed before and after, the law stands with the stages. -/
theorem loadLaw_of_barred {s t : State} (law : LoadLaw s) (before : s.loadsAllowed = false)
    (after : t.loadsAllowed = false) (stages : t.zone.stages = s.zone.stages) : LoadLaw t := by
  have none : s.stationLoad = 0 := by simpa [LoadLaw, before] using law
  have air : t.airLoad = 0 := by
    rw [State.airLoad, stages]
    unfold State.stationLoad State.airLoad at none
    omega
  exact loadLaw_of_airLoad (fun may => absurd may (by simp [after])) (fun _ => air)

theorem after_keepsLoadLaw (c : Instr) {s : State} (phase : PhaseLaw s) (law : LoadLaw s) : LoadLaw (s.after c) := by
  have notRunning : s.loader.phase ≠ .loaded → s.running = false := fun other => by rw [phase]; simpa using other
  cases start : startsUp c with
  | false =>
    cases running : s.running with
    | false =>
      have unmoved := after_unmoved start running
      exact loadLaw_of_barred law (loadsAllowed_of_not_running running)
        (loadsAllowed_of_not_running ((running_of_member (congrArg (·.state) unmoved.member)).trans running))
        (congrArg (·.stages) unmoved.zone)
    | true =>
      obtain undisturbed | ⟨ev, r, u, eq, configured, _⟩ := after_ends start running
      · exact undisturbed.sameLoads.loadLaw law
      · rw [eq, finish_of_running configured]
        exact loadLaw_finishRunning ev r u
  | true =>
    obtain ⟨_, eq⟩ | ⟨_, inReset, eq⟩ | ⟨u, _, _, _, same, _, _, _, _, eq⟩ | ⟨u, same, _, _, _, reading, eq⟩ | ⟨same, _⟩ :=
      after_startUp start s
    · rw [eq]; exact (rfl : State.reset.stationLoad = 0)
    · have idle := notRunning (by simp [inReset])
      rw [eq]
      exact loadLaw_of_barred law (loadsAllowed_of_not_running idle) (loadsAllowed_of_not_running idle) rfl
    · rw [eq, loadSucceeds_eq, finish_of_running (running_tableLoaded _ _ _)]
      exact loadLaw_finishRunning _ _ _
    · have idle := notRunning (by simp [reading])
      rw [eq]
      exact loadLaw_of_barred law (loadsAllowed_of_not_running idle) (loadsAllowed_of_not_running rfl)
        (congrArg (·.stages) same.zone)
    · exact same.sameLoads.loadLaw law

theorem loadOf_tick (stages : List Stage) :
    loadOf (stages.map (fun g => { g with timer := g.timer.tick })) = loadOf stages := by
  simp only [loadOf, List.map_map]
  rfl

theorem loadLaw_passMillisecond {s : State} (law : LoadLaw s) : LoadLaw (passMillisecond s) := by
  have load : (passMillisecond s).stationLoad = s.stationLoad := congrArg (· + s.defrostLoad) (loadOf_tick s.zone.stages)
  rw [LoadLaw, load]
  exact law

/-- Settles O53: a step keeps both laws together. -/
theorem loadLawKept : Obligations.LoadLawKept := by
  intro s t phase law stepped
  exact step_keeps (P := fun s => PhaseLaw s ∧ LoadLaw s) (fun s rest h => h)
    (fun c s h => ⟨after_keepsPhaseLaw c s h.1, after_keepsLoadLaw c h.1 h.2⟩)
    (fun s h => ⟨h.1, loadLaw_passMillisecond h.2⟩) stepped ⟨phase, law⟩

end Sys2Proof.Machine
end

section
/-! The two orders of the share table and the passes of a recall (R8, R28, R40, R41, R43). -/

namespace Sys2Proof.Machine

/-! ## The order of recall (R40) -/

theorem recalledBefore_iff (a b : Row) :
    a.recalledBefore b = true ↔ a.weight < b.weight ∨ (a.weight = b.weight ∧ b.station < a.station) := by
  simp [Row.recalledBefore]

/-- A row goes where the rows before it are recalled before it, and those after it later. -/
theorem insertRow_pairwise (r : Row) :
    ∀ rows : List Row, rows.Pairwise (fun a b => a.recalledBefore b = true) → (∀ x ∈ rows, x.station ≠ r.station) →
      (insertRow r rows).Pairwise (fun a b => a.recalledBefore b = true)
  | [], _, _ => List.pairwise_singleton _ _
  | x :: xs, sorted, others => by
    obtain ⟨first, rest⟩ := List.pairwise_cons.mp sorted
    have apart := others x List.mem_cons_self
    unfold insertRow
    split
    · rename_i before
      refine List.pairwise_cons.mpr ⟨fun y mem => ?_, sorted⟩
      obtain rfl | later := List.mem_cons.mp mem
      · exact before
      · have := first y later
        rw [recalledBefore_iff] at *
        omega
    · rename_i notBefore
      refine List.pairwise_cons.mpr ⟨fun y mem => ?_, insertRow_pairwise r xs rest fun z later => others z (by simp [later])⟩
      obtain rfl | later := List.mem_cons.mp ((insertRow_perm r xs).mem_iff.mp mem)
      · rw [recalledBefore_iff] at *
        omega
      · exact first y later

theorem recallOrder_pairwise :
    ∀ rows : List Row, (rows.map (·.station)).Nodup → (recallOrder rows).Pairwise (fun a b => a.recalledBefore b = true)
  | [], _ => .nil
  | r :: rows, nodup => by
    obtain ⟨fresh, rest⟩ := List.nodup_cons.mp nodup
    refine insertRow_pairwise r (recallOrder rows) (recallOrder_pairwise rows rest) fun x mem same => fresh ?_
    exact List.mem_map.mpr ⟨x, (recallOrder_perm rows).mem_iff.mp mem, same⟩

theorem rowOfEntry_stations (roster : List RosterEntry) :
    (roster.map rowOfEntry).map (·.station) = roster.map (·.station) := by
  simp [Function.comp_def, rowOfEntry]

/-! ## A pass of recall (R41) -/

theorem recallPass_append (give : Row → Nat) (short : Nat) (xs ys : List Row) :
    (recallPass give short (xs ++ ys)).2 =
      (recallPass give short xs).2 ++ (recallPass give (recallPass give short xs).1 ys).2 := by
  induction xs generalizing short with
  | nil => rfl
  | cons x xs ih => simp [recallPass, ih]

/-- What a pass takes from the row after `before`: what is short once the rows before it have given. -/
theorem recallPass_split (give : Row → Nat) (short : Nat) (before after : List Row) (r : Row) :
    ∃ before' after',
      (recallPass give short (before ++ r :: after)).2 =
          before' ++ { r with owed := r.owed + min (short - (before.map give).sum) (give r) } :: after' ∧
        before'.length = before.length ∧ after'.length = after.length := by
  refine ⟨(recallPass give short before).2,
    (recallPass give (short - (before.map give).sum - min (short - (before.map give).sum) (give r)) after).2, ?_,
    recallPass_length give short before, recallPass_length _ _ _⟩
  rw [recallPass_append, recallPass_short]
  rfl

/-- With nothing short a pass takes nothing. -/
theorem recallPass_zero (give : Row → Nat) (rows : List Row) : recallPass give 0 rows = (0, rows) := by
  induction rows with
  | nil => rfl
  | cons r rs ih => simp [recallPass, ih]

/-- With more short than the rows can give every row gives all it has. -/
theorem recallPass_all (give : Row → Nat) :
    ∀ (rows : List Row) (short : Nat), (rows.map give).sum ≤ short →
      recallPass give short rows = (short - (rows.map give).sum, rows.map (fun r => { r with owed := r.owed + give r }))
  | [], short, _ => rfl
  | r :: rs, short, enough => by
    rw [List.map_cons, List.sum_cons] at enough
    have rest := recallPass_all give rs (short - give r) (by omega)
    simp only [recallPass, show min short (give r) = give r by omega, rest, List.map_cons, List.sum_cons]
    rw [Nat.sub_sub]

theorem recallPass_raises (give : Row → Nat) :
    ∀ (rows : List Row) (short : Nat), ∀ p ∈ rows.zip (recallPass give short rows).2, p.1.owed ≤ p.2.owed
  | [], _, p, mem => by cases mem
  | r :: rs, short, p, mem => by
    obtain rfl | later := List.mem_cons.mp mem
    · exact Nat.le_add_right _ _
    · exact recallPass_raises give rs _ p later

/-- Settles O5: the order, how the roster is put into it, and what the first pass takes from a row. -/
theorem firstPassGivesInRecallOrder : Obligations.FirstPassGivesInRecallOrder := by
  refine ⟨recalledBefore_iff, fun roster nodup => ⟨?_, recallOrder_perm _⟩, fun t need before after r rows => ?_⟩
  · exact recallOrder_pairwise _ (by rw [rowOfEntry_stations]; exact nodup)
  · obtain ⟨before', after', eq, lengths⟩ := recallPass_split Row.freeToRecall need before after r
    refine ⟨before', after', ?_, lengths.1, lengths.2, rfl⟩
    rw [ShareTable.safetyRecall, rows]
    exact eq

/-! ## The recall of an allowance (R14, R43) -/

theorem held_sum {rows : List Row} (law : ∀ r ∈ rows, r.owed ≤ r.borrowed ∧ r.safety ≤ r.borrowed) :
    (rows.map Row.held).sum + (rows.map (·.owed)).sum = (rows.map (·.borrowed)).sum := by
  induction rows with
  | nil => rfl
  | cons r rs ih =>
    have rest := ih fun x mem => law x (by simp [mem])
    have first := (law r (by simp)).1
    simp only [List.map_cons, List.sum_cons, Row.held]
    omega

theorem freeToRecall_le_held (r : Row) : r.freeToRecall ≤ r.borrowed - r.owed := by
  unfold Row.freeToRecall; omega

theorem freeSum_le_held (rows : List Row) : (rows.map Row.freeToRecall).sum ≤ (rows.map Row.held).sum := by
  induction rows with
  | nil => exact Nat.le_refl _
  | cons r rs ih =>
    have first := freeToRecall_le_held r
    simp only [List.map_cons, List.sum_cons, Row.held]
    omega

theorem recallPass_borrowed (give : Row → Nat) (short : Nat) (rows : List Row) :
    ((recallPass give short rows).2.map (·.borrowed)).sum = (rows.map (·.borrowed)).sum :=
  congrArg List.sum (recallPass_map (·.borrowed) (fun _ _ => rfl) give short rows)

/-- A pass that takes no more than rows hold lowers the held part by what it takes. -/
theorem recallPass_held {give : Row → Nat} {short : Nat} {rows : List Row}
    (give_le : ∀ r ∈ rows, give r ≤ r.borrowed - r.owed)
    (law : ∀ r ∈ rows, r.owed ≤ r.borrowed ∧ r.safety ≤ r.borrowed) :
    ((recallPass give short rows).2.map Row.held).sum + short = (rows.map Row.held).sum + (recallPass give short rows).1 := by
  have after := held_sum (recallPass_rowsLaw (short := short) give_le law)
  have before := held_sum law
  have owed := recallPass_owed give short rows
  have borrowed := recallPass_borrowed give short rows
  omega

/-- R14: the recall brings the held part down to the pool. -/
theorem recallExcess_held {t : ShareTable} (law : RowsLaw t) : t.recallExcess.held = min t.held t.pool := by
  have firstLe : ∀ r ∈ t.rows, r.freeToRecall ≤ r.borrowed - r.owed := fun r _ => freeToRecall_le_held r
  have first := recallPass_held (short := t.held - t.pool) firstLe law
  have second := recallPass_held (give := Row.held) (short := (recallPass Row.freeToRecall (t.held - t.pool) t.rows).1)
    (fun r _ => Nat.le_refl _) (recallPass_rowsLaw (short := t.held - t.pool) firstLe law)
  have left := recallPass_short Row.held (recallPass Row.freeToRecall (t.held - t.pool) t.rows).1
    (recallPass Row.freeToRecall (t.held - t.pool) t.rows).2
  have result : t.recallExcess.held = ((recallPass Row.held (recallPass Row.freeToRecall (t.held - t.pool) t.rows).1
    (recallPass Row.freeToRecall (t.held - t.pool) t.rows).2).2.map Row.held).sum := rfl
  have start : t.held = (t.rows.map Row.held).sum := rfl
  omega

@[simp] theorem recallExcess_pool (t : ShareTable) : t.recallExcess.pool = t.pool := by
  unfold ShareTable.pool ShareTable.reserved
  rw [recallExcess_map (·.dedicated) (fun _ _ => rfl)]
  simp

/-- R43: what the safety recall covers needs no second pass. -/
theorem recallExcess_of_covered {t : ShareTable} (covered : t.held - t.pool ≤ (t.rows.map Row.freeToRecall).sum) :
    t.recallExcess = t.safetyRecall (t.held - t.pool) := by
  have none : (recallPass Row.freeToRecall (t.held - t.pool) t.rows).1 = 0 := by rw [recallPass_short]; omega
  unfold ShareTable.recallExcess ShareTable.allowanceRecall ShareTable.safetyRecall
  simp only [none, recallPass_zero]

/-- Settles O6: the held part, what the recall leaves, and both passes row by row. -/
theorem allowanceRecallMeetsPool : Obligations.AllowanceRecallMeetsPool := by
  refine fun t => ⟨fun law => ⟨recallExcess_held law, rowsLaw_recallExcess law, rfl,
    recallExcess_map (fun r => { r with owed := 0 }) (fun _ _ => rfl) t, ?_⟩, recallExcess_of_covered,
    fun short before after r rows => ?_⟩
  · intro p mem
    obtain ⟨i, bound, rfl⟩ := List.getElem_of_mem mem
    let first := recallPass Row.freeToRecall (t.held - t.pool) t.rows
    have size : first.2.length = t.rows.length := recallPass_length _ _ _
    have inRows : i < t.rows.length := by rw [List.length_zip] at bound; omega
    have firstZip : i < (t.rows.zip first.2).length := by simp [size, inRows]
    have secondZip : i < (first.2.zip (recallPass Row.held first.1 first.2).2).length := by
      simp [recallPass_length, size, inRows]
    have once := recallPass_raises Row.freeToRecall t.rows (t.held - t.pool) _ (List.getElem_mem firstZip)
    have twice := recallPass_raises Row.held first.2 first.1 _ (List.getElem_mem secondZip)
    rw [List.getElem_zip] at once twice ⊢
    exact Nat.le_trans once twice
  · have all := recallPass_all Row.freeToRecall t.rows (t.held - t.pool) (Nat.le_of_lt short)
    obtain ⟨before', after', eq, lengths⟩ := recallPass_split Row.held
      (t.held - t.pool - (t.rows.map Row.freeToRecall).sum)
      (before.map (fun x => { x with owed := x.owed + x.freeToRecall }))
      (after.map (fun x => { x with owed := x.owed + x.freeToRecall })) { r with owed := r.owed + r.freeToRecall }
    refine ⟨before', after', ?_, by simpa using lengths.1, by simpa using lengths.2⟩
    have result : t.recallExcess.rows = (recallPass Row.held (t.held - t.pool - (t.rows.map Row.freeToRecall).sum)
        (before.map (fun x => { x with owed := x.owed + x.freeToRecall }) ++
          { r with owed := r.owed + r.freeToRecall } ::
            after.map (fun x => { x with owed := x.owed + x.freeToRecall }))).2 := by
      simp only [ShareTable.recallExcess, ShareTable.allowanceRecall, all]
      conv => lhs; rw [rows]
      simp only [rows, List.map_append, List.map_cons]
    rw [result, eq, List.map_map]
    rfl

/-! ## The order of the claim queue (R28) -/

theorem rank_code_inj {a b : Rank} : a.code = b.code ↔ a = b := by cases a <;> cases b <;> decide

theorem before_iff (a b : Entry) :
    a.before b = true ↔
      a.rank.code < b.rank.code ∨
        (a.rank = b.rank ∧ (b.standing < a.standing ∨ (a.standing = b.standing ∧ a.station < b.station))) := by
  simp [Entry.before, ← rank_code_inj]

theorem not_before_iff (a b : Entry) :
    a.before b = false ↔
      ¬(a.rank.code < b.rank.code ∨
        (a.rank.code = b.rank.code ∧ (b.standing < a.standing ∨ (a.standing = b.standing ∧ a.station < b.station)))) := by
  rw [← Bool.not_eq_true, before_iff, rank_code_inj]

/-- An entry goes where none after it should be before it. -/
theorem insertEntry_pairwise (e : Entry) :
    ∀ queue : List Entry, queue.Pairwise (fun a b => b.before a = false) →
      (insertEntry e queue).Pairwise (fun a b => b.before a = false)
  | [], _ => List.pairwise_singleton _ _
  | x :: xs, sorted => by
    obtain ⟨first, rest⟩ := List.pairwise_cons.mp sorted
    unfold insertEntry
    split
    · rename_i before
      refine List.pairwise_cons.mpr ⟨fun y mem => ?_, sorted⟩
      rw [before_iff, ← rank_code_inj] at before
      rw [not_before_iff]
      obtain rfl | later := List.mem_cons.mp mem
      · omega
      · have := (not_before_iff _ _).mp (first y later)
        omega
    · rename_i notBefore
      refine List.pairwise_cons.mpr ⟨fun y mem => ?_, insertEntry_pairwise e xs rest⟩
      obtain rfl | later := List.mem_cons.mp ((insertEntry_perm e xs).mem_iff.mp mem)
      · simpa using notBefore
      · exact first y later

theorem queueOrder_pairwise : ∀ entries : List Entry, (queueOrder entries).Pairwise (fun a b => b.before a = false)
  | [] => .nil
  | e :: entries => insertEntry_pairwise e _ (queueOrder_pairwise entries)

/-- Settles O7: the comparison, and the insertion sort by it. -/
theorem claimQueueOrder : Obligations.ClaimQueueOrder :=
  ⟨⟨rfl, rfl, rfl⟩, before_iff, fun entries => ⟨queueOrder_pairwise entries, queueOrder_perm entries⟩⟩

/-! ## Usable units (R8, R9) -/

theorem curtailed_of_lt {limit reserved : Nat} (short : limit < reserved) (dedicated : Nat) :
    curtailed dedicated limit reserved = dedicated * limit / reserved := if_neg (by omega)

theorem curtailed_le (dedicated limit reserved : Nat) : curtailed dedicated limit reserved ≤ dedicated := by
  unfold curtailed
  split
  · exact Nat.le_refl _
  · exact Nat.div_le_of_le_mul (by rw [Nat.mul_comm]; exact Nat.mul_le_mul_right _ (by omega))

/-- The parts of a limit, each rounded down, make no more than the limit. -/
theorem sum_scaled_le (limit reserved : Nat) (shares : List Nat) :
    (shares.map (fun d => d * limit / reserved)).sum * reserved ≤ shares.sum * limit := by
  induction shares with
  | nil => simp
  | cons d ds ih =>
    have first := Nat.div_mul_le_self (d * limit) reserved
    simp only [List.map_cons, List.sum_cons, Nat.add_mul]
    omega

theorem sum_curtailed_le (limit : Nat) (shares : List Nat) :
    (shares.map (fun d => curtailed d limit shares.sum)).sum ≤ min limit shares.sum := by
  have le_sum : (shares.map (fun d => curtailed d limit shares.sum)).sum ≤ shares.sum := by
    have each := sum_map_le (l := shares) (g := id) fun d _ => curtailed_le d limit shares.sum
    simpa using each
  refine Nat.le_min.mpr ⟨?_, le_sum⟩
  by_cases covers : shares.sum ≤ limit
  · exact Nat.le_trans le_sum covers
  · have scaled := sum_scaled_le limit shares.sum shares
    have positive : 0 < shares.sum := by omega
    have same : shares.map (fun d => curtailed d limit shares.sum) = shares.map (fun d => d * limit / shares.sum) :=
      List.map_congr_left fun d _ => curtailed_of_lt (by omega) d
    rw [same]
    exact Nat.le_of_mul_le_mul_right (by rw [Nat.mul_comm limit]; exact scaled) positive

theorem usableOf_of_noLease {t : ShareTable} (lease : t.leaseState = .noLease) (r : Row) : t.usableOf r = r.dedicated := by
  simp only [ShareTable.usableOf, lease]

theorem usableOf_current {t : ShareTable} (lease : t.leaseState = .current) (r : Row) :
    t.usableOf r = curtailed r.dedicated t.allowance t.reserved := by
  simp only [ShareTable.usableOf, lease]

theorem usableOf_lapsed {t : ShareTable} (lease : t.leaseState = .lapsed) (r : Row) :
    t.usableOf r = curtailed r.dedicated t.fallback t.reserved := by
  simp only [ShareTable.usableOf, lease]

theorem usableSum_current {t : ShareTable} (lease : t.leaseState = .current) :
    t.usableSum ≤ min t.allowance t.reserved := by
  have := sum_curtailed_le t.allowance (t.rows.map (·.dedicated))
  rw [List.map_map] at this
  simp only [ShareTable.usableSum, funext (usableOf_current lease)]
  exact this

theorem usableSum_lapsed {t : ShareTable} (lease : t.leaseState = .lapsed) : t.usableSum ≤ min t.fallback t.reserved := by
  have := sum_curtailed_le t.fallback (t.rows.map (·.dedicated))
  rw [List.map_map] at this
  simp only [ShareTable.usableSum, funext (usableOf_lapsed lease)]
  exact this

/-- Settles O9: lease state by lease state; the held part fits into what the reservation leaves of the allowance. -/
theorem usableAndHeldWithinAllowance : Obligations.UsableAndHeldWithinAllowance := by
  refine fun t => ⟨fun r => ⟨fun lease => usableOf_of_noLease lease r, fun lease covers => ?_, fun lease short => ?_,
    fun lease covers => ?_, fun lease short => ?_⟩, usableSum_current, usableSum_lapsed, fun lease => ?_,
    fun law lease => ?_⟩
  · rw [usableOf_current lease, curtailed_of_le covers]
  · rw [usableOf_current lease, curtailed_of_lt short]
  · rw [usableOf_lapsed lease, curtailed_of_le covers]
  · rw [usableOf_lapsed lease, curtailed_of_lt short]
  · simp only [ShareTable.usableSum, funext (usableOf_of_noLease lease)]; rfl
  · obtain overdrawn | within := law
    · exact .inl overdrawn
    · refine .inr ?_
      have usable := usableSum_current lease
      rw [pool_of_current lease] at within
      omega

end Sys2Proof.Machine
end

section
/-! What becomes of the share table in a command: it stands, or it is what the taking of a bulletin, the end of catch-up, the
load or a reset makes of it. -/

namespace Sys2Proof.Machine

/-! ## The taking of a bulletin by the table -/

/-- What the share table makes of a bulletin; a bulletin that is not for it leaves it as it is. -/
def takenBy (me sender : Nat) (own : Byte) (learning : Bool) (t : ShareTable) : Bulletin → Taken
  | .allowance units leaseTime fallback tag => takeAllowance me units leaseTime fallback tag t
  | .lapse tag => takeLapse me tag t
  | .expel station => takeExpel me station.toNat t
  | .join tag => takeJoin me sender own tag t
  | .status p => takeStatus me sender own learning p t
  | .claim units rank => takeClaim me sender units rank t
  | .ret units safetyUnits => takeReturn me sender units safetyUnits t
  | .draft _ | .override .. | .cancel .. | .snapshot | .query .. | .report _ | .unknown _ =>
    { Taken.nothing t with table := t }

/-- The table after the taking and, where the sender's table tag is another, the loss of the own entry (R152). -/
def tableAfter (me sender : Nat) (own : Byte) (learning : Bool) (t : ShareTable) (b : Bulletin) : ShareTable :=
  if (takenBy me sender own learning t b).mismatch then
    (dropOwnEntry me (takenBy me sender own learning t b).table).table
  else (takenBy me sender own learning t b).table

theorem takeBulletin_table (own : Bool) (sender : Nat) (b : Bulletin) (s : State) :
    (takeBulletin own sender b s).state.table = (takenBy s.me sender s.tag s.learning s.table b).table ∧
      (takeBulletin own sender b s).mismatch = (takenBy s.me sender s.tag s.learning s.table b).mismatch := by
  cases b with
  | allowance => simp only [takeBulletin, takesAllowance, takenBy]; split <;> simp
  | lapse => simp only [takeBulletin, takesLapse, takenBy]; split <;> simp
  | expel => simp only [takeBulletin, takesExpel, takenBy]; split <;> simp
  | join => simp only [takeBulletin, takesJoin, takenBy]; (repeat' split) <;> simp
  | status => simp only [takeBulletin, takesStatus, takenBy]; split <;> simp
  | claim => simp only [takeBulletin, takesClaim, takenBy]; split <;> simp
  | ret => simp only [takeBulletin, takesReturn, takenBy]; split <;> simp
  | draft => simp only [takeBulletin, takesDraft, takenBy]; split <;> simp [Taken.nothing]
  | override => simp [takeBulletin, slotCourse, takenBy, Taken.nothing]
  | cancel => simp [takeBulletin, slotCourse, takenBy, Taken.nothing]
  | report => simp only [takeBulletin, takenBy]; split <;> simp [Taken.nothing]
  | snapshot | query | unknown => simp [takeBulletin, takenBy, Taken.nothing]

@[simp] theorem dropOwnClaim_table (c : Course) :
    (dropOwnClaim c).state.table = (dropOwnEntry c.state.me c.state.table).table ∧
      (dropOwnClaim c).state.loader = c.state.loader := by
  simp [dropOwnClaim]

theorem mismatchResponse_table (c : Course) :
    (mismatchResponse c).state.table =
      if c.mismatch then (dropOwnEntry c.state.me c.state.table).table else c.state.table := by
  unfold mismatchResponse
  split
  · rw [mapState_state]
    split <;> simp
  · rfl

@[simp] theorem addressed_figures (own : Option OwnFrame) (address : Nat) (s : State) :
    (hearPanel address (addressed own address s)).me = s.me ∧ (hearPanel address (addressed own address s)).tag = s.tag ∧
      (hearPanel address (addressed own address s)).learning = s.learning := by
  simp [State.me, State.tag, State.learning]

theorem course_table (address : Nat) (b : Bulletin) (s : State) :
    (course address b s).state.table =
      tableAfter s.me address s.tag s.learning s.table (takenBulletin (s.ownFrame address b) b) := by
  obtain ⟨table, mismatch⟩ := takeBulletin_table (s.ownFrame address b).isSome address
    (takenBulletin (s.ownFrame address b) b) (hearPanel address (addressed (s.ownFrame address b) address s))
  have loader := (takeBulletin_frame (s.ownFrame address b).isSome address
    (takenBulletin (s.ownFrame address b) b) (hearPanel address (addressed (s.ownFrame address b) address s))).2.2.2.1
  obtain ⟨me, tag, learning⟩ := addressed_figures (s.ownFrame address b) address s
  have taker := (me_of_loader loader).trans me
  rw [me, tag, learning] at table mismatch
  simp only [course, mapState_state, clashResponse_frame, memberResponse_blocks, mismatchResponse_table, expelSettled_frame,
    mapState_mismatch, State.me] at *
  simp only [hearPanel_frame, addressed_frame] at table mismatch
  rw [table, mismatch, taker]
  rfl

/-! ## The table under every command -/

/-- What a command may make of the table. -/
inductive TableMoves (s : State) : ShareTable → Prop
  | stands : TableMoves s s.table
  | lapsed : TableMoves s s.table.catchUpLapse
  | taken (sender : Nat) (b : Bulletin) : TableMoves s (tableAfter s.me sender s.tag s.learning s.table b)
  | loaded {bytes image : List Byte} {vt : VehicleTable} (found : tableFrom s.me bytes = some (image, vt)) :
    TableMoves s (ShareTable.ofRoster vt.roster)
  | emptied : TableMoves s ShareTable.empty

/-- A part of an event that leaves the table. -/
def LeavesTable (f : State → State) : Prop := ∀ s, (f s).table = s.table

theorem LeavesTable.stands {f : State → State} (leaves : LeavesTable f) {s u : State} (same : u.table = s.table) :
    TableMoves s (f u).table := by
  rw [leaves u, same]; exact .stands

theorem LeavesTable.whenRunning {f : State → State} (leaves : LeavesTable f) : LeavesTable (whenRunning f) := by
  intro s
  unfold Machine.whenRunning
  split
  · exact leaves s
  · rfl

theorem completeFrame_tableMoves (codes : Sensors) (address : BitVec 4) (b : Bulletin) (s : State) :
    TableMoves s (completeFrame codes address b s).table := by
  cases running : s.running with
  | false => rw [(unmoved_completeFrame running codes address b).table]; exact .stands
  | true =>
    cases passes : s.passes address.toNat b with
    | true =>
      rw [completeFrame_of_passes codes address b s running passes]
      simp only [finish_frame, course_table]
      exact .taken address.toNat _
    | false =>
      rw [completeFrame_of_filtered codes address b s running passes]
      unfold filteredFrame
      dsimp only
      split <;> simp only [finish_frame, setMember_frame, checkExpulsion_frame, addressed_frame] <;> exact .stands

theorem catchUpEnds_tableMoves {s u : State} (same : u.table = s.table) : TableMoves s (whenRunning catchUpEnds u).table := by
  unfold whenRunning catchUpEnds
  (repeat' split)
  · rw [same]; exact .stands
  · simp only [finish_frame, setMember_frame, same]; exact .lapsed
  · rw [same]; exact .stands

theorem startUp_tableMoves {c : Instr} (start : startsUp c = true) (s : State) : TableMoves s (s.after c).table := by
  obtain ⟨_, eq⟩ | ⟨_, _, eq⟩ | ⟨u, _, _, _, _, _, _, _, found, eq⟩ | ⟨u, same, _, _, _, _, eq⟩ | ⟨same, _⟩ :=
    after_startUp start s
  · rw [eq]; exact .emptied
  · rw [eq]; exact .stands
  · rw [eq, loadSucceeds_eq]
    simp only [finish_frame, tableLoaded_frame]
    exact .loaded found
  · have table : (loadFails u).table = s.table := same.table
    rw [eq, table]; exact .stands
  · rw [same.table]; exact .stands

/-- The events that leave the table, all but completed frames, the end of catch-up and start-up. -/
theorem events_leaveTable :
    (∀ kind, LeavesTable (slotEnds kind)) ∧ LeavesTable panelFallsSilent ∧ (∀ door, LeavesTable (doorLevel door)) ∧
      (∀ door, LeavesTable (longOpenEnds door)) ∧ LeavesTable tailEnds ∧ (∀ station, LeavesTable (spillEnds station)) ∧
      LeavesTable outdoorAgeEnds ∧ LeavesTable fogLevel ∧ LeavesTable rampEnds ∧ LeavesTable holdEnds ∧
      LeavesTable trimEnds ∧ LeavesTable censusEnds ∧ LeavesTable settleEnds ∧ LeavesTable rideThroughEnds ∧
      LeavesTable qualifyEnds ∧ LeavesTable lineLevel ∧ LeavesTable periodEnds ∧
      (∀ stage, LeavesTable (stageTimerEnds stage)) := by
  refine ⟨fun kind s => ?_, fun s => ?_, fun door s => ?_, fun door s => ?_, fun s => ?_, fun station s => ?_, fun s => ?_,
    fun s => ?_, fun s => ?_, fun s => ?_, fun s => ?_, fun s => ?_, fun s => ?_, fun s => ?_, fun s => ?_, fun s => ?_,
    fun s => ?_, fun stage s => ?_⟩
  · unfold slotEnds; split <;> simp
  · unfold panelFallsSilent; (repeat' split) <;> simp
  · unfold doorLevel; split <;> simp
  · unfold longOpenEnds; split <;> simp
  · unfold tailEnds; split <;> simp
  · unfold spillEnds; split <;> simp
  · unfold outdoorAgeEnds; split <;> simp
  · unfold fogLevel; split <;> simp
  · unfold rampEnds; split <;> simp
  · unfold holdEnds; split <;> simp
  · unfold trimEnds; split <;> simp
  · unfold censusEnds; split <;> simp
  · unfold settleEnds enterRideThrough; dsimp only; (repeat' split) <;> simp
  · unfold rideThroughEnds; split <;> simp
  · unfold qualifyEnds; split <;> simp
  · unfold lineLevel; split <;> simp
  · unfold periodEnds; split <;> simp
  · unfold stageTimerEnds; split <;> simp

theorem quietEvents_leaveTable :
    (∀ door apart, LeavesTable (doorRaw door apart)) ∧ (∀ active, LeavesTable (fogRaw active)) ∧
      (∀ high, LeavesTable (lineRaw high)) ∧ LeavesTable statusPeriodEnds ∧
      (∀ station, LeavesTable (ageReaches station)) ∧ LeavesTable leaseRunsOut ∧ LeavesTable spacingEnds ∧
      LeavesTable returnTimerEnds ∧ LeavesTable secondEnds := by
  refine ⟨fun door apart s => ?_, fun active s => ?_, fun high s => ?_, fun s => ?_, fun station s => ?_, fun s => ?_,
    fun s => ?_, fun s => ?_, fun s => ?_⟩
  · unfold doorRaw; dsimp only; split <;> simp
  · unfold fogRaw; dsimp only; split <;> simp
  · unfold lineRaw; dsimp only; split <;> simp
  · unfold statusPeriodEnds; split <;> simp
  · unfold ageReaches; split <;> simp
  · unfold leaseRunsOut; dsimp only; (repeat' split) <;> simp
  · unfold spacingEnds; split <;> simp
  · unfold returnTimerEnds; split <;> simp
  · unfold secondEnds; split <;> simp

theorem after_tableMoves (c : Instr) (s : State) : TableMoves s (s.after c).table := by
  obtain ⟨slot, panel, level, long, tail, spill, outdoor, fog, ramp, hold, trim, census, settle, ride, qualify, line,
    period, stage⟩ := events_leaveTable
  obtain ⟨doorRaw, fogRaw, lineRaw, statusPeriod, age, lease, spacing, returnTimer, second⟩ := quietEvents_leaveTable
  cases c with
  | allowance | lapse | expel | join | status | claim | ret | draft | override | cancel | snapshot | query | report
  | unknownKindFrame => exact completeFrame_tableMoves _ _ _ s
  | catchUpTimerExpiry codes => exact catchUpEnds_tableMoves rfl
  | slotExpiry codes kind => exact (slot kind).whenRunning.stands rfl
  | panelSilenceExpiry => exact panel.whenRunning.stands rfl
  | doorLevelChange codes door => exact (level door).whenRunning.stands rfl
  | longOpenExpiry codes door => exact (long door).whenRunning.stands rfl
  | tailTimerExpiry => exact tail.whenRunning.stands rfl
  | spillTimerExpiry codes station => exact (spill _).whenRunning.stands rfl
  | outdoorAgeExpiry => exact outdoor.whenRunning.stands rfl
  | fogLevelChange => exact fog.whenRunning.stands rfl
  | rampTimerExpiry => exact ramp.whenRunning.stands rfl
  | holdTimerExpiry => exact hold.whenRunning.stands rfl
  | trimTimerExpiry => exact trim.whenRunning.stands rfl
  | censusTimerExpiry => exact census.whenRunning.stands rfl
  | settleTimerExpiry => exact settle.whenRunning.stands rfl
  | rideThroughExpiry => exact ride.whenRunning.stands rfl
  | qualifyTimerExpiry => exact qualify.whenRunning.stands rfl
  | lineLevelChange => exact line.stands rfl
  | periodicEvaluation => exact period.whenRunning.stands rfl
  | stageMinimumTimerExpiry codes stage' => exact (stage _).whenRunning.stands rfl
  | doorRawChange door apart => exact (doorRaw door apart).stands rfl
  | fogRawChange active => exact (fogRaw active).stands rfl
  | lineRawChange high => exact (lineRaw high).stands rfl
  | statusPeriodExpiry => exact statusPeriod.whenRunning.stands rfl
  | silenceAgeLimit station => exact (age _).whenRunning.stands rfl
  | leaseTimerExpiry => exact lease.whenRunning.stands rfl
  | claimSpacingExpiry => exact spacing.whenRunning.stands rfl
  | returnTimerExpiry => exact returnTimer.whenRunning.stands rfl
  | statisticsSecond => exact second.whenRunning.stands rfl
  | frameError heard => exact LeavesTable.stands (f := answerHeard heard) (fun s => by simp) rfl
  | ownFrameVoid heard => exact (LeavesTable.whenRunning (f := ownFrameReadBack heard) fun s => by simp).stands rfl
  | ownFrameLost => exact (LeavesTable.whenRunning (f := frameLost) fun s => by simp).stands rfl
  | frameStart => exact LeavesTable.stands (f := startOffered) (fun s => by simp) rfl
  | busIdle => exact LeavesTable.stands (f := busBecomesIdle) (fun s => by simp) rfl
  | busIdle2ms => exact LeavesTable.stands (f := idleWaitEnds) (fun s => by simp) rfl
  | muteTimerExpiry => exact LeavesTable.stands (f := muteEnds) (fun s => by simp) rfl
  | startBit => exact .stands
  | powerOnReset | externalReset | resetRelease | optionReadFailed | optionReadDone => exact startUp_tableMoves rfl s

/-! ## Owed and safety within borrowed (R3, R5) -/

theorem rowsLaw_of_rows {t u : ShareTable} (law : RowsLaw t) (rows : u.rows = t.rows) : RowsLaw u := by
  rw [RowsLaw, rows]; exact law

theorem rowsLaw_update {t : ShareTable} (law : RowsLaw t) (station : Nat) {f : Row → Row}
    (keeps : ∀ r, r.owed ≤ r.borrowed ∧ r.safety ≤ r.borrowed → (f r).owed ≤ (f r).borrowed ∧ (f r).safety ≤ (f r).borrowed) :
    RowsLaw (t.update station f) := by
  intro r mem
  obtain ⟨r₀, mem₀, rfl⟩ := mem_updateRow mem
  split
  · exact keeps r₀ (law r₀ mem₀)
  · exact law r₀ mem₀

theorem rowsLaw_nothing {t : ShareTable} (law : RowsLaw t) : RowsLaw (Taken.nothing t).table :=
  rowsLaw_of_rows law (by simp [Taken.nothing])

theorem returned_law (n s : Nat) {r : Row} (law : r.owed ≤ r.borrowed ∧ r.safety ≤ r.borrowed) :
    (r.returned n s).owed ≤ (r.returned n s).borrowed ∧ (r.returned n s).safety ≤ (r.returned n s).borrowed := by
  simp only [Row.returned]
  omega

theorem granted_law (units : Nat) (rank : Rank) {r : Row} (law : r.owed ≤ r.borrowed ∧ r.safety ≤ r.borrowed) :
    (r.granted units rank).owed ≤ (r.granted units rank).borrowed ∧
      (r.granted units rank).safety ≤ (r.granted units rank).borrowed := by
  simp only [Row.granted]
  split <;> omega

theorem statementInRange_bounds {r : Row} {p : StatusPayload} (range : statementInRange r p = true) :
    p.safety.toNat ≤ p.borrowed.toNat ∧ p.owed.toNat ≤ p.borrowed.toNat ∧ p.waiting.toNat ≤ 63 := by
  simp only [statementInRange, Bool.and_eq_true, decide_eq_true_eq] at range
  obtain ⟨⟨⟨safety, owed⟩, waiting⟩, _⟩ := range
  exact ⟨safety, owed, waiting⟩

theorem rowsLaw_takenBy (me sender : Nat) (own : Byte) (learning : Bool) {t : ShareTable} (law : RowsLaw t) (b : Bulletin) :
    RowsLaw (takenBy me sender own learning t b).table := by
  have stated : ∀ (p : StatusPayload) (r : Row), statementInRange r p = true → RowsLaw (t.applyStatement sender p) := by
    intro p r range
    obtain ⟨safety, owed, _⟩ := statementInRange_bounds range
    exact rowsLaw_of_rows (rowsLaw_update (f := Row.stated p) law sender fun _ _ => ⟨owed, safety⟩) rfl
  cases b with
  | allowance units leaseTime fallback tag =>
    simp only [takenBy, takeAllowance]
    split
    · exact rowsLaw_settle me _ _ (rowsLaw_recallExcess (rowsLaw_of_rows law rfl))
    · exact rowsLaw_nothing law
  | lapse tag =>
    simp only [takenBy, takeLapse]
    split
    · exact rowsLaw_settle me _ _ 
        (rowsLaw_of_rows (rowsLaw_recallExcess (t := { t with leaseState := .lapsed }) law) rfl)
    · exact rowsLaw_nothing law
  | expel station =>
    simp only [takenBy, takeExpel]
    (repeat' split)
    · exact rowsLaw_nothing law
    · exact rowsLaw_nothing law
    · exact rowsLaw_settle me _ _ (rowsLaw_clearRow _ _ law)
  | join tag =>
    simp only [takenBy, takeJoin]
    split <;> exact rowsLaw_settle me _ _ (rowsLaw_clearRow _ _ law)
  | status p =>
    simp only [takenBy, takeStatus]
    split
    · exact rowsLaw_nothing law
    · split
      · exact rowsLaw_settle me _ _ (rowsLaw_of_rows
          (rowsLaw_update (f := fun r => { r with state := .mismatched }) law sender fun _ h => h) rfl)
      · split
        · rename_i range
          (repeat' split)
          · exact rowsLaw_settle me _ _ (stated p _ range)
          · exact rowsLaw_settle me _ _ (stated p _ range)
          · exact rowsLaw_nothing law
          · exact rowsLaw_nothing law
        · exact rowsLaw_nothing law
  | claim units rank =>
    simp only [takenBy, takeClaim]
    (repeat' split)
    · exact rowsLaw_nothing law
    · exact rowsLaw_settle me _ _ (rowsLaw_of_rows law rfl)
    · exact rowsLaw_nothing law
    · exact rowsLaw_nothing law
    · exact rowsLaw_settle me _ _ (rowsLaw_update law sender fun _ h => granted_law _ _ h)
    · exact rowsLaw_settle me _ _ (rowsLaw_of_rows law rfl)
  | ret units safetyUnits =>
    simp only [takenBy, takeReturn]
    (repeat' split)
    · exact rowsLaw_nothing law
    · exact rowsLaw_nothing law
    · exact rowsLaw_settle me _ _ (rowsLaw_update law sender fun _ h => returned_law _ _ h)
  | draft | override | cancel | snapshot | query | report | unknown => exact law

theorem rowsLaw_dropOwnEntry (me : Nat) {t : ShareTable} (law : RowsLaw t) : RowsLaw (dropOwnEntry me t).table := by
  unfold dropOwnEntry
  split
  · exact rowsLaw_settle me _ _ (rowsLaw_of_rows law rfl)
  · exact rowsLaw_nothing law

theorem rowsLaw_tableAfter (me sender : Nat) (own : Byte) (learning : Bool) {t : ShareTable} (law : RowsLaw t) (b : Bulletin) :
    RowsLaw (tableAfter me sender own learning t b) := by
  unfold tableAfter
  split
  · exact rowsLaw_dropOwnEntry me (rowsLaw_takenBy me sender own learning law b)
  · exact rowsLaw_takenBy me sender own learning law b

theorem mem_ofRoster {roster : List RosterEntry} {r : Row} (mem : r ∈ (ShareTable.ofRoster roster).rows) :
    ∃ e ∈ roster, r = rowOfEntry e := by
  obtain ⟨e, inRoster, rfl⟩ := List.mem_map.mp ((recallOrder_perm _).mem_iff.mp mem)
  exact ⟨e, inRoster, rfl⟩

theorem rowsLaw_ofRoster (roster : List RosterEntry) : RowsLaw (ShareTable.ofRoster roster) := by
  intro r mem
  obtain ⟨e, _, rfl⟩ := mem_ofRoster mem
  exact ⟨Nat.le_refl 0, Nat.le_refl 0⟩

theorem after_keepsRowsLaw (c : Instr) {s : State} (law : RowsLaw s.table) : RowsLaw (s.after c).table := by
  have moves := after_tableMoves c s
  generalize (s.after c).table = t at moves
  cases moves with
  | stands => exact law
  | lapsed => exact rowsLaw_of_rows law (catchUpLapse_rows _)
  | taken sender b => exact rowsLaw_tableAfter _ _ _ _ law b
  | loaded => exact rowsLaw_ofRoster _
  | emptied => exact nofun

end Sys2Proof.Machine
end

section
/-! Units aside between the own owed and the own borrowed (R49), and what the output pins show (R158, R204). -/

namespace Sys2Proof.Machine

/-- The state in which the defrost unit has looked at the event and the bounds are still to come. -/
def State.served (s : State) (ev : Ev) (before : State) : State :=
  defrostSeesTaking (owedRaised ev before s || ev.cleared) before.safetyKept s

theorem finishRunning_eq (ev : Ev) (before s : State) :
    finishRunning ev before s =
      checkExpulsion (noteStatus before (refreshFan before (evaluate ev before (Machine.settle (s.served ev before))))) :=
  rfl

@[simp] theorem served_frame (ev : Ev) (before s : State) :
    (s.served ev before).pending = s.pending ∧ (s.served ev before).moment = s.moment ∧
      (s.served ev before).pins = s.pins ∧ (s.served ev before).loader = s.loader ∧
      (s.served ev before).table = s.table ∧ (s.served ev before).share = s.share ∧
      (s.served ev before).supply = s.supply ∧ (s.served ev before).zone = s.zone ∧
      (s.served ev before).doors = s.doors ∧ (s.served ev before).overrides = s.overrides ∧
      (s.served ev before).member = s.member ∧ (s.served ev before).bus = s.bus ∧
      (s.served ev before).stats = s.stats := by
  simp [State.served]

/-! ## Units aside -/

theorem rowOf_law {t : ShareTable} (law : RowsLaw t) (station : Nat) :
    (t.rowOf station).owed ≤ (t.rowOf station).borrowed ∧ (t.rowOf station).safety ≤ (t.rowOf station).borrowed := by
  unfold ShareTable.rowOf
  cases found : t.row? station with
  | none => exact ⟨Nat.le_refl 0, Nat.le_refl 0⟩
  | some r => exact law r (List.mem_of_find?_eq_some found)

/-- Units aside lie between the floor (R49) and the own borrowed. -/
def AsideFloored (s : State) : Prop := s.asideFloor ≤ s.share.aside ∧ s.share.aside ≤ s.ownRow.borrowed

/-- The end of R49: units aside between the own owed and the own borrowed. -/
def AsideWithin (s : State) : Prop := s.ownRow.owed ≤ s.share.aside ∧ s.share.aside ≤ s.ownRow.borrowed

theorem AsideFloored.within {s : State} (floored : AsideFloored s) : AsideWithin s :=
  ⟨Nat.le_trans (Nat.le_max_left _ _) floored.1, floored.2⟩

/-- Floor and own row stand with loader, table, commitment and defrost unit. -/
theorem asideFigures_of_blocks {s t : State} (loader : t.loader = s.loader) (table : t.table = s.table)
    (commit : t.share.commit = s.share.commit) (defrost : t.defrost = s.defrost) :
    t.ownRow = s.ownRow ∧ t.asideFloor = s.asideFloor := by
  have row : t.ownRow = s.ownRow := by simp only [State.ownRow, me_of_loader loader, table]
  refine ⟨row, ?_⟩
  simp only [State.asideFloor, State.releasedSafety, State.safetyKept, State.isCab, State.entry, me_of_loader loader,
    loader, row, commit, defrost]
  rfl

theorem asideWithin_of_blocks {s t : State} (loader : t.loader = s.loader) (table : t.table = s.table)
    (aside : t.share.aside = s.share.aside) (within : AsideWithin s) : AsideWithin t := by
  have row : t.ownRow = s.ownRow := by simp only [State.ownRow, me_of_loader loader, table]
  rw [AsideWithin, row, aside]
  exact within

/-- R49, R64, R153: the bounds put aside between floor and own borrowed. -/
theorem asideFloored_applyBounds {s : State} (law : RowsLaw s.table) : AsideFloored (applyBounds s) := by
  obtain ⟨row, floor⟩ := asideFigures_of_blocks (s := setCommit s.boundCommit s) (t := applyBounds s) (by simp) (by simp)
    (by rw [applyBounds_commit]; rfl) (by simp)
  obtain ⟨owed, safety⟩ : s.ownRow.owed ≤ s.ownRow.borrowed ∧ s.ownRow.safety ≤ s.ownRow.borrowed := rowOf_law law s.me
  have same : (setCommit s.boundCommit s).ownRow = s.ownRow := rfl
  have commit : s.boundCommit ≤ s.ownRow.borrowed := by
    unfold State.boundCommit
    split
    · exact Nat.le_refl _
    · exact Nat.min_le_right _ _
  have floorLe : (setCommit s.boundCommit s).asideFloor ≤ s.ownRow.borrowed := by
    have own : (setCommit s.boundCommit s).share.commit = s.boundCommit := rfl
    simp only [State.asideFloor, State.releasedSafety, same, own]
    omega
  rw [AsideFloored, row, floor, applyBounds_aside, same]
  unfold State.boundAside
  rw [same]
  split <;> omega

/-- R51, R52: what R50 adds or reclaims stays between the own owed and the own borrowed. -/
theorem asideWithin_adjustAside (before : State) {s : State} (floored : AsideFloored s) :
    AsideWithin (adjustAside before s) := by
  have within := floored.within
  obtain ⟨floor, most⟩ := floored
  obtain ⟨owed, _⟩ := within
  have owedFloor : s.ownRow.owed ≤ s.asideFloor := Nat.le_max_left _ _
  have row : ∀ units, (setAside units s).ownRow = s.ownRow := fun units => by simp [State.ownRow, State.me]
  unfold adjustAside
  (repeat' split)
  · rw [AsideWithin, row, setAside_aside]
    unfold State.reclaimable
    omega
  · rw [AsideWithin, row, setAside_aside]
    omega
  · exact ⟨owed, most⟩

theorem asideWithin_shareEvaluation (ev : Ev) (before : State) {s : State} (law : RowsLaw s.table) :
    AsideWithin (shareEvaluation ev before s) := by
  have adjusted := asideWithin_adjustAside before (asideFloored_applyBounds law)
  refine asideWithin_of_blocks (by simp) (by simp) ?_ adjusted
  rw [shareEvaluation_share]

theorem asideWithin_evaluate (ev : Ev) (before : State) {s : State} (law : RowsLaw s.table) (within : AsideWithin s) :
    AsideWithin (evaluate ev before s) := by
  unfold evaluate
  (repeat' split)
  · refine asideWithin_of_blocks (s := shareEvaluation ev before (measure ev.periodic s)) ?_ ?_ ?_
      (asideWithin_shareEvaluation ev before (by simpa using law))
    all_goals simp [zoneEvaluation, regulate]
  · exact asideWithin_of_blocks (by simp) (by simp) (by simp) (asideWithin_shareEvaluation ev before law)
  · exact within

/-- The end of an event sets up R49, whatever came before. -/
theorem asideWithin_finishRunning (ev : Ev) (before : State) {s : State} (law : RowsLaw s.table) :
    AsideWithin (finishRunning ev before s) := by
  have rows : RowsLaw (s.served ev before).table := by simpa using law
  have settled : AsideWithin (Machine.settle (s.served ev before)) :=
    asideWithin_of_blocks (by simp [Machine.settle]) (by simp [Machine.settle]) (by simp [Machine.settle])
      (asideFloored_applyBounds rows).within
  rw [finishRunning_eq]
  exact asideWithin_of_blocks (by simp) (by simp) (by simp) (asideWithin_evaluate ev before (by simpa using law) settled)

theorem after_keepsAsideLaw (c : Instr) {s : State} (phase : PhaseLaw s) (rows : RowsLaw s.table) (law : AsideLaw s) :
    AsideLaw (s.after c) := by
  intro configured
  have rowsAfter := after_keepsRowsLaw c rows
  cases start : startsUp c with
  | false =>
    have running : s.running = true := (after_loader start s).2.2.symm.trans configured
    obtain undisturbed | ⟨ev, r, u, eq, uRuns, _⟩ := after_ends start running
    · exact asideWithin_of_blocks undisturbed.loader undisturbed.table undisturbed.aside (law running)
    · rw [eq, finish_of_running uRuns] at rowsAfter ⊢
      exact asideWithin_finishRunning ev r (by simpa using rowsAfter)
  | true =>
    obtain ⟨_, eq⟩ | ⟨_, inReset, eq⟩ | ⟨u, _, _, _, _, _, _, _, _, eq⟩ | ⟨u, _, _, _, _, _, eq⟩ | ⟨same, _⟩ :=
      after_startUp start s
    · rw [eq] at configured; cases configured
    · have idle : s.running = false := by rw [phase, inReset]; rfl
      rw [eq] at configured
      exact absurd (show s.running = true from configured) (by simp [idle])
    · rw [eq, loadSucceeds_eq, finish_of_running (running_tableLoaded _ _ _)] at rowsAfter ⊢
      exact asideWithin_finishRunning _ _ (by simpa using rowsAfter)
    · rw [eq] at configured; cases configured
    · exact asideWithin_of_blocks same.loader same.table same.aside
        (law ((running_of_member same.member).symm.trans configured))

/-- Settles O54: a step keeps the phase, row and aside laws together. -/
theorem asideLawKept : Obligations.AsideLawKept := by
  intro s t phase rows law stepped
  have kept := step_keeps (P := fun s => PhaseLaw s ∧ RowsLaw s.table ∧ AsideLaw s) (fun s rest h => h)
    (fun c s h => ⟨after_keepsPhaseLaw c s h.1, after_keepsRowsLaw c h.2.1, after_keepsAsideLaw c h.1 h.2.1 h.2.2⟩)
    (fun s h => h) stepped ⟨phase, rows, law⟩
  exact kept.2

/-! ## Stages and fan at the end of an event -/

theorem forcedDown_length (minimum limit : Nat) :
    ∀ (stages : List Stage) (load : Nat), (forcedDown minimum limit load stages).length = stages.length
  | [], _ => rfl
  | g :: gs, load => by
    unfold forcedDown
    split
    · simp [forcedDown_length minimum limit gs]
    · rfl

theorem offPass_length (minimum : Nat) :
    ∀ (wanted : List Bool) (stages : List Stage), (offPass minimum wanted stages).length = stages.length
  | [], _ => by simp [offPass]
  | _ :: _, [] => by simp [offPass]
  | w :: ws, g :: gs => by simp [offPass, offPass_length minimum ws gs]

theorem onPass_length (minimum limit : Nat) :
    ∀ (wanted : List Bool) (stages : List Stage) (load : Nat), (onPass minimum limit load wanted stages).length = stages.length
  | [], _, _ => by simp [onPass]
  | _ :: _, [], _ => by simp [onPass]
  | w :: ws, g :: gs, load => by
    unfold onPass
    split <;> simp [onPass_length minimum limit ws gs]

theorem switched_length (minimum target limit : Nat) (allowed : Bool) (stages : List Stage) :
    (switched minimum target limit allowed stages).length = stages.length := by
  unfold switched
  dsimp only
  split <;> simp [onPass_length, offPass_length]

theorem cutStages_length (s : State) : (cutStages s).zone.stages.length = s.zone.stages.length := by
  unfold cutStages
  split <;> simp [setStages, forced, forcedDown_length]

@[simp] theorem shareEvaluation_zone (ev : Ev) (before s : State) : (shareEvaluation ev before s).zone = s.zone := by simp

theorem measure_stages (periodic : Bool) (s : State) :
    (measure periodic s).zone.stages = s.zone.stages ∧ (measure periodic s).zone.fan = s.zone.fan := ⟨rfl, rfl⟩

theorem settle_zone (s : State) :
    (Machine.settle s).zone.stages.length = s.zone.stages.length ∧ (Machine.settle s).zone.fan = s.zone.fan := by
  refine ⟨by simp [Machine.settle, cutStages_length], ?_⟩
  unfold Machine.settle cutStages
  split <;> simp [setStages]

/-- An evaluation keeps the number of stages; the fan stands or follows R86. -/
theorem evaluate_zone (ev : Ev) (before s : State) :
    (evaluate ev before s).zone.stages.length = s.zone.stages.length ∧
      ((evaluate ev before s).zone.fan = s.zone.fan ∨ ∃ u : State, u.overrides = s.overrides ∧ (evaluate ev before s).zone.fan = u.fanNow) := by
  unfold evaluate
  (repeat' split)
  · refine ⟨?_, .inr ⟨switchStages (cutStages (shareEvaluation ev before (measure ev.periodic s))), by simp, rfl⟩⟩
    simp only [zoneEvaluation, regulate_stages, switchStages, setStages, switched_length, cutStages_length,
      shareEvaluation_zone, measure_stages]
  · refine ⟨by simp [cutStages_length], .inl ?_⟩
    unfold cutStages
    split <;> simp [setStages]
  · exact ⟨rfl, .inl rfl⟩

/-- R86: without a force the fan is at most at level 3, with one at the level forced. -/
theorem fanNow_le {s : State} (slot : ∀ x, s.overrides.fanForce = some x → x.value ≤ 3) : s.fanNow ≤ 3 := by
  unfold State.fanNow
  split
  · exact slot _ ‹_›
  · (repeat' split) <;> omega

theorem finishRunning_zone (ev : Ev) (before : State) {s : State}
    (slot : ∀ x, s.overrides.fanForce = some x → x.value ≤ 3) (fan : s.zone.fan ≤ 3) :
    (finishRunning ev before s).zone.stages.length = s.zone.stages.length ∧ (finishRunning ev before s).zone.fan ≤ 3 := by
  obtain ⟨settledStages, settledFan⟩ := settle_zone (s.served ev before)
  obtain ⟨stages, level⟩ := evaluate_zone ev before (Machine.settle (s.served ev before))
  have zone : (finishRunning ev before s).zone =
      (refreshFan before (evaluate ev before (Machine.settle (s.served ev before)))).zone := by
    simp [finishRunning_eq]
  have length : (evaluate ev before (Machine.settle (s.served ev before))).zone.stages.length = s.zone.stages.length := by
    rw [stages, settledStages]; simp
  have evaluatedFan : (evaluate ev before (Machine.settle (s.served ev before))).zone.fan ≤ 3 := by
    obtain stands | ⟨u, same, follows⟩ := level
    · rw [stands, settledFan]; simpa using fan
    · have same' : u.overrides = s.overrides := same.trans (by simp)
      rw [follows]
      exact fanNow_le (same' ▸ slot)
  rw [zone]
  unfold refreshFan
  split
  · exact ⟨length, fanNow_le (by simpa using slot)⟩
  · exact ⟨length, evaluatedFan⟩

/-! ## The pin laws under every command -/

theorem pinLaw_finishRunning (ev : Ev) (before : State) {s : State} (law : PinLaw s) : PinLaw (finishRunning ev before s) := by
  obtain ⟨stages, fan, slot, units⟩ := law
  obtain ⟨length, level⟩ := finishRunning_zone ev before slot fan
  exact ⟨length.trans stages, level, by simpa using slot, by simpa using units⟩

theorem stagesOf_length (e : RosterEntry) : (stagesOf e).length = e.sizes.length := by simp [stagesOf]

/-- R203: every entry of a table in force has four stages; so has the blank one. -/
theorem entry_sizes {s : State} {strap : Nat} {bytes image : List Byte}
    (found : tableFrom strap bytes = some (image, s.loader.vt)) : s.entry.sizes.length = 4 := by
  unfold State.entry
  cases mine : s.loader.vt.roster.find? (fun e => e.station == s.me) with
  | none => rfl
  | some e =>
    obtain ⟨_, _, _, _, _, _, _, _, _, sizes, _⟩ := tableFrom_entry found (List.mem_of_find?_eq_some mine)
    exact sizes

theorem pinLaw_tableLoaded {image bytes : List Byte} {vt : VehicleTable} {s : State} {strap : Nat}
    (found : tableFrom strap bytes = some (image, vt)) (law : PinLaw s) : PinLaw (s.tableLoaded image vt) := by
  obtain ⟨_, fan, slot, _⟩ := law
  obtain ⟨_, _, _, _, ⟨_, unitsHigh, trimHigh⟩, _⟩ := fieldsOf_spells (tableFrom_eq_some found).2.1
  have vtIs : (tableInForce image vt s).loader.vt = vt := by simp
  refine ⟨?_, by simpa using fan, by simpa using slot, by simpa using trimHigh, by simpa using unitsHigh⟩
  rw [(tableLoaded_frame image vt s).2.2.2.2.2.1, tableInForce_stages, stagesOf_length]
  exact entry_sizes (strap := strap) (bytes := bytes) (image := image) (by rw [vtIs]; exact found)

theorem Undisturbed.pinLaw {s t : State} (same : Undisturbed s t) (law : PinLaw s) : PinLaw t := by
  have slot : t.overrides.fanForce = s.overrides.fanForce := (congrArg Overrides.fanForce same.overrides :)
  rw [PinLaw, same.zone, slot, same.loader]
  exact law

theorem after_keepsPinLaw (c : Instr) {s : State} (law : PinLaw s) : PinLaw (s.after c) := by
  have kept := law
  obtain ⟨stages, fan, slot, units⟩ := law
  cases start : startsUp c with
  | false =>
    cases running : s.running with
    | false =>
      have unmoved := after_unmoved start running
      rw [PinLaw, unmoved.zone, unmoved.overrides, unmoved.loader]
      exact kept
    | true =>
      obtain undisturbed | ⟨ev, r, u, eq, configured, _, loader, ⟨length, level⟩, fanSlot⟩ := after_ends start running
      · exact undisturbed.pinLaw kept
      · rw [eq, finish_of_running configured]
        refine pinLaw_finishRunning ev r ⟨length.trans stages, by rw [level]; exact fan, fun x held => ?_, by rw [loader]; exact units⟩
        obtain within | ⟨y, stood, same⟩ := fanSlot x held
        · exact within
        · rw [← same]; exact slot y stood
  | true =>
    obtain ⟨_, eq⟩ | ⟨_, _, eq⟩ | ⟨u, _, _, _, same, _, _, _, found, eq⟩ | ⟨u, same, _, _, _, _, eq⟩ | ⟨same, _⟩ :=
      after_startUp start s
    · rw [eq]; exact ⟨rfl, Nat.zero_le _, nofun, Nat.zero_le _, Nat.zero_le _⟩
    · rw [eq]; exact kept
    · rw [eq, loadSucceeds_eq, finish_of_running (running_tableLoaded _ _ _)]
      exact pinLaw_finishRunning _ _ (pinLaw_tableLoaded found (same.pinLaw kept))
    · rw [eq]; exact same.pinLaw kept
    · exact same.pinLaw kept

theorem not_running_of_quiet {s : State}
    (member : s.member.state = if s.loader.phase = .failed then .unconfigured else .undecided) : s.running = false := by
  unfold State.running
  by_cases failed : s.loader.phase = .failed <;> simp [member, failed]

/-- R204: quiet before a successful load. In a loaded station the law asks for nothing. -/
theorem after_keepsQuietLaw (c : Instr) {s : State} (law : QuietLaw s) : QuietLaw (s.after c) := by
  intro phaseAfter
  cases start : startsUp c with
  | false =>
    have loader := (after_loader start s).2.1
    rw [loader] at phaseAfter ⊢
    obtain ⟨off, fan, drive, member⟩ := law phaseAfter
    have idle := not_running_of_quiet member
    have unmoved := after_unmoved start idle
    refine ⟨by rw [unmoved.zone]; exact off, by rw [unmoved.zone]; exact fan, ?_, by rw [unmoved.member]; exact member⟩
    obtain stands | released := unmoved.drive
    · rw [stands]; exact drive
    · exact released
  | true =>
    obtain ⟨_, eq⟩ | ⟨_, inReset, eq⟩ | ⟨u, _, _, _, same, _, _, _, _, eq⟩ | ⟨u, same, member, bus, _, reading, eq⟩ |
      ⟨same, member, bus, _⟩ := after_startUp start s
    · rw [eq]; exact ⟨(by decide : ∀ g ∈ Zone.reset.stages, g.on = false), rfl, rfl, rfl⟩
    · obtain ⟨off, fan, drive, member⟩ := law (by simp [inReset])
      rw [eq]
      refine ⟨off, fan, drive, ?_⟩
      rw [inReset] at member
      exact member
    · rw [eq, loadSucceeds_eq] at phaseAfter
      simp at phaseAfter
    · obtain ⟨off, fan, drive, _⟩ := law (by simp [reading])
      rw [eq]
      refine ⟨?_, ?_, ?_, rfl⟩
      · show ∀ g ∈ u.zone.stages, g.on = false
        rw [same.zone]; exact off
      · exact (congrArg (·.fan) same.zone).trans fan
      · exact (congrArg (·.drive) bus).trans drive
    · rw [same.loader] at phaseAfter
      obtain ⟨off, fan, drive, state⟩ := law phaseAfter
      rw [same.zone, bus, member, same.loader]
      exact ⟨off, fan, drive, state⟩

theorem passMillisecond_stages (s : State) :
    (passMillisecond s).zone.stages.length = s.zone.stages.length ∧ (passMillisecond s).zone.fan = s.zone.fan ∧
      (passMillisecond s).zone.stages.map (·.on) = s.zone.stages.map (·.on) := by
  simp [passMillisecond, Function.comp_def]

theorem pinLaw_passMillisecond {s : State} (law : PinLaw s) : PinLaw (passMillisecond s) := by
  obtain ⟨stages, fan, slot, units⟩ := law
  refine ⟨(passMillisecond_stages s).1.trans stages, fan, fun x held => ?_, units⟩
  obtain ⟨y, stood, rfl⟩ := Option.map_eq_some_iff.mp held
  exact slot y stood

theorem quietLaw_passMillisecond {s : State} (law : QuietLaw s) : QuietLaw (passMillisecond s) := by
  intro phase
  obtain ⟨off, fan, drive, member⟩ := law phase
  refine ⟨fun g mem => ?_, fan, drive, member⟩
  obtain ⟨g₀, mem₀, rfl⟩ := List.mem_map.mp mem
  exact off g₀ mem₀

/-! ## The pins -/

theorem fault_iff (s : State) :
    s.fault = true ↔ s.member.state = .unconfigured ∨ s.member.state = .mismatched ∨ s.member.state = .clash := by
  unfold State.fault
  cases s.member.state <;> simp

theorem loadsAllowed_iff (s : State) :
    s.loadsAllowed = true ↔ s.supply.state = .live ∧ s.running = true ∧ s.member.state ≠ .clash := by
  simp [State.loadsAllowed, State.live, and_assoc]

theorem defrostLoad_eq (s : State) :
    s.defrostLoad =
      if s.supply.state = .live ∧ s.running = true ∧ s.member.state ≠ .clash then min s.request s.spendable else 0 := by
  unfold State.defrostLoad
  simp only [loadsAllowed_iff]

/-- R111: the defrost unit asks for no more than its units. -/
theorem request_le {s : State} (trim : s.loader.vt.trimUnits ≤ s.loader.vt.defrostUnits) :
    s.request ≤ s.loader.vt.defrostUnits := by
  unfold State.request
  (repeat' split) <;> omega

/-- Settles O33: the pins as functions of the state, and the two laws kept by every step. -/
theorem outputPins : Obligations.OutputPins := by
  refine ⟨fun s => ⟨rfl, decide_eq_true_iff, defrostLoad_eq s, rfl, fault_iff s, rfl, ?_⟩, fun s law => ?_,
    fun s law phase => ?_, ⟨rfl, by decide, nofun, by decide⟩, fun _ => ⟨by decide, rfl, rfl, rfl⟩,
    fun s t pins quiet stepped => ?_⟩
  · show s.loader.phase.port = _
    unfold Phase.port
    rfl
  · obtain ⟨stages, fan, _, trim, units⟩ := law
    refine ⟨by simpa [State.outputs] using stages, ?_, fan⟩
    have request := request_le trim
    show s.defrostLoad ≤ 31
    unfold State.defrostLoad
    split <;> omega
  · obtain ⟨off, fan, drive, member⟩ := law phase
    have idle := not_running_of_quiet member
    have none : s.defrostLoad = 0 := by simp [State.defrostLoad, loadsAllowed_of_not_running idle]
    refine ⟨?_, by simp [State.outputs, none], none, fan, drive, ?_⟩
    · simpa [State.outputs] using off
    · show s.fault = true ↔ _
      rw [fault_iff, member]
      split <;> simp_all
  · exact step_keeps (P := fun s => PinLaw s ∧ QuietLaw s) (fun s rest h => h)
      (fun c s h => ⟨after_keepsPinLaw c h.1, after_keepsQuietLaw c h.2⟩)
      (fun s h => ⟨pinLaw_passMillisecond h.1, quietLaw_passMillisecond h.2⟩) stepped ⟨pins, quiet⟩

end Sys2Proof.Machine
end

section
/-! A lawful share table stays lawful (R1 to R5, R9, R10, R27, R28, R40): the laws of rows and queue under each operation of
the table, and the held part and its flag at the end of a taking. -/

namespace Sys2Proof.Machine

/-! ## The laws of rows and queue -/

/-- What no operation on units changes of a row. -/
def Row.plate (r : Row) : Nat × Nat × Nat × RowState := (r.station, r.weight, r.dedicated, r.state)

/-- A row's units are in order: owed and safety within borrowed, borrowed in a byte, none in an ABSENT row. -/
def RowOk (r : Row) : Prop :=
  (r.owed ≤ r.borrowed ∧ r.safety ≤ r.borrowed) ∧ r.borrowed ≤ 255 ∧
    (r.state = .absent → r.borrowed = 0 ∧ r.safety = 0 ∧ r.owed = 0)

/-- A claim queue entry's units and standing are in order, and its row is PRESENT. -/
def EntryOk (t : ShareTable) (e : Entry) : Prop :=
  1 ≤ e.units ∧ e.units ≤ 63 ∧ e.standing ≤ 255 ∧ (t.rowOf e.station).state = .present

/-- The laws of rows and queue, all of the table's laws but those of the held part and its flag. -/
structure BookLaw (t : ShareTable) : Prop where
  stations : (t.rows.map (·.station)).Nodup
  rows : ∀ r ∈ t.rows, RowOk r
  claimants : (t.queue.map (·.station)).Nodup
  entries : ∀ e ∈ t.queue, EntryOk t e
  rowOrder : t.rows.Pairwise (fun a b => a.recalledBefore b = true)
  queueOrder : t.queue.Pairwise (fun a b => a.before b = true)
  widths : t.reserved ≤ 248 ∧ t.allowance ≤ 255 ∧ t.fallback ≤ 255

theorem tableLaw_iff {t : ShareTable} : TableLaw t ↔ BookLaw t ∧ HeldLaw t ∧ FlagLaw t := by
  constructor
  · rintro ⟨stations, rows, absent, ⟨claimants, entries⟩, held, flag, ⟨rowOrder, queueOrder⟩, reserved, allowance, fallback,
      borrowed, standing⟩
    refine ⟨⟨stations, fun r mem => ⟨rows r mem, borrowed r mem, absent r mem⟩, claimants, fun e mem => ?_, rowOrder,
      queueOrder, reserved, allowance, fallback⟩, held, flag⟩
    obtain ⟨least, most, present⟩ := entries e mem
    exact ⟨least, most, standing e mem, present⟩
  · rintro ⟨⟨stations, rows, claimants, entries, rowOrder, queueOrder, reserved, allowance, fallback⟩, held, flag⟩
    exact ⟨stations, fun r mem => (rows r mem).1, fun r mem => (rows r mem).2.2, ⟨claimants, fun e mem =>
      ⟨(entries e mem).1, (entries e mem).2.1, (entries e mem).2.2.2⟩⟩, held, flag, ⟨rowOrder, queueOrder⟩, reserved,
      allowance, fallback, fun r mem => (rows r mem).2.1, fun e mem => (entries e mem).2.2.1⟩

theorem BookLaw.rowsLaw {t : ShareTable} (law : BookLaw t) : RowsLaw t := fun r mem => (law.rows r mem).1

/-! ## What hangs on the plates of the rows -/

theorem rowOf_state_eq (t : ShareTable) (station : Nat) :
    (t.rowOf station).state = (((t.rows.map Row.plate).find? (fun p => p.1 == station)).map (·.2.2.2)).getD .absent := by
  rw [List.find?_map]
  unfold ShareTable.rowOf ShareTable.row?
  have same : ((fun p : Nat × Nat × Nat × RowState => p.1 == station) ∘ Row.plate) = fun r : Row => r.station == station := rfl
  rw [same]
  cases t.rows.find? (fun r => r.station == station) <;> rfl

theorem stations_of_plates {rows rows' : List Row} (plates : rows'.map Row.plate = rows.map Row.plate) :
    rows'.map (·.station) = rows.map (·.station) := by
  have := congrArg (List.map (·.1)) plates
  simpa [Row.plate, Function.comp_def] using this

theorem reserved_of_plates {t u : ShareTable} (plates : u.rows.map Row.plate = t.rows.map Row.plate) :
    u.reserved = t.reserved := by
  have := congrArg (List.map (·.2.2.1)) plates
  simp only [List.map_map] at this
  exact congrArg List.sum this

theorem rowOrder_of_plates {rows rows' : List Row} (plates : rows'.map Row.plate = rows.map Row.plate)
    (order : rows.Pairwise (fun a b => a.recalledBefore b = true)) :
    rows'.Pairwise (fun a b => a.recalledBefore b = true) := by
  let rel : Nat × Nat × Nat × RowState → Nat × Nat × Nat × RowState → Prop := fun p q =>
    (decide (p.2.1 < q.2.1) || (p.2.1 == q.2.1 && decide (q.1 < p.1))) = true
  have before : (rows.map Row.plate).Pairwise rel := List.pairwise_map.mpr order
  rw [← plates] at before
  exact List.pairwise_map.mp before

/-- With the same plates, lawful rows and the same queue and limits a table stays lawful. -/
theorem BookLaw.of_plates {t u : ShareTable} (law : BookLaw t) (plates : u.rows.map Row.plate = t.rows.map Row.plate)
    (rows : ∀ r ∈ u.rows, RowOk r) (queue : u.queue = t.queue) (allowance : u.allowance ≤ 255) (fallback : u.fallback ≤ 255) :
    BookLaw u where
  stations := by rw [stations_of_plates plates]; exact law.stations
  rows := rows
  claimants := by rw [queue]; exact law.claimants
  entries := by
    rw [queue]
    intro e mem
    obtain ⟨least, most, standing, present⟩ := law.entries e mem
    exact ⟨least, most, standing, by rw [rowOf_state_eq, plates, ← rowOf_state_eq]; exact present⟩
  rowOrder := rowOrder_of_plates plates law.rowOrder
  queueOrder := by rw [queue]; exact law.queueOrder
  widths := ⟨by rw [reserved_of_plates plates]; exact law.widths.1, allowance, fallback⟩

/-- A part of the queue, in its order, keeps the laws. -/
theorem BookLaw.of_sublist {t : ShareTable} (law : BookLaw t) {queue : List Entry} (part : queue.Sublist t.queue) :
    BookLaw { t with queue } where
  stations := law.stations
  rows := law.rows
  claimants := law.claimants.sublist (part.map _)
  entries := fun e mem => law.entries e (part.subset mem)
  rowOrder := law.rowOrder
  queueOrder := law.queueOrder.sublist part
  widths := law.widths

theorem dropEntry_sublist (station : Nat) (queue : List Entry) : (dropEntry station queue).Sublist queue :=
  List.filter_sublist

/-! ## The order of the claim queue (R27, R28) -/

theorem before_of_not_before {a b : Entry} (apart : a.station ≠ b.station) (not : b.before a = false) : a.before b = true := by
  rw [before_iff, ← rank_code_inj]
  rw [not_before_iff] at not
  omega

theorem not_before_of_before {a b : Entry} (before : a.before b = true) : b.before a = false := by
  rw [before_iff, ← rank_code_inj] at before
  rw [not_before_iff]
  omega

/-- Entries of different stations in the weak order stand in the strict one. -/
theorem strictOrder {queue : List Entry} (weak : queue.Pairwise (fun a b => b.before a = false))
    (apart : (queue.map (·.station)).Nodup) : queue.Pairwise (fun a b => a.before b = true) := by
  have different := List.pairwise_map.mp apart
  exact weak.imp₂ (fun _ _ not ne => before_of_not_before ne not) different

theorem weakOrder {queue : List Entry} (strict : queue.Pairwise (fun a b => a.before b = true)) :
    queue.Pairwise (fun a b => b.before a = false) :=
  strict.imp not_before_of_before

theorem queueOrder_strict {entries : List Entry} (apart : (entries.map (·.station)).Nodup) :
    (queueOrder entries).Pairwise (fun a b => a.before b = true) ∧ ((queueOrder entries).map (·.station)).Nodup := by
  have nodup : ((queueOrder entries).map (·.station)).Nodup := ((queueOrder_perm entries).map _).nodup_iff.mpr apart
  exact ⟨strictOrder (queueOrder_pairwise entries) nodup, nodup⟩

theorem mem_setEntry {e x : Entry} {queue : List Entry} (mem : x ∈ setEntry e queue) : x = e ∨ x ∈ queue := by
  obtain rfl | rest := List.mem_cons.mp ((setEntry_perm e queue).mem_iff.mp mem)
  · exact .inl rfl
  · exact .inr (mem_dropEntry.mp rest).1

/-- A lawful entry filed in a lawful table. -/
theorem BookLaw.setEntry {t : ShareTable} (law : BookLaw t) {e : Entry} (ok : EntryOk t e) :
    BookLaw { t with queue := setEntry e t.queue } := by
  have dropped := law.of_sublist (dropEntry_sublist e.station t.queue)
  have nodup : ((Machine.setEntry e t.queue).map (·.station)).Nodup := by
    refine ((setEntry_perm e t.queue).map _).nodup_iff.mpr (List.nodup_cons.mpr ⟨fun mem => ?_, dropped.claimants⟩)
    obtain ⟨x, left, same⟩ := List.mem_map.mp mem
    exact (mem_dropEntry.mp left).2 same
  exact ⟨law.stations, law.rows, nodup, fun x mem => (mem_setEntry mem).elim (fun same => same ▸ ok) (law.entries x),
    law.rowOrder, strictOrder (insertEntry_pairwise e _ (weakOrder dropped.queueOrder)) nodup, law.widths⟩

/-! ## Recalls and the flag -/

theorem rowOk_raised {r : Row} (ok : RowOk r) {given : Nat} (le : given ≤ r.borrowed - r.owed) :
    RowOk { r with owed := r.owed + given } := by
  obtain ⟨⟨owed, safety⟩, byte, absent⟩ := ok
  refine ⟨⟨by dsimp only; omega, safety⟩, byte, fun gone => ?_⟩
  obtain ⟨borrowed, noSafety, noOwed⟩ := absent gone
  exact ⟨borrowed, noSafety, by dsimp only; omega⟩

theorem recallPass_rowOk {give : Row → Nat} {short : Nat} {rows : List Row}
    (give_le : ∀ r ∈ rows, give r ≤ r.borrowed - r.owed) (ok : ∀ r ∈ rows, RowOk r) :
    ∀ r ∈ (recallPass give short rows).2, RowOk r := by
  intro r mem
  obtain ⟨r₀, mem₀, given, le, rfl⟩ := mem_recallPass mem
  exact rowOk_raised (ok r₀ mem₀) (Nat.le_trans le (give_le r₀ mem₀))

theorem BookLaw.safetyRecall {t : ShareTable} (law : BookLaw t) (n : Nat) : BookLaw (t.safetyRecall n) :=
  law.of_plates (safetyRecall_map Row.plate (fun _ _ => rfl) t n)
    (recallPass_rowOk (fun r _ => freeToRecall_le_held r) law.rows) rfl law.widths.2.1 law.widths.2.2

theorem BookLaw.recallExcess {t : ShareTable} (law : BookLaw t) : BookLaw t.recallExcess :=
  law.of_plates (recallExcess_map Row.plate (fun _ _ => rfl) t)
    (recallPass_rowOk (fun _ _ => Nat.le_refl _) (recallPass_rowOk (fun r _ => freeToRecall_le_held r) law.rows)) rfl
    law.widths.2.1 law.widths.2.2

theorem BookLaw.evaluateOverdrawn {t : ShareTable} (law : BookLaw t) (statement : Bool) :
    BookLaw (t.evaluateOverdrawn statement) :=
  law.of_plates rfl law.rows rfl law.widths.2.1 law.widths.2.2

theorem safetyRecall_held_le (t : ShareTable) (n : Nat) : (t.safetyRecall n).held ≤ t.held := by
  unfold ShareTable.held ShareTable.safetyRecall
  dsimp only
  induction t.rows generalizing n with
  | nil => exact Nat.le_refl _
  | cons r rs ih =>
    have rest := ih (n - min n r.freeToRecall)
    simp only [recallPass, List.map_cons, List.sum_cons, Row.held]
    omega

@[simp] theorem safetyRecall_pool (t : ShareTable) (n : Nat) : (t.safetyRecall n).pool = t.pool := by
  unfold ShareTable.pool ShareTable.reserved
  rw [safetyRecall_map (·.dedicated) (fun _ _ => rfl)]
  simp

theorem pool_le_allowance (t : ShareTable) : t.pool ≤ t.allowance := by
  unfold ShareTable.pool
  split <;> omega

/-! ## A grant (R36) -/

theorem granted_plate (units : Nat) (rank : Rank) (r : Row) : (r.granted units rank).plate = r.plate := rfl

theorem updateRow_plates {f : Row → Row} (keeps : ∀ r, (f r).plate = r.plate) (station : Nat) (rows : List Row) :
    (updateRow station f rows).map Row.plate = rows.map Row.plate :=
  updateRow_map Row.plate f keeps station rows

theorem borrowed_le_sum {rows : List Row} {r : Row} (mem : r ∈ rows) : r.borrowed ≤ (rows.map (·.borrowed)).sum :=
  le_sum_of_member (List.mem_map_of_mem mem)

theorem held_le_borrowed (rows : List Row) : (rows.map Row.held).sum ≤ (rows.map (·.borrowed)).sum :=
  sum_map_le fun _ _ => Nat.sub_le _ _

/-- With one row per station a grant adds its units to what is borrowed once. -/
theorem borrowedSum_granted_le (station units : Nat) (rank : Rank) :
    ∀ rows : List Row, (rows.map (·.station)).Nodup →
      ((updateRow station (Row.granted units rank) rows).map (·.borrowed)).sum ≤ (rows.map (·.borrowed)).sum + units
  | [], _ => Nat.zero_le _
  | r :: rs, nodup => by
    obtain ⟨fresh, rest⟩ := List.nodup_cons.mp nodup
    by_cases mine : r.station = station
    · have others : updateRow station (Row.granted units rank) rs = rs := by
        refine (List.map_congr_left fun x mem => if_neg fun same => fresh ?_).trans (List.map_id rs)
        exact List.mem_map.mpr ⟨x, mem, same.trans mine.symm⟩
      have head : updateRow station (Row.granted units rank) (r :: rs) = r.granted units rank :: rs := by
        show (if r.station = station then r.granted units rank else r) :: updateRow station (Row.granted units rank) rs = _
        rw [if_pos mine, others]
      rw [head]
      simp only [List.map_cons, List.sum_cons, Row.granted]
      omega
    · have head : updateRow station (Row.granted units rank) (r :: rs) = r :: updateRow station (Row.granted units rank) rs := by
        show (if r.station = station then r.granted units rank else r) :: updateRow station (Row.granted units rank) rs = _
        rw [if_neg mine]
      have tail := borrowedSum_granted_le station units rank rs rest
      rw [head]
      simp only [List.map_cons, List.sum_cons]
      omega

/-- R36: a grant of units that are free, to a row that is not ABSENT. -/
theorem BookLaw.granted {t : ShareTable} (law : BookLaw t) {station units : Nat} (rank : Rank)
    (present : ∀ r ∈ t.rows, r.station = station → r.state = .present) (some : 1 ≤ units) (fits : units ≤ t.free) :
    BookLaw (t.update station (Row.granted units rank)) ∧
      (t.update station (Row.granted units rank)).held ≤ (t.update station (Row.granted units rank)).pool := by
  have plates : (t.update station (Row.granted units rank)).rows.map Row.plate = t.rows.map Row.plate :=
    updateRow_plates (granted_plate units rank) station t.rows
  have sum := borrowedSum_granted_le station units rank t.rows law.stations
  have total : t.borrowedSum = (t.rows.map (·.borrowed)).sum := rfl
  have pool : (t.update station (Row.granted units rank)).pool = t.pool := by
    unfold ShareTable.pool
    rw [reserved_of_plates plates]
    simp
  have limit := pool_le_allowance t
  have allowance := law.widths.2.1
  have free : units ≤ t.pool - t.borrowedSum := fits
  refine ⟨law.of_plates plates (fun r mem => ?_) rfl allowance law.widths.2.2, ?_⟩
  · have within := borrowed_le_sum (show r ∈ updateRow station (Row.granted units rank) t.rows from mem)
    obtain ⟨r₀, mem₀, eq⟩ := mem_updateRow mem
    by_cases mine : r₀.station = station
    · rw [if_pos mine] at eq
      subst eq
      refine ⟨granted_law units rank (law.rows r₀ mem₀).1, by omega, fun gone => ?_⟩
      exact absurd (present r₀ mem₀ mine) (by rw [show r₀.state = .absent from gone]; decide)
    · rw [if_neg mine] at eq
      subst eq
      exact law.rows r mem₀
  · have held := held_le_borrowed (updateRow station (Row.granted units rank) t.rows)
    rw [pool]
    show ((updateRow station (Row.granted units rank) t.rows).map Row.held).sum ≤ t.pool
    omega

theorem row?_of_mem {t : ShareTable} (stations : (t.rows.map (·.station)).Nodup) {r : Row} (mem : r ∈ t.rows) :
    t.row? r.station = some r := by
  unfold ShareTable.row?
  rw [List.find?_eq_some_iff_append]
  refine ⟨by simp, ?_⟩
  obtain ⟨before, after, rows⟩ := List.append_of_mem mem
  refine ⟨before, after, rows, fun x earlier => ?_⟩
  rw [rows, List.map_append, List.nodup_append] at stations
  have apart := stations.2.2 x.station (List.mem_map_of_mem earlier) r.station (by simp)
  simpa using apart

theorem present_of_rowOf {t : ShareTable} (stations : (t.rows.map (·.station)).Nodup) {station : Nat} {state : RowState}
    (present : (t.rowOf station).state = state) : ∀ r ∈ t.rows, r.station = station → r.state = state := by
  intro r mem same
  subst same
  simpa [ShareTable.rowOf, row?_of_mem stations mem] using present

theorem grown_ok {t : ShareTable} {e : Entry} (ok : EntryOk t e) : EntryOk t (e.grown t) :=
  ⟨ok.1, ok.2.1, Nat.min_le_left _ _, ok.2.2.2⟩

/-- R36, R37: a grant to the head of the queue, with the standing of the others growing. -/
theorem BookLaw.grantHead {t : ShareTable} (law : BookLaw t) {e : Entry} {rest : List Entry} (queue : t.queue = e :: rest)
    (fits : e.units ≤ t.free) :
    BookLaw (t.grantHead e rest) ∧ (t.grantHead e rest).held ≤ (t.grantHead e rest).pool := by
  obtain ⟨some, _, _, present⟩ := law.entries e (by rw [queue]; exact List.mem_cons_self)
  obtain ⟨granted, within⟩ := law.granted e.rank (present_of_rowOf law.stations present) some fits
  have claimants := law.claimants
  rw [queue, List.map_cons, List.nodup_cons] at claimants
  have apart : ((rest.map (Entry.grown t)).map (·.station)).Nodup := by
    rw [List.map_map]; exact claimants.2
  obtain ⟨order, nodup⟩ := queueOrder_strict apart
  have plates : (t.grantHead e rest).rows.map Row.plate = t.rows.map Row.plate :=
    updateRow_plates (granted_plate e.units e.rank) e.station t.rows
  refine ⟨⟨granted.stations, granted.rows, nodup, fun x mem => ?_, granted.rowOrder, order, granted.widths⟩, within⟩
  obtain ⟨y, inRest, rfl⟩ := List.mem_map.mp ((queueOrder_perm _).mem_iff.mp mem)
  obtain ⟨least, most, standing, state⟩ := grown_ok (law.entries y (by rw [queue]; exact List.mem_cons_of_mem _ inRest))
  exact ⟨least, most, standing, by rw [rowOf_state_eq, plates, ← rowOf_state_eq]; exact state⟩

/-! ## The end of a taking (R10, R11) -/

theorem serviceRound_lawful {t : ShareTable} (law : BookLaw t) (held : HeldLaw t) :
    BookLaw t.serviceRound ∧ HeldLaw t.serviceRound := by
  refine serviceRound_keeps (fun u => BookLaw u ∧ HeldLaw u) (fun u e rest _ queue fits both => ?_) (fun u n both => ?_) t
    ⟨law, held⟩
  · obtain ⟨lawful, within⟩ := both.1.grantHead queue fits
    exact ⟨lawful, .inr within⟩
  · refine ⟨both.1.safetyRecall n, both.2.imp (fun exceeds => exceeds) fun within => ?_⟩
    rw [safetyRecall_pool]
    exact Nat.le_trans (safetyRecall_held_le u n) within

theorem tableLaw_settle (me : Nat) (statement round : Bool) {t : ShareTable} (law : BookLaw t)
    (held : t.held ≤ t.pool ∨ statement = true ∨ t.overdrawn = true) : TableLaw (t.settle me statement round).table := by
  have flagged := heldLaw_evaluateOverdrawn statement t held
  have lawful := law.evaluateOverdrawn statement
  obtain ⟨served, servedHeld⟩ :
      BookLaw (if round then (t.evaluateOverdrawn statement).serviceRound else t.evaluateOverdrawn statement) ∧
        HeldLaw (if round then (t.evaluateOverdrawn statement).serviceRound else t.evaluateOverdrawn statement) := by
    split
    · exact serviceRound_lawful lawful flagged
    · exact ⟨lawful, flagged⟩
  rw [(tableSettle_frame me statement round t).1, tableLaw_iff]
  exact ⟨served.evaluateOverdrawn false,
    heldLaw_evaluateOverdrawn false _ (servedHeld.symm.imp id .inr), flagLaw_evaluateOverdrawn false _⟩

theorem tableLaw_nothing {t : ShareTable} (law : TableLaw t) : TableLaw (Taken.nothing t).table := by
  rw [nothing_of_flagLaw (tableLaw_iff.mp law).2.2]
  exact law

/-! ## Rows cleared, marked, stated and returned to -/

theorem held_updateRow_le {f : Row → Row} (lowers : ∀ r, (f r).held ≤ r.held) (station : Nat) (rows : List Row) :
    ((updateRow station f rows).map Row.held).sum ≤ (rows.map Row.held).sum := by
  unfold updateRow
  rw [List.map_map]
  refine sum_map_le fun r _ => ?_
  simp only [Function.comp]
  split
  · exact lowers r
  · exact Nat.le_refl _

/-- The held law before carries over to what lowers the held part and keeps pool and flag. -/
theorem held_of_lowered {t u : ShareTable} (law : HeldLaw t) (lower : u.held ≤ t.held) (pool : u.pool = t.pool)
    (flag : u.overdrawn = t.overdrawn) (statement : Bool) : u.held ≤ u.pool ∨ statement = true ∨ u.overdrawn = true := by
  obtain exceeds | within := law
  · exact .inr (.inr (flag.trans exceeds))
  · exact .inl (by omega)

/-- What a row keeps that is cleared, marked or stated. -/
def Row.place (r : Row) : Nat × Nat × Nat := (r.station, r.weight, r.dedicated)

theorem pool_update {t : ShareTable} {f : Row → Row} (keeps : ∀ r, (f r).place = r.place) (station : Nat)
    (queue : List Entry) : ({ t.update station f with queue } : ShareTable).pool = t.pool := by
  unfold ShareTable.pool ShareTable.reserved
  have same : (updateRow station f t.rows).map (·.dedicated) = t.rows.map (·.dedicated) :=
    updateRow_map (·.dedicated) f (fun r => congrArg (·.2.2) (keeps r)) station t.rows
  simp only [update_frame, same]

/-- A row changed with its place kept, where no other station's entry goes with it. -/
theorem BookLaw.update {t : ShareTable} (law : BookLaw t) (station : Nat) {f : Row → Row}
    (keeps : ∀ r, (f r).place = r.place) (ok : ∀ r ∈ t.rows, r.station = station → RowOk (f r)) :
    BookLaw { t.update station f with queue := dropEntry station t.queue } where
  stations := by
    have same : (updateRow station f t.rows).map (·.station) = t.rows.map (·.station) :=
      updateRow_map (·.station) f (fun r => congrArg (·.1) (keeps r)) station t.rows
    show ((updateRow station f t.rows).map (·.station)).Nodup
    rw [same]; exact law.stations
  rows := by
    intro r mem
    obtain ⟨r₀, mem₀, rfl⟩ := mem_updateRow mem
    split
    · exact ok r₀ mem₀ ‹_›
    · exact law.rows r₀ mem₀
  claimants := (law.of_sublist (dropEntry_sublist station t.queue)).claimants
  entries := by
    intro e mem
    obtain ⟨inQueue, other⟩ := mem_dropEntry.mp mem
    obtain ⟨least, most, standing, present⟩ := law.entries e inQueue
    refine ⟨least, most, standing, ?_⟩
    have row : (t.update station f).row? e.station = t.row? e.station := by
      rw [row?_update t station e.station f fun r => congrArg (·.1) (keeps r)]
      cases found : t.row? e.station with
      | none => rfl
      | some r => exact congrArg some (if_neg (by rw [row?_station found]; exact other))
    show ((t.update station f).rowOf e.station).state = .present
    rw [ShareTable.rowOf, row]
    exact present
  rowOrder := by
    let rel : Nat × Nat × Nat → Nat × Nat × Nat → Prop := fun p q =>
      (decide (p.2.1 < q.2.1) || (p.2.1 == q.2.1 && decide (q.1 < p.1))) = true
    have order : (t.rows.map Row.place).Pairwise rel := List.pairwise_map.mpr law.rowOrder
    rw [← updateRow_map Row.place f keeps station t.rows] at order
    exact List.pairwise_map.mp order
  queueOrder := (law.of_sublist (dropEntry_sublist station t.queue)).queueOrder
  widths := by
    have same : (updateRow station f t.rows).map (·.dedicated) = t.rows.map (·.dedicated) :=
      updateRow_map (·.dedicated) f (fun r => congrArg (·.2.2) (keeps r)) station t.rows
    refine ⟨?_, law.widths.2⟩
    show ((updateRow station f t.rows).map (·.dedicated)).sum ≤ 248
    rw [same]; exact law.widths.1

theorem cleared_ok (state : RowState) (r : Row) : RowOk (r.cleared state) :=
  ⟨⟨Nat.le_refl 0, Nat.le_refl 0⟩, Nat.zero_le _, fun _ => ⟨rfl, rfl, rfl⟩⟩

theorem tableLaw_clearRow (me station : Nat) (state : RowState) (round : Bool) {t : ShareTable} (law : TableLaw t) :
    TableLaw ((t.clearRow station state).settle me false round).table := by
  obtain ⟨book, held, _⟩ := tableLaw_iff.mp law
  refine tableLaw_settle me false round (book.update station (fun _ => rfl) fun r _ _ => cleared_ok state r)
    (held_of_lowered held ?_ (pool_update (f := (·.cleared state)) (fun _ => rfl) station _) rfl false)
  exact held_updateRow_le (fun _ => Nat.zero_le _) station t.rows

theorem marked_ok {r : Row} (ok : RowOk r) : RowOk { r with state := .mismatched } :=
  ⟨ok.1, ok.2.1, nofun⟩

theorem tableLaw_marked (me station : Nat) (round : Bool) {t : ShareTable} (law : TableLaw t) :
    TableLaw (({ t.update station (fun r => { r with state := .mismatched }) with
      queue := dropEntry station t.queue } : ShareTable).settle me false round).table := by
  obtain ⟨book, held, _⟩ := tableLaw_iff.mp law
  refine tableLaw_settle me false round (book.update station (fun _ => rfl) fun r mem _ => marked_ok (book.rows r mem))
    (held_of_lowered held ?_ (pool_update (f := fun r => { r with state := .mismatched }) (fun _ => rfl) station _) rfl false)
  exact held_updateRow_le (f := fun r => { r with state := .mismatched }) (fun _ => Nat.le_refl _) station t.rows

theorem statedEntry_ok {station : Nat} {p : StatusPayload} {e : Entry} (stated : statedEntry station p = some e)
    (waiting : p.waiting.toNat ≤ 63) : e.station = station ∧ 1 ≤ e.units ∧ e.units ≤ 63 ∧ e.standing ≤ 255 := by
  unfold statedEntry at stated
  split at stated
  · cases stated
  · rename_i some
    obtain ⟨rank, _, rfl⟩ := Option.map_eq_some_iff.mp stated
    have positive : p.waiting.toNat ≠ 0 := fun zero => some (BitVec.eq_of_toNat_eq (by simpa using zero))
    have byte := p.standing.isLt
    exact ⟨rfl, by dsimp only; omega, waiting, by dsimp only; omega⟩

theorem stated_ok {r : Row} {p : StatusPayload} (range : statementInRange r p = true) (x : Row) : RowOk (x.stated p) := by
  obtain ⟨safety, owed, _⟩ := statementInRange_bounds range
  have byte := p.borrowed.isLt
  exact ⟨⟨owed, safety⟩, by show p.borrowed.toNat ≤ 255; omega, nofun⟩

/-- R24, R25: a statement that is used leaves a lawful table; the flag is set where it overdraws. -/
theorem tableLaw_applyStatement (me station : Nat) (round : Bool) {t : ShareTable} (law : TableLaw t) {r : Row}
    {p : StatusPayload} (found : t.row? station = some r) (range : statementInRange r p = true) :
    TableLaw ((t.applyStatement station p).settle me true round).table := by
  obtain ⟨book, _, _⟩ := tableLaw_iff.mp law
  have updated := book.update station (f := Row.stated p) (fun _ => rfl) fun x _ _ => stated_ok range x
  refine tableLaw_settle me true round ?_ (.inr (.inl rfl))
  obtain ⟨_, _, waiting⟩ := statementInRange_bounds range
  unfold ShareTable.applyStatement
  split
  · exact updated
  · rename_i e stated
    obtain ⟨rfl, least, most, standing⟩ := statedEntry_ok stated waiting
    have row : (t.update e.station (Row.stated p)).row? e.station = some (r.stated p) := by
      rw [row?_update t e.station e.station (Row.stated p) fun _ => rfl, found]
      exact congrArg some (if_pos (row?_station found))
    have ok : EntryOk { t.update e.station (Row.stated p) with queue := dropEntry e.station t.queue } e := by
      refine ⟨least, most, standing, ?_⟩
      show ((t.update e.station (Row.stated p)).rowOf e.station).state = .present
      rw [ShareTable.rowOf, row]
      rfl
    have filed := updated.setEntry ok
    have once : dropEntry e.station (dropEntry e.station t.queue) = dropEntry e.station t.queue := by
      simp [dropEntry, List.filter_filter]
    unfold Machine.setEntry at filed ⊢
    rw [once] at filed
    exact filed

theorem returned_ok (n s : Nat) {r : Row} (ok : RowOk r) : RowOk (r.returned n s) := by
  obtain ⟨units, byte, absent⟩ := ok
  refine ⟨returned_law n s units, ?_, fun gone => ?_⟩
  · simp only [Row.returned]; omega
  · obtain ⟨borrowed, safety, owed⟩ := absent gone
    simp only [Row.returned]
    omega

theorem returned_held (n s : Nat) {r : Row} (owed : r.owed ≤ r.borrowed) : (r.returned n s).held ≤ r.held := by
  simp only [Row.returned, Row.held]
  omega

theorem tableLaw_returned (me station n s : Nat) {t : ShareTable} (law : TableLaw t) :
    TableLaw ((t.update station (Row.returned n s)).settle me false true).table := by
  obtain ⟨book, held, _⟩ := tableLaw_iff.mp law
  have plates : (t.update station (Row.returned n s)).rows.map Row.plate = t.rows.map Row.plate :=
    updateRow_plates (f := Row.returned n s) (fun _ => rfl) station t.rows
  refine tableLaw_settle me false true (book.of_plates plates (fun r mem => ?_) rfl book.widths.2.1 book.widths.2.2)
    (held_of_lowered held ?_ (pool_update (f := Row.returned n s) (fun _ => rfl) station t.queue) rfl false)
  · obtain ⟨r₀, mem₀, rfl⟩ := mem_updateRow mem
    split
    · exact returned_ok n s (book.rows r₀ mem₀)
    · exact book.rows r₀ mem₀
  · show ((updateRow station (Row.returned n s) t.rows).map Row.held).sum ≤ (t.rows.map Row.held).sum
    unfold updateRow
    rw [List.map_map]
    refine sum_map_le fun r mem => ?_
    simp only [Function.comp]
    split
    · exact returned_held n s (book.rows r mem).1.1
    · exact Nat.le_refl _

theorem tableLaw_dropEntry (me station : Nat) {t : ShareTable} (law : TableLaw t) :
    TableLaw (({ t with queue := dropEntry station t.queue } : ShareTable).settle me false true).table := by
  obtain ⟨book, held, _⟩ := tableLaw_iff.mp law
  exact tableLaw_settle me false true (book.of_sublist (dropEntry_sublist station t.queue))
    (held_of_lowered held (Nat.le_refl _) rfl rfl false)

/-! ## Every bulletin -/

theorem tableLaw_allowance (me : Nat) (units leaseTime fallback tag : Byte) {t : ShareTable} (law : TableLaw t) :
    TableLaw (takeAllowance me units leaseTime fallback tag t).table := by
  obtain ⟨book, _, _⟩ := tableLaw_iff.mp law
  unfold takeAllowance
  split
  · have stored : BookLaw (t.storeLease units fallback tag) :=
      book.of_plates rfl book.rows rfl (Nat.le_of_lt_succ units.isLt) (Nat.le_of_lt_succ fallback.isLt)
    refine tableLaw_settle me false true stored.recallExcess (.inl ?_)
    rw [recallExcess_held stored.rowsLaw, recallExcess_pool]
    exact Nat.min_le_right _ _
  · exact tableLaw_nothing law

theorem tableLaw_lapse (me : Nat) (tag : Byte) {t : ShareTable} (law : TableLaw t) : TableLaw (takeLapse me tag t).table := by
  obtain ⟨book, _, _⟩ := tableLaw_iff.mp law
  unfold takeLapse
  split
  · have ended : BookLaw { t with leaseState := .lapsed } :=
      book.of_plates rfl book.rows rfl book.widths.2.1 book.widths.2.2
    have recalled := ended.recallExcess
    refine tableLaw_settle me false false (recalled.of_sublist (List.nil_sublist _)) (.inl ?_)
    have held := recallExcess_held ended.rowsLaw
    have pool := recallExcess_pool { t with leaseState := .lapsed }
    have within := Nat.le_trans (Nat.le_of_eq held) (Nat.min_le_right _ _)
    rw [← pool] at within
    exact within
  · exact tableLaw_nothing law

theorem claimRank_eq_some {r : Row} {units rank : Byte} {k : Rank} (given : claimRank r units rank = some k) :
    r.state = .present ∧ units.toNat ≤ 63 := by
  unfold claimRank at given
  split at given
  · cases given
  · rename_i fine
    obtain ⟨present, within⟩ := not_or.mp fine
    exact ⟨Classical.not_not.mp present, Nat.not_lt.mp within⟩

theorem tableLaw_claim (me station : Nat) (units rank : Byte) {t : ShareTable} (law : TableLaw t) :
    TableLaw (takeClaim me station units rank t).table := by
  obtain ⟨book, held, _⟩ := tableLaw_iff.mp law
  unfold takeClaim
  split
  · exact tableLaw_nothing law
  · rename_i r found
    split
    · split
      · exact tableLaw_dropEntry me station law
      · exact tableLaw_nothing law
    · rename_i some
      split
      · exact tableLaw_nothing law
      · rename_i k given
        obtain ⟨present, most⟩ := claimRank_eq_some given
        have least : 1 ≤ units.toNat := by
          have : units.toNat ≠ 0 := fun zero => some (BitVec.eq_of_toNat_eq (by simpa using zero))
          omega
        have state : (t.rowOf station).state = .present := by rw [ShareTable.rowOf, found]; exact present
        split
        · rename_i atOnce
          simp only [ShareTable.grantsAtOnce, Bool.and_eq_true, decide_eq_true_eq] at atOnce
          obtain ⟨lawful, within⟩ := book.granted k (present_of_rowOf book.stations state) least atOnce.2
          exact tableLaw_settle me false false lawful (.inl within)
        · have standing : t.keptStanding station ≤ 255 := by
            unfold ShareTable.keptStanding
            split
            · exact Nat.zero_le _
            · rename_i e entry
              exact (book.entries e (List.mem_of_find?_eq_some entry)).2.2.1
          exact tableLaw_settle me false true (book.setEntry ⟨least, most, standing, state⟩)
            (held_of_lowered held (Nat.le_refl _) rfl rfl false)

theorem tableLaw_status (me station : Nat) (own : Byte) (learning : Bool) (p : StatusPayload) {t : ShareTable}
    (law : TableLaw t) : TableLaw (takeStatus me station own learning p t).table := by
  unfold takeStatus
  split
  · exact tableLaw_nothing law
  · rename_i r found
    split
    · exact tableLaw_marked me station _ law
    · split
      · rename_i range
        (repeat' split)
        · exact tableLaw_applyStatement me station true law found range
        · exact tableLaw_applyStatement me station true law found range
        · exact tableLaw_nothing law
        · exact tableLaw_nothing law
      · exact tableLaw_nothing law

theorem tableLaw_takenBy (me sender : Nat) (own : Byte) (learning : Bool) {t : ShareTable} (law : TableLaw t)
    (b : Bulletin) : TableLaw (takenBy me sender own learning t b).table := by
  cases b with
  | allowance => exact tableLaw_allowance me _ _ _ _ law
  | lapse => exact tableLaw_lapse me _ law
  | expel station =>
    simp only [takenBy, takeExpel]
    (repeat' split)
    · exact tableLaw_nothing law
    · exact tableLaw_nothing law
    · exact tableLaw_clearRow me _ _ _ law
  | join tag =>
    simp only [takenBy, takeJoin]
    split <;> exact tableLaw_clearRow me _ _ _ law
  | status => exact tableLaw_status me _ _ _ _ law
  | claim => exact tableLaw_claim me _ _ _ law
  | ret units safetyUnits =>
    simp only [takenBy, takeReturn]
    (repeat' split)
    · exact tableLaw_nothing law
    · exact tableLaw_nothing law
    · exact tableLaw_returned me _ _ _ law
  | draft | override | cancel | snapshot | query | report | unknown => exact law

theorem tableLaw_tableAfter (me sender : Nat) (own : Byte) (learning : Bool) {t : ShareTable} (law : TableLaw t)
    (b : Bulletin) : TableLaw (tableAfter me sender own learning t b) := by
  have taken := tableLaw_takenBy me sender own learning law b
  unfold tableAfter dropOwnEntry
  (repeat' split)
  · exact tableLaw_dropEntry me _ taken
  · exact tableLaw_nothing taken
  · exact taken

theorem tableLaw_catchUpLapse {t : ShareTable} (law : TableLaw t) : TableLaw t.catchUpLapse := by
  obtain ⟨book, held, flag⟩ := tableLaw_iff.mp law
  rw [tableLaw_iff]
  refine ⟨?_, ?_, flagLaw_catchUpLapse flag⟩
  · refine book.of_plates (by simp) (by simpa using book.rows) ?_ ?_ ?_ <;> unfold ShareTable.catchUpLapse <;> split
    · rfl
    · rfl
    · rfl
    · exact book.widths.2.1
    · exact book.widths.2.1
    · exact book.widths.2.1
    · exact Nat.le_trans book.widths.1 (by decide)
    · exact book.widths.2.2
    · exact book.widths.2.2
  · have same : t.catchUpLapse.held = t.held := by rw [ShareTable.held, catchUpLapse_rows]; rfl
    rw [HeldLaw, same, catchUpLapse_pool, catchUpLapse_overdrawn]
    exact held

/-- R1, R2, R192: the table that the roster of a checked vehicle table gives. -/
theorem tableLaw_ofRoster {strap : Nat} {roster : List RosterEntry} (valid : rosterValid strap roster = true) :
    TableLaw (ShareTable.ofRoster roster) := by
  obtain ⟨stations, _, _, dedicated, _⟩ := rosterValid_iff.mp valid
  have perm : (ShareTable.ofRoster roster).rows.Perm (roster.map rowOfEntry) := recallOrder_perm _
  have fresh : ∀ r ∈ (ShareTable.ofRoster roster).rows, r.borrowed = 0 ∧ r.safety = 0 ∧ r.owed = 0 := by
    intro r mem
    obtain ⟨e, _, rfl⟩ := mem_ofRoster mem
    exact ⟨rfl, rfl, rfl⟩
  have none : (ShareTable.ofRoster roster).held = 0 := by
    refine List.sum_eq_zero_iff_forall_eq_nat.mpr fun x mem => ?_
    obtain ⟨r, inRows, rfl⟩ := List.mem_map.mp mem
    simp [Row.held, (fresh r inRows).1]
  rw [tableLaw_iff]
  refine ⟨⟨?_, fun r mem => ?_, List.nodup_nil, nofun, ?_, .nil, ?_, Nat.zero_le _, Nat.zero_le _⟩, .inr (by omega), nofun⟩
  · rw [(perm.map _).nodup_iff, rowOfEntry_stations]; exact stations
  · obtain ⟨borrowed, safety, owed⟩ := fresh r mem
    exact ⟨⟨by omega, by omega⟩, by omega, fun _ => ⟨borrowed, safety, owed⟩⟩
  · exact recallOrder_pairwise _ (by rw [rowOfEntry_stations]; exact stations)
  · have sum : (ShareTable.ofRoster roster).reserved = (roster.map (·.dedicated)).sum := by
      rw [ShareTable.reserved, (perm.map _).sum_nat, List.map_map]; rfl
    omega

theorem after_keepsTableLaw (c : Instr) {s : State} (law : TableLaw s.table) : TableLaw (s.after c).table := by
  have moves := after_tableMoves c s
  generalize (s.after c).table = t at moves
  cases moves with
  | stands => exact law
  | lapsed => exact tableLaw_catchUpLapse law
  | taken sender b => exact tableLaw_tableAfter _ _ _ _ law b
  | loaded found => exact tableLaw_ofRoster (tableFrom_eq_some found).2.2.2
  | emptied => exact tableLaw_empty

/-- Settles O52: every command and every millisecond keeps the table lawful. -/
theorem tableLawKept : Obligations.TableLawKept := fun _ _ law stepped =>
  step_keeps (P := fun s => TableLaw s.table) (fun _ _ h => h) (fun c _ h => after_keepsTableLaw c h) (fun _ h => h)
    stepped law

end Sys2Proof.Machine
end

section
/-! Stations in step with one table move it alike (R20), and what every command leaves of the counters and of the latched
picture (R185, R188). -/

namespace Sys2Proof.Machine

/-! ## Replicas (R20) -/

/-- Which station takes a bulletin decides the flags of the taking, never its table. -/
theorem takenBy_station (me me' sender : Nat) (own : Byte) (learning : Bool) (t : ShareTable) (b : Bulletin) :
    (takenBy me sender own learning t b).table = (takenBy me' sender own learning t b).table := by
  cases b with
  | allowance => simp only [takenBy, takeAllowance]; split <;> simp
  | lapse => simp only [takenBy, takeLapse]; split <;> simp
  | expel => simp only [takenBy, takeExpel]; (repeat' split) <;> simp
  | join => simp only [takenBy, takeJoin]; split <;> simp
  | status => simp only [takenBy, takeStatus]; (repeat' split) <;> simp
  | claim => simp only [takenBy, takeClaim]; (repeat' split) <;> simp
  | ret => simp only [takenBy, takeReturn]; (repeat' split) <;> simp
  | draft | override | cancel | snapshot | query | report | unknown => rfl

/-- A taking finds a mismatch only in a JOIN or STATUS of another table tag (R152). -/
theorem takenBy_mismatch_of_tag (me sender : Nat) {own : Byte} (learning : Bool) (t : ShareTable) {b : Bulletin}
    (join : ∀ tag, b = .join tag → tag = own) (status : ∀ p, b = .status p → p.tag = own) :
    (takenBy me sender own learning t b).mismatch = false := by
  cases b with
  | allowance => exact takeAllowance_mismatch ..
  | lapse => exact takeLapse_mismatch ..
  | expel => exact takeExpel_mismatch ..
  | claim => exact takeClaim_mismatch ..
  | ret => exact takeReturn_mismatch ..
  | join tag => rw [join tag rfl]; simp [takenBy, takeJoin]
  | status p =>
    simp only [takenBy, takeStatus, status p rfl, ne_eq, not_true, if_false]
    (repeat' split) <;> rfl
  | draft | override | cancel | snapshot | query | report | unknown => rfl

theorem tableAfter_of_tag (me sender : Nat) {own : Byte} (learning : Bool) (t : ShareTable) {b : Bulletin}
    (join : ∀ tag, b = .join tag → tag = own) (status : ∀ p, b = .status p → p.tag = own) :
    tableAfter me sender own learning t b = (takenBy me sender own learning t b).table := by
  simp [tableAfter, takenBy_mismatch_of_tag me sender learning t join status]

@[simp] theorem filteredFrame_table (own : Option OwnFrame) (address : Nat) (s : State) :
    (filteredFrame own address s).table = s.table := by
  unfold filteredFrame; dsimp only; split <;> simp

theorem passes_of_vt {s s' : State} (vt : s.loader.vt = s'.loader.vt) (address : Nat) (b : Bulletin) :
    s.passes address b = s'.passes address b := by
  cases b <;> simp [State.passes, State.onRoster, vt]

theorem running_of_inStep {s : State} (inStep : s.member.state = .inStep) : s.running = true := by
  simp [State.running, inStep]

/-- The table after a frame that a station in step takes, its own table tag in it. -/
theorem completeFrame_table_of_inStep {s : State} (codes : Sensors) {address : BitVec 4} {b : Bulletin}
    (inStep : s.member.state = .inStep) (hears : s.hears address b) (join : ∀ tag, b = .join tag → tag = s.tag)
    (status : ∀ p, b = .status p → p.tag = s.tag) :
    (completeFrame codes address b s).table =
      if s.passes address.toNat b then (takenBy s.me address.toNat s.tag false s.table b).table else s.table := by
  have running := running_of_inStep inStep
  have learning : s.learning = false := by simp [State.learning, inStep]
  have taken : takenBulletin ((s.heardFrame codes).ownFrame address.toNat b) b = b :=
    takenBulletin_of_hears address b (s.heardFrame codes) hears
  cases passes : s.passes address.toNat b with
  | true =>
    rw [completeFrame_of_passes codes address b s running passes]
    simp only [finish_frame, course_table, taken, if_true]
    rw [← learning]
    exact tableAfter_of_tag _ _ _ _ join status
  | false =>
    rw [completeFrame_of_filtered codes address b s running passes]
    simp

/-- Settles O59: the table after a frame is the taking's, which asks for the table, the tag and the roster only. -/
theorem replicasMoveTogether : Obligations.ReplicasMoveTogether := by
  unfold Obligations.ReplicasMoveTogether
  intro c codes address b s s' t t' frame inStep inStep' vt table hears hears' join status ran ran'
  have tag : s'.tag = s.tag := by simp [State.tag, vt]
  rw [exec_of_frameOf frame] at ran ran'
  cases ran; cases ran'
  rw [completeFrame_table_of_inStep codes inStep hears join status,
    completeFrame_table_of_inStep codes inStep' hears' (by rwa [tag]) (by rwa [tag]), tag, table, passes_of_vt vt,
    takenBy_station s.me s'.me]

/-! ## Counters and the latched picture -/

theorem le_bumped {w : Nat} (amount : Nat) (c : BitVec w) : c ≤ bumped true amount c := by
  unfold bumped
  have bound := c.isLt
  split
  · rw [BitVec.le_def, BitVec.toNat_allOnes]; omega
  · rename_i room
    simp only [Bool.true_and, decide_eq_true_eq] at room
    rw [BitVec.le_def, BitVec.toNat_ofNat, Nat.mod_eq_of_lt (by omega)]; omega

/-- No counter of `b` is below its value in `a`. -/
def Counters.notAbove (a b : Counters) : Prop :=
  a.energy ≤ b.energy ∧ a.waitSeconds ≤ b.waitSeconds ∧ a.recalls ≤ b.recalls ∧ a.linkFails ≤ b.linkFails ∧
    a.repairs ≤ b.repairs ∧ a.door0Opens ≤ b.door0Opens ∧ a.door0Seconds ≤ b.door0Seconds ∧
    a.door1Opens ≤ b.door1Opens ∧ a.door1Seconds ≤ b.door1Seconds

theorem Counters.notAbove_refl (a : Counters) : a.notAbove a := by simp [Counters.notAbove]

theorem Counters.notAbove.trans {a b c : Counters} (first : a.notAbove b) (last : b.notAbove c) : a.notAbove c := by
  simp only [Counters.notAbove, BitVec.le_def] at *
  omega

theorem Counters.notAbove_raised (c : Counter) (amount : Nat) (v : Counters) : v.notAbove (v.raised true c amount) := by
  cases c <;> simp [Counters.notAbove, Counters.raised, le_bumped]

/-- The latched picture stands and, where counters freeze, none falls. -/
def StatsStand (freeze : Bool) (a b : Stats) : Prop :=
  (∀ p, a.snapshot = some p → b.snapshot = some p) ∧ (freeze = true → a.counters.notAbove b.counters)

theorem StatsStand.refl (freeze : Bool) (a : Stats) : StatsStand freeze a a :=
  ⟨fun _ h => h, fun _ => Counters.notAbove_refl _⟩

theorem StatsStand.of_eq {freeze : Bool} {a b : Stats} (counters : b.counters = a.counters)
    (snapshot : b.snapshot = a.snapshot) : StatsStand freeze a b :=
  ⟨fun _ h => snapshot.trans h, fun _ => counters ▸ Counters.notAbove_refl _⟩

theorem StatsStand.trans {freeze : Bool} {a b c : Stats} (first : StatsStand freeze a b) (last : StatsStand freeze b c) :
    StatsStand freeze a c :=
  ⟨fun p h => last.1 p (first.1 p h), fun h => (first.2 h).trans (last.2 h)⟩

theorem statsStand_count (c : Counter) (amount : Nat) (s : State) :
    StatsStand s.loader.vt.counterFreeze s.stats (count c amount s).stats := by
  refine ⟨fun p h => h, fun freeze => ?_⟩
  show s.stats.counters.notAbove (s.stats.counters.raised s.loader.vt.counterFreeze c amount)
  rw [freeze]; exact Counters.notAbove_raised c amount _

theorem statsStand_countIf (happened : Bool) (c : Counter) (s : State) :
    StatsStand s.loader.vt.counterFreeze s.stats (countIf happened c s).stats := by
  unfold countIf
  split
  · exact statsStand_count c 1 s
  · exact .refl _ _

/-- A part of an event that keeps the loader and under which picture and frozen counters stand. -/
def KeepsStats (f : State → State) : Prop :=
  ∀ s, (f s).loader = s.loader ∧ StatsStand s.loader.vt.counterFreeze s.stats (f s).stats

theorem KeepsStats.of_eq {f : State → State}
    (h : ∀ s, (f s).loader = s.loader ∧ (f s).stats.counters = s.stats.counters ∧
      (f s).stats.snapshot = s.stats.snapshot) : KeepsStats f := fun s =>
  ⟨(h s).1, .of_eq (h s).2.1 (h s).2.2⟩

theorem KeepsStats.comp {f g : State → State} (last : KeepsStats f) (first : KeepsStats g) :
    KeepsStats (fun s => f (g s)) := fun s =>
  ⟨(last _).1.trans (first s).1, (first s).2.trans ((first s).1 ▸ (last (g s)).2)⟩

theorem KeepsStats.whenRunning {f : State → State} (h : KeepsStats f) : KeepsStats (whenRunning f) := by
  intro s
  unfold Machine.whenRunning
  split
  · exact h s
  · exact ⟨rfl, .refl _ _⟩

theorem KeepsStats.stand {f : State → State} (h : KeepsStats f) {s u : State} (loader : u.loader = s.loader)
    (stats : u.stats = s.stats) : StatsStand s.loader.vt.counterFreeze s.stats (f u).stats := by
  rw [← loader, ← stats]; exact (h u).2

theorem count_keepsStats (c : Counter) (amount : Nat) : KeepsStats (count c amount) := fun s =>
  ⟨rfl, statsStand_count c amount s⟩

theorem countIf_keepsStats (happened : Bool) (c : Counter) : KeepsStats (countIf happened c) := fun s =>
  ⟨by simp, statsStand_countIf happened c s⟩

theorem countSecond_keepsStats : KeepsStats countSecond := fun s =>
  (countIf_keepsStats _ _).comp ((countIf_keepsStats _ _).comp ((countIf_keepsStats _ _).comp
    (count_keepsStats .energy s.stationLoad))) s

theorem secondEnds_keepsStats : KeepsStats secondEnds := by
  intro s
  unfold secondEnds
  split
  · exact ⟨rfl, .refl _ _⟩
  · have counted := countSecond_keepsStats { s with stats := { s.stats with second := some statisticsPeriod } }
    simp only [noteStatus_frame]
    exact counted

theorem doorTakesLevel_keepsStats (door : Fin 2) (level : DoorLevel) : KeepsStats (doorTakesLevel door level) := by
  intro s
  unfold doorTakesLevel
  dsimp only
  split
  · exact ⟨by simp, .of_eq (by simp) (by simp)⟩
  · exact ⟨by simp, .of_eq (by simp) (by simp)⟩
  · simp only [openingEdge_frame, count_frame, setDoor_frame, true_and]
    exact (count_keepsStats _ 1).stand (by simp) (by simp)
  · exact ⟨by simp, .of_eq (by simp) (by simp)⟩
  · exact ⟨by simp, .of_eq (by simp) (by simp)⟩
  · exact ⟨by simp, .of_eq (by simp) (by simp)⟩
  · exact ⟨by simp, .of_eq (by simp) (by simp)⟩
  · exact ⟨by simp, .of_eq (by simp) (by simp)⟩

theorem ownFrameFails_keepsStats (drive : Drive) : KeepsStats (ownFrameFails drive) := by
  intro s
  refine ⟨by simp, ?_⟩
  unfold ownFrameFails
  dsimp only
  simp only [checkExpulsion_frame, noteStatus_frame]
  have ended : StatsStand s.loader.vt.counterFreeze s.stats (countFailure (ownFrameEnds s)).stats := .of_eq (by simp [ownFrameEnds]) (by simp [ownFrameEnds])
  have counted := statsStand_count .linkFails 1 (countFailure (ownFrameEnds s))
  rw [show (countFailure (ownFrameEnds s)).loader = s.loader by simp] at counted
  exact ended.trans counted

theorem frameLost_keepsStats : KeepsStats frameLost := .of_eq fun s => by
  unfold frameLost; split <;> simp [ownFrameEnds]

theorem ownFrameReadBack_keepsStats (heard : List Bool) : KeepsStats (ownFrameReadBack heard) := by
  intro s
  unfold ownFrameReadBack
  split
  · exact ownFrameFails_keepsStats _ s
  · exact ownFrameFails_keepsStats _ s
  · exact frameLost_keepsStats s
  · exact ⟨rfl, .refl _ _⟩
  · exact ⟨rfl, .refl _ _⟩
  · exact ⟨rfl, .refl _ _⟩

theorem startOffered_keepsStats : KeepsStats startOffered := .of_eq fun s => by
  unfold startOffered; (repeat' split) <;> simp [startFrame]

/-! ### A completed frame -/

theorem tableTaken_keepsStats (t : Taken) : KeepsStats (fun s => (tableTaken t s).state) := fun s =>
  ((countIf_keepsStats t.recalled .recalls).comp ((countIf_keepsStats t.repaired .repairs).comp
    (.of_eq (f := fun s => { s with table := t.table }) fun _ => ⟨rfl, rfl, rfl⟩))) s

theorem reportCompleted_of_none {s : State} (none : s.stats.inFlight = none) : reportCompleted s = s := by
  simp [reportCompleted, none]

/-- A snapshot's third part, transmitted, releases the picture (R188). -/
def ReportInFlight.releases (f : ReportInFlight) : Prop := f.request.item = .snapshot ∧ f.part = 3

/-- A transmitted statistics page whose request asks for clearing lowers counters (R185). -/
def ReportInFlight.clears (f : ReportInFlight) : Prop :=
  f.request.clear = true ∧ (f.request.item = .page0 ∨ f.request.item = .page1)

theorem reportCompleted_stats {s : State} {f : ReportInFlight} (flying : s.stats.inFlight = some f) :
    (reportCompleted s).stats.counters = ((s.stats.clearedBy f).partDone f).counters ∧
      (reportCompleted s).stats.snapshot = ((s.stats.clearedBy f).partDone f).snapshot := by
  unfold reportCompleted
  simp only [flying]
  (repeat' split) <;> simp

theorem reportCompleted_stats_congr {s t : State} (same : t.stats = s.stats) :
    (reportCompleted t).stats.counters = (reportCompleted s).stats.counters ∧
      (reportCompleted t).stats.snapshot = (reportCompleted s).stats.snapshot := by
  cases flying : s.stats.inFlight with
  | none =>
    rw [reportCompleted_of_none flying, reportCompleted_of_none (same ▸ flying), same]; exact ⟨rfl, rfl⟩
  | some f =>
    obtain ⟨counters, snapshot⟩ := reportCompleted_stats flying
    obtain ⟨counters', snapshot'⟩ := reportCompleted_stats (s := t) (same ▸ flying)
    rw [counters, snapshot, counters', snapshot', same]; exact ⟨rfl, rfl⟩

theorem clearedBy_snapshot (f : ReportInFlight) (st : Stats) : (st.clearedBy f).snapshot = st.snapshot := by
  unfold Stats.clearedBy; (repeat' split) <;> rfl

theorem clearedBy_counters {f : ReportInFlight} (keeps : ¬f.clears) (st : Stats) :
    (st.clearedBy f).counters = st.counters := by
  unfold Stats.clearedBy
  split
  · rename_i clear
    split
    · rename_i page; exact absurd ⟨clear, .inl page⟩ keeps
    · rename_i page; exact absurd ⟨clear, .inr page⟩ keeps
    · rfl
    · rfl
    · rfl
    · rfl
  · rfl

theorem partDone_counters (f : ReportInFlight) (st : Stats) : (st.partDone f).counters = st.counters := by
  unfold Stats.partDone; split <;> rfl

theorem partDone_snapshot (f : ReportInFlight) (st : Stats) :
    (f.releases → (st.partDone f).snapshot = none) ∧ (¬f.releases → (st.partDone f).snapshot = st.snapshot) := by
  unfold Stats.partDone ReportInFlight.releases; split <;> simp_all

theorem takeBulletin_keepsStats (own : Bool) (sender : Nat) {b : Bulletin}
    (kept : own = true → ∀ data, b ≠ .report data) : KeepsStats (fun s => (takeBulletin own sender b s).state) := by
  intro s
  refine ⟨by simp, ?_⟩
  cases b with
  | allowance units leaseTime fallback tag =>
    simp only [takeBulletin, takesAllowance]
    split
    · simp only [mapState_state, leaseRenewed_frame]; exact (tableTaken_keepsStats _ s).2
    · exact (tableTaken_keepsStats _ s).2
  | lapse tag =>
    simp only [takeBulletin, takesLapse]
    split
    · simp only [mapState_state, leaseEnded_frame]; exact (tableTaken_keepsStats _ s).2
    · exact (tableTaken_keepsStats _ s).2
  | expel station =>
    simp only [takeBulletin, takesExpel]
    split <;> simp only [mapState_state, forgetStated_frame, dropSpill_frame] <;> exact (tableTaken_keepsStats _ s).2
  | join tag =>
    simp only [takeBulletin, takesJoin]
    (repeat' split) <;> simp only [mapState_state, forgetStated_frame, queueKind_frame, dropSpill_frame] <;>
      exact (tableTaken_keepsStats _ s).2
  | status p =>
    simp only [takeBulletin, takesStatus]
    split <;> simp only [mapState_state, hear_frame, learnOutdoor_frame, dropMismatchedSpill_frame] <;>
      exact (tableTaken_keepsStats _ s).2
  | claim units rank =>
    simp only [takeBulletin, takesClaim]
    split <;> exact (tableTaken_keepsStats _ s).2
  | ret units safetyUnits =>
    simp only [takeBulletin, takesReturn]
    split
    · simp only [settleReturn_frame]; exact (tableTaken_keepsStats _ s).2
    · exact (tableTaken_keepsStats _ s).2
  | draft active => simp only [takeBulletin, takesDraft]; split <;> simp [StatsStand.refl]
  | override => simp [takeBulletin, slotCourse, StatsStand.refl]
  | cancel => simp [takeBulletin, slotCourse, StatsStand.refl]
  | snapshot =>
    simp only [takeBulletin, plain_state, takeSnapshot]
    split
    · exact .refl _ _
    · rename_i empty
      exact ⟨fun p latched => by simp [empty] at latched, fun _ => Counters.notAbove_refl _⟩
  | query => exact .of_eq (by simp [takeBulletin]) (by simp [takeBulletin])
  | report data =>
    cases own with
    | true => exact absurd rfl (kept rfl data)
    | false => exact .refl _ _
  | unknown => exact .refl _ _

theorem mismatchResponse_keepsStats (c : Course) :
    StatsStand c.state.loader.vt.counterFreeze c.state.stats (mismatchResponse c).state.stats := by
  have dropped : StatsStand c.state.loader.vt.counterFreeze c.state.stats (dropOwnClaim c).state.stats :=
    (countIf_keepsStats _ .recalls).stand rfl rfl
  unfold mismatchResponse
  split
  · rw [mapState_state]
    split
    · exact dropped.trans (.of_eq (by simp [enterMismatch, noteConfig]) (by simp [enterMismatch, noteConfig]))
    · exact dropped
  · exact .refl _ _

@[simp] theorem catchUpResponse_stats (before : MemberState) (s : State) :
    (catchUpResponse before s).stats.counters = s.stats.counters ∧
      (catchUpResponse before s).stats.snapshot = s.stats.snapshot := by
  unfold catchUpResponse; split <;> simp

/-- Behind the taking, a frame's course counts at most one recall more. -/
theorem course_stats (address : Nat) (b : Bulletin) (s : State) :
    StatsStand s.loader.vt.counterFreeze
      (takeBulletin (s.ownFrame address b).isSome address (takenBulletin (s.ownFrame address b) b)
        (hearPanel address (addressed (s.ownFrame address b) address s))).state.stats
      (course address b s).state.stats := by
  have response := mismatchResponse_keepsStats ((takeBulletin (s.ownFrame address b).isSome address
    (takenBulletin (s.ownFrame address b) b)
    (hearPanel address (addressed (s.ownFrame address b) address s))).mapState (expelSettled (s.ownFrame address b)))
  simp only [mapState_state, expelSettled_frame, takeBulletin_frame, hearPanel_frame, addressed_frame] at response
  exact response.trans (.of_eq (by simp [course, memberResponse]) (by simp [course, memberResponse]))

@[simp] theorem countIf_snapshot (happened : Bool) (c : Counter) (s : State) :
    (countIf happened c s).stats.snapshot = s.stats.snapshot := by
  unfold countIf; split <;> rfl

theorem mismatchResponse_snapshot (c : Course) : (mismatchResponse c).state.stats.snapshot = c.state.stats.snapshot := by
  unfold mismatchResponse
  split
  · rw [mapState_state]
    split <;> simp [dropOwnClaim, enterMismatch, noteConfig]
  · rfl

theorem course_snapshot (address : Nat) (b : Bulletin) (s : State) :
    (course address b s).state.stats.snapshot =
      (takeBulletin (s.ownFrame address b).isSome address (takenBulletin (s.ownFrame address b) b)
        (hearPanel address (addressed (s.ownFrame address b) address s))).state.stats.snapshot := by
  simp [course, memberResponse, mismatchResponse_snapshot]

/-- The bulletin taken is of the kind that was heard. -/
theorem takenBulletin_txKind (address : Nat) (b : Bulletin) (s : State) :
    (takenBulletin (s.ownFrame address b) b).txKind = b.txKind := by
  unfold State.ownFrame
  split
  · split
    · rename_i own
      have same := own.2
      simp only [Bulletin.sameKind, Bool.and_eq_true, beq_iff_eq] at same
      exact same.2
    · rfl
  · rfl

theorem report_of_txKind {b : Bulletin} (report : b.txKind = some .report) : ∃ data, b = .report data := by
  cases b <;> simp_all [Bulletin.txKind]

/-- The own report's completion, heard: the one command that lowers counters or releases the picture. -/
def State.reportCompletes (s : State) (address : Nat) (b : Bulletin) : Prop :=
  (∃ data, b = .report data) ∧ (s.ownFrame address b).isSome = true

theorem filteredFrame_stats (own : Option OwnFrame) (address : Nat) (s : State) :
    (filteredFrame own address s).stats.counters = s.stats.counters ∧
      (filteredFrame own address s).stats.snapshot = s.stats.snapshot := by
  unfold filteredFrame; dsimp only; split <;> simp

theorem completeFrame_of_not_running {s : State} (idle : s.running = false) (codes : Sensors) (address : BitVec 4)
    (b : Bulletin) : completeFrame codes address b s = s.heardFrame codes := by
  have begun : (frameHeard (begin codes s)).running = false := idle
  simp [completeFrame, begun]

theorem completeFrame_statsStand (codes : Sensors) {address : BitVec 4} {b : Bulletin} {s : State}
    (plain : ¬s.reportCompletes address.toNat b) :
    StatsStand s.loader.vt.counterFreeze s.stats (completeFrame codes address b s).stats := by
  cases running : s.running with
  | false => rw [completeFrame_of_not_running running]; exact .refl _ _
  | true =>
    cases passes : s.passes address.toNat b with
    | true =>
      rw [completeFrame_of_passes codes address b s running passes]
      simp only [finish_frame]
      have kept : ((s.heardFrame codes).ownFrame address.toNat b).isSome = true →
          ∀ data, takenBulletin ((s.heardFrame codes).ownFrame address.toNat b) b ≠ .report data := by
        intro own data taken
        have kind := takenBulletin_txKind address.toNat b (s.heardFrame codes)
        rw [taken] at kind
        exact plain ⟨report_of_txKind kind.symm, own⟩
      have taking := (takeBulletin_keepsStats _ address.toNat kept).stand (s := s)
        (u := hearPanel address.toNat (addressed ((s.heardFrame codes).ownFrame address.toNat b) address.toNat
          (s.heardFrame codes))) (by simp) (by simp)
      exact taking.trans (course_stats address.toNat b (s.heardFrame codes))
    | false =>
      rw [completeFrame_of_filtered codes address b s running passes]
      have filtered := filteredFrame_stats ((s.heardFrame codes).ownFrame address.toNat b) address.toNat (s.heardFrame codes)
      exact .of_eq filtered.1 filtered.2

/-- After the own report's completion: as the completion left it, but for a recall counted behind it. -/
theorem completeFrame_report {codes : Sensors} {address : BitVec 4} {b : Bulletin} {s : State}
    (completes : s.reportCompletes address.toNat b) :
    StatsStand s.loader.vt.counterFreeze s.stats (completeFrame codes address b s).stats ∨
      (StatsStand s.loader.vt.counterFreeze (reportCompleted s).stats (completeFrame codes address b s).stats ∧
        (completeFrame codes address b s).stats.snapshot = (reportCompleted s).stats.snapshot) := by
  obtain ⟨⟨data, rfl⟩, own⟩ := completes
  cases running : s.running with
  | false => rw [completeFrame_of_not_running running]; exact .inl (.refl _ _)
  | true =>
    cases passes : s.passes address.toNat (.report data) with
    | false =>
      rw [completeFrame_of_filtered codes address _ s running passes]
      have filtered := filteredFrame_stats ((s.heardFrame codes).ownFrame address.toNat (.report data)) address.toNat
        (s.heardFrame codes)
      exact .inl (.of_eq filtered.1 filtered.2)
    | true =>
      refine .inr ?_
      rw [completeFrame_of_passes codes address _ s running passes]
      simp only [finish_frame]
      obtain ⟨data', taken⟩ := report_of_txKind (takenBulletin_txKind address.toNat (.report data) (s.heardFrame codes))
      have behind := course_stats address.toNat (.report data) (s.heardFrame codes)
      have picture := course_snapshot address.toNat (.report data) (s.heardFrame codes)
      rw [taken] at behind picture
      have heard : ((s.heardFrame codes).ownFrame address.toNat (.report data)).isSome = true := own
      simp only [takeBulletin, heard, if_true, plain_state] at behind picture
      have completed := reportCompleted_stats_congr (s := s) (t := hearPanel address.toNat (addressed
        ((s.heardFrame codes).ownFrame address.toNat (.report data)) address.toNat (s.heardFrame codes))) (by simp)
      exact ⟨StatsStand.trans (.of_eq completed.1 completed.2) behind, picture.trans completed.2⟩

/-! ### Every command -/

theorem loadSucceeds_stats (image : List Byte) (vt : VehicleTable) (s : State) :
    (loadSucceeds image vt s).stats.counters = s.stats.counters ∧
      (loadSucceeds image vt s).stats.snapshot = s.stats.snapshot := by
  simp [loadSucceeds, tableInForce]

theorem readDone_stats (bytes : List Byte) (s : State) :
    (readDone bytes s).stats.counters = s.stats.counters ∧ (readDone bytes s).stats.snapshot = s.stats.snapshot := by
  unfold readDone
  (repeat' split)
  · exact loadSucceeds_stats ..
  · exact ⟨rfl, rfl⟩
  · exact ⟨rfl, rfl⟩

/-- Events that an evaluation closes. -/
theorem timedEvents_keepStats :
    (∀ kind, KeepsStats (slotEnds kind)) ∧ KeepsStats panelFallsSilent ∧ (∀ door, KeepsStats (longOpenEnds door)) ∧
    KeepsStats tailEnds ∧ (∀ station, KeepsStats (spillEnds station)) ∧ KeepsStats outdoorAgeEnds ∧ KeepsStats
    fogLevel ∧ KeepsStats rampEnds ∧ KeepsStats holdEnds ∧ KeepsStats trimEnds ∧ KeepsStats censusEnds ∧ KeepsStats
    catchUpEnds ∧ KeepsStats settleEnds ∧ KeepsStats rideThroughEnds ∧ KeepsStats qualifyEnds ∧ KeepsStats lineLevel
    ∧ KeepsStats periodEnds ∧ (∀ stage, KeepsStats (stageTimerEnds stage)) := by
  refine ⟨fun kind => ?_, ?_, fun door => ?_, ?_, fun station => ?_, ?_, ?_, ?_, ?_, ?_, ?_, ?_, ?_, ?_, ?_, ?_, ?_, fun stage => ?_⟩
  · exact .of_eq fun s => by unfold slotEnds; split <;> simp
  · exact .of_eq fun s => by unfold panelFallsSilent; (repeat' split) <;> simp
  · exact .of_eq fun s => by unfold longOpenEnds; split <;> simp
  · exact .of_eq fun s => by unfold tailEnds; split <;> simp
  · exact .of_eq fun s => by unfold spillEnds; split <;> simp
  · exact .of_eq fun s => by unfold outdoorAgeEnds; split <;> simp
  · exact .of_eq fun s => by unfold fogLevel; split <;> simp
  · exact .of_eq fun s => by unfold rampEnds; split <;> simp [noteRampTimeout, Stats.noted]
  · exact .of_eq fun s => by unfold holdEnds; split <;> simp
  · exact .of_eq fun s => by unfold trimEnds; split <;> simp
  · exact .of_eq fun s => by unfold censusEnds; split <;> simp
  · exact .of_eq fun s => by unfold catchUpEnds; split <;> simp
  · exact .of_eq fun s => by unfold settleEnds enterRideThrough; dsimp only; (repeat' split) <;> simp
  · exact .of_eq fun s => by unfold rideThroughEnds; split <;> simp
  · exact .of_eq fun s => by unfold qualifyEnds; split <;> simp
  · exact .of_eq fun s => by unfold lineLevel; split <;> simp
  · exact .of_eq fun s => by unfold periodEnds; split <;> simp
  · exact .of_eq fun s => by unfold stageTimerEnds; split <;> simp

/-- Events without one. -/
theorem quietEvents_keepStats :
    (∀ door apart, KeepsStats (doorRaw door apart)) ∧ (∀ active, KeepsStats (fogRaw active)) ∧ (∀ high, KeepsStats
    (lineRaw high)) ∧ KeepsStats statusPeriodEnds ∧ (∀ station, KeepsStats (ageReaches station)) ∧ KeepsStats
    leaseRunsOut ∧ KeepsStats spacingEnds ∧ KeepsStats returnTimerEnds ∧ KeepsStats muteEnds ∧ KeepsStats
    idleWaitEnds ∧ KeepsStats busBecomesIdle ∧ KeepsStats frameHeard ∧ (∀ heard, KeepsStats (answerHeard heard)) := by
  refine ⟨fun door apart => ?_, fun active => ?_, fun high => ?_, ?_, fun station => ?_, ?_, ?_, ?_, ?_, ?_, ?_, ?_, fun heard => ?_⟩
  · exact .of_eq fun s => by unfold doorRaw; dsimp only; split <;> simp
  · exact .of_eq fun s => by unfold fogRaw; dsimp only; split <;> simp
  · exact .of_eq fun s => by unfold lineRaw; dsimp only; split <;> simp
  · exact .of_eq fun s => by unfold statusPeriodEnds; split <;> simp
  · exact .of_eq fun s => by unfold ageReaches; split <;> simp
  · exact .of_eq fun s => by unfold leaseRunsOut; dsimp only; (repeat' split) <;> simp
  · exact .of_eq fun s => by unfold spacingEnds; split <;> simp
  · exact .of_eq fun s => by unfold returnTimerEnds; split <;> simp
  · exact .of_eq fun s => by simp
  · exact .of_eq fun s => by simp
  · exact .of_eq fun s => by simp
  · exact .of_eq fun s => by simp
  · exact .of_eq fun s => by simp

theorem doorLevel_keepsStats (door : Fin 2) : KeepsStats (doorLevel door) := by
  intro s
  unfold doorLevel
  split
  · exact ⟨rfl, .refl _ _⟩
  · simp only [finish_frame]
    exact doorTakesLevel_keepsStats door (s.rawDoor door) s

/-- Picture and frozen counters stand under every command but a reset and the own report's completion. -/
theorem after_statsStand {c : Instr} (noReset : c ≠ .powerOnReset ∧ c ≠ .externalReset) {s : State}
    (plain : ∀ codes address data, c = .report codes address data →
      (s.ownFrame address.toNat (.report data)).isSome = false) :
    StatsStand s.loader.vt.counterFreeze s.stats (s.after c).stats := by
  obtain ⟨slot, panel, long, tail, spill, outdoor, fog, ramp, hold, trim, census, catchUp, settle, ride, qualify, line,
    period, stage⟩ := timedEvents_keepStats
  obtain ⟨doorRaw, fogRaw, lineRaw, statusPeriod, age, lease, spacing, returnTimer, mute, idleWait, idle, heard,
    answer⟩ := quietEvents_keepStats
  cases c with
  | allowance | lapse | expel | join | status | claim | ret | draft | override | cancel | snapshot | query
  | unknownKindFrame => exact completeFrame_statsStand _ fun completes => by obtain ⟨⟨_, report⟩, _⟩ := completes; cases report
  | report codes address data =>
    exact completeFrame_statsStand codes fun completes => by
      have other := plain codes address data rfl
      rw [completes.2] at other
      cases other
  | catchUpTimerExpiry codes => exact catchUp.whenRunning.stand rfl rfl
  | slotExpiry codes kind => exact (slot kind).whenRunning.stand rfl rfl
  | panelSilenceExpiry => exact panel.whenRunning.stand rfl rfl
  | doorLevelChange codes door => exact (doorLevel_keepsStats door).whenRunning.stand rfl rfl
  | longOpenExpiry codes door => exact (long door).whenRunning.stand rfl rfl
  | tailTimerExpiry => exact tail.whenRunning.stand rfl rfl
  | spillTimerExpiry codes station => exact (spill _).whenRunning.stand rfl rfl
  | outdoorAgeExpiry => exact outdoor.whenRunning.stand rfl rfl
  | fogLevelChange => exact fog.whenRunning.stand rfl rfl
  | rampTimerExpiry => exact ramp.whenRunning.stand rfl rfl
  | holdTimerExpiry => exact hold.whenRunning.stand rfl rfl
  | trimTimerExpiry => exact trim.whenRunning.stand rfl rfl
  | censusTimerExpiry => exact census.whenRunning.stand rfl rfl
  | settleTimerExpiry => exact settle.whenRunning.stand rfl rfl
  | rideThroughExpiry => exact ride.whenRunning.stand rfl rfl
  | qualifyTimerExpiry => exact qualify.whenRunning.stand rfl rfl
  | lineLevelChange => exact line.stand rfl rfl
  | periodicEvaluation => exact period.whenRunning.stand rfl rfl
  | stageMinimumTimerExpiry codes stage' => exact (stage _).whenRunning.stand rfl rfl
  | doorRawChange door apart => exact (doorRaw door apart).stand rfl rfl
  | fogRawChange active => exact (fogRaw active).stand rfl rfl
  | lineRawChange high => exact (lineRaw high).stand rfl rfl
  | statusPeriodExpiry => exact statusPeriod.whenRunning.stand rfl rfl
  | silenceAgeLimit station => exact (age _).whenRunning.stand rfl rfl
  | leaseTimerExpiry => exact lease.whenRunning.stand rfl rfl
  | claimSpacingExpiry => exact spacing.whenRunning.stand rfl rfl
  | returnTimerExpiry => exact returnTimer.whenRunning.stand rfl rfl
  | statisticsSecond => exact secondEnds_keepsStats.whenRunning.stand rfl rfl
  | frameError heard => exact (answer heard).stand rfl rfl
  | ownFrameVoid heard => exact (ownFrameReadBack_keepsStats heard).whenRunning.stand rfl rfl
  | ownFrameLost => exact frameLost_keepsStats.whenRunning.stand rfl rfl
  | frameStart => exact startOffered_keepsStats.stand rfl rfl
  | busIdle => exact idle.stand rfl rfl
  | busIdle2ms => exact idleWait.stand rfl rfl
  | muteTimerExpiry => exact mute.stand rfl rfl
  | startBit => exact heard.stand rfl rfl
  | powerOnReset => exact absurd rfl noReset.1
  | externalReset => exact absurd rfl noReset.2
  | resetRelease straps =>
    show StatsStand _ _ (resetReleased straps (nextMoment s)).stats
    unfold resetReleased
    split <;> exact .refl _ _
  | optionReadDone codes bytes =>
    have read := readDone_stats bytes (begin codes s)
    exact .of_eq read.1 read.2
  | optionReadFailed cause =>
    show StatsStand _ _ (readFails (nextMoment s)).stats
    unfold readFails
    split <;> exact .refl _ _

/-- The picture under the own report's completion (R188). -/
theorem after_report_snapshot (codes : Sensors) (address : BitVec 4) (data : List Byte) {s : State}
    (own : (s.ownFrame address.toNat (.report data)).isSome = true) {p : Picture} (latched : s.stats.snapshot = some p) :
    (s.after (.report codes address data)).stats.snapshot = some p ∨
      ((s.after (.report codes address data)).stats.snapshot = none ∧
        ∃ f, s.stats.inFlight = some f ∧ f.request.item = .snapshot ∧ f.part = 3) := by
  obtain stand | ⟨_, picture⟩ := completeFrame_report (codes := codes) (address := address) (s := s) ⟨⟨data, rfl⟩, own⟩
  · exact .inl (stand.1 p latched)
  · cases flying : s.stats.inFlight with
    | none => rw [reportCompleted_of_none flying] at picture; exact .inl (picture.trans latched)
    | some f =>
      rw [(reportCompleted_stats flying).2] at picture
      have part := partDone_snapshot f (s.stats.clearedBy f)
      rw [clearedBy_snapshot] at part
      by_cases releases : f.releases
      · exact .inr ⟨picture.trans (part.1 releases), f, rfl, releases⟩
      · exact .inl ((picture.trans (part.2 releases)).trans latched)

/-- Settles O57: only a reset or the own report's third part takes the picture away. -/
theorem latchedSnapshotStands : Obligations.LatchedSnapshotStands := by
  unfold Obligations.LatchedSnapshotStands
  intro c s t p latched ran
  rw [exec_after] at ran
  cases ran
  by_cases reset : c = .powerOnReset ∨ c = .externalReset
  · obtain rfl | rfl := reset
    · exact .inr ⟨rfl, .inl rfl⟩
    · exact .inr ⟨rfl, .inr (.inl rfl)⟩
  · by_cases own : ∃ codes address data, c = .report codes address data ∧
        (s.ownFrame address.toNat (.report data)).isSome = true
    · obtain ⟨codes, address, data, rfl, own⟩ := own
      obtain stands | ⟨gone, f, flying, releases⟩ := after_report_snapshot codes address data own latched
      · exact .inl stands
      · exact .inr ⟨gone, .inr (.inr ⟨codes, address, data, f, rfl, own, flying, releases⟩)⟩
    · refine .inl ((after_statsStand (not_or.mp reset) fun codes address data eq => ?_).1 p latched)
      exact Bool.eq_false_iff.mpr fun completes => own ⟨codes, address, data, eq, completes⟩

/-- The counters under the own report's completion (R185). -/
theorem after_report_counters (codes : Sensors) (address : BitVec 4) (data : List Byte) {s : State}
    (own : (s.ownFrame address.toNat (.report data)).isSome = true) (freeze : s.loader.vt.counterFreeze = true) :
    (∃ f, s.stats.inFlight = some f ∧ f.clears) ∨
      s.stats.counters.notAbove (s.after (.report codes address data)).stats.counters := by
  obtain stand | ⟨stand, _⟩ := completeFrame_report (codes := codes) (address := address) (s := s) ⟨⟨data, rfl⟩, own⟩
  · exact .inr (stand.2 freeze)
  · have kept := stand.2 freeze
    cases flying : s.stats.inFlight with
    | none => rw [reportCompleted_of_none flying] at kept; exact .inr kept
    | some f =>
      by_cases clears : f.clears
      · exact .inl ⟨f, rfl, clears⟩
      · rw [(reportCompleted_stats flying).1, partDone_counters, clearedBy_counters clears] at kept
        exact .inr kept

/-- Settles O58: with COUNTER_FREEZE a counter falls only where a report that asks for clearing completes. -/
theorem frozenCountersDoNotFall : Obligations.FrozenCountersDoNotFall := by
  unfold Obligations.FrozenCountersDoNotFall
  intro c s t freeze ran
  rw [exec_after] at ran
  cases ran
  by_cases power : c = .powerOnReset
  · exact .inl power
  · refine .inr ?_
    by_cases external : c = .externalReset
    · subst external
      exact .inr (Counters.notAbove_refl s.stats.counters)
    · by_cases own : ∃ codes address data, c = .report codes address data ∧
          (s.ownFrame address.toNat (.report data)).isSome = true
      · obtain ⟨codes, address, data, rfl, own⟩ := own
        obtain ⟨f, flying, clears, page⟩ | kept := after_report_counters codes address data own freeze
        · exact .inl ⟨codes, address, data, f, rfl, own, flying, clears, page⟩
        · exact .inr kept
      · refine .inr ((after_statsStand ⟨power, external⟩ fun codes address data eq => ?_).2 freeze)
        exact Bool.eq_false_iff.mpr fun completes => own ⟨codes, address, data, eq, completes⟩

end Sys2Proof.Machine
end

section
/-! The laws of the transmit queue: what one request, one withdrawal, one change of member state and one end of
an own frame keep is kept by every command. -/

namespace Sys2Proof.Machine

/-! ## The moves that a law of the transmit queue has to survive -/

/-- A kind that a station out of step asks for no longer: CLAIM, LAPSE and EXPEL. -/
def TxKind.needsStep (kind : TxKind) : Prop := kind ∈ [TxKind.claim, .lapse, .expel]

/-- A law of transmit queue, frame in flight, failure count, member state and moment that requests keep, and the withdrawals
that the end of an event can bring. -/
structure EventInvariant (P : State → Prop) : Prop where
  same : ∀ {s t : State}, t.bus.queue = s.bus.queue ∧ t.bus.inFlight = s.bus.inFlight ∧ t.bus.failures = s.bus.failures ∧
    t.member.state = s.member.state ∧ t.moment = s.moment → P s → P t
  queue : ∀ (kind : TxKind) {s : State}, (kind.needsStep → s.inStep = true) → P s → P (queueKind kind s)
  drop : ∀ (kind : TxKind) {s : State}, kind ∈ [TxKind.claim, .ret, .expel] → P s → P (withdrawKind kind s)

/-- One that withdrawals of all kinds but STATUS keep. -/
structure RequestInvariant (P : State → Prop) : Prop extends EventInvariant P where
  withdraw : ∀ (kind : TxKind) {s : State}, kind ≠ .status → P s → P (withdrawKind kind s)

/-- One that survives the changes of member state as well. -/
structure MemberInvariant (P : State → Prop) : Prop extends RequestInvariant P where
  stop : ∀ {s : State}, P s → P (withdrawKind .status s)
  leave : ∀ (m : MemberState) {s : State}, P s →
    P { leaveInStep s with member := { (leaveInStep s).member with state := m } }
  move : ∀ (m : MemberState) {s : State}, s.inStep = false → P s → P { s with member := { s.member with state := m } }
  clash : ∀ {s : State}, s.inStep = false → P s →
    P { s with bus := { s.bus with queue := [], inFlight := s.bus.inFlight.map (fun f => { f with renewal := none }) } }

/-- A law of transmit queue, frame in flight, failure count and member state that survives each move of them. -/
structure QueueInvariant (P : State → Prop) : Prop extends MemberInvariant P where
  moved : ∀ {s t : State}, t.bus.queue = s.bus.queue ∧ t.bus.inFlight = s.bus.inFlight ∧ t.bus.failures = s.bus.failures ∧
    t.member.state = s.member.state → P s → P t
  start : ∀ {s : State} (e : TxEntry), s.bus.inFlight = none → e ∈ s.bus.queue → P s → P (startFrame e s)
  complete : ∀ {s : State} {f : OwnFrame}, s.bus.inFlight = some f → P s → P (ownFrameCompleted f s)
  ends : ∀ {s : State}, P s → P (ownFrameEnds s)
  failed : ∀ {s : State}, P s → P (countFailure s)
  unmuted : ∀ {s : State}, P s → P (muteEnds s)
  reset : ∀ {s : State}, s.bus = Bus.reset → P s

theorem offered_mem {s : State} {e : TxEntry} (offered : s.offered = some e) : e ∈ s.bus.queue := by
  have kept : ∀ (queue : List TxEntry) (best : Option TxEntry), (∀ b, best = some b → b ∈ s.bus.queue) →
      (∀ x ∈ queue, x ∈ s.bus.queue) → ∀ e, queue.foldl (fun best e =>
        match best with
        | none => some e
        | some b => if s.offeredBefore e b then some e else some b) best = some e → e ∈ s.bus.queue := by
    intro queue
    induction queue with
    | nil => intro best held _ e found; exact held e found
    | cons x xs ih =>
      intro best held members e found
      refine ih _ ?_ (fun y mem => members y (.tail x mem)) e found
      intro b eq
      cases best with
      | none => exact Option.some.inj eq ▸ members x (.head xs)
      | some c =>
        dsimp only at eq
        split at eq
        · exact Option.some.inj eq ▸ members x (.head xs)
        · exact held b eq
  exact kept s.bus.queue none (by simp) (fun _ mem => mem) e offered

section
variable {P : State → Prop} (law : EventInvariant P)
include law

/-! ## The share unit -/

theorem EventInvariant.setAside (units : Nat) {s : State} (h : P s) : P (setAside units s) := by
  unfold Machine.setAside
  (repeat' split)
  · exact law.same (s := s) ⟨rfl, rfl, rfl, rfl, rfl⟩ h
  · exact law.drop _ (by decide) (law.same (s := s) ⟨rfl, rfl, rfl, rfl, rfl⟩ h)
  · exact law.same (s := s) ⟨rfl, rfl, rfl, rfl, rfl⟩ h

theorem EventInvariant.applyBounds {s : State} (h : P s) : P (applyBounds s) :=
  law.setAside _ (law.same (s := s) ⟨rfl, rfl, rfl, rfl, rfl⟩ h)

theorem EventInvariant.adjustAside (before : State) {s : State} (h : P s) : P (adjustAside before s) := by
  unfold Machine.adjustAside
  (repeat' split)
  · exact law.setAside _ h
  · exact law.setAside _ h
  · exact h

theorem EventInvariant.queuePlain (kind : TxKind) (plain : ¬kind.needsStep) {s : State} (h : P s) : P (queueKind kind s) :=
  law.queue kind (fun needs => absurd needs plain) h

theorem EventInvariant.claimDecision {s : State} (h : P s) : P (claimDecision s) := by
  unfold Machine.claimDecision
  split
  · exact law.drop _ (by decide) h
  · rename_i goesOn
    have inStep : s.inStep = true := by
      simp only [Bool.or_eq_true, Bool.not_eq_true', not_or, Bool.not_eq_false] at goesOn
      exact goesOn.1.1
    (repeat' split)
    · exact law.queue _ (fun _ => inStep) h
    · exact law.drop _ (by decide) h
    · exact law.queue _ (fun _ => inStep) h
    · exact law.drop _ (by decide) h
    · exact law.queue _ (fun _ => inStep) h

theorem EventInvariant.queueReturn {s : State} (h : P s) : P (queueReturn s) := by
  unfold Machine.queueReturn
  split
  · exact law.queuePlain _ (by simp [TxKind.needsStep]) h
  · exact h

theorem EventInvariant.shareEvaluation (ev : Ev) (before : State) {s : State} (h : P s) :
    P (shareEvaluation ev before s) := by
  have claimed : P (Machine.claimDecision (setWish (Machine.adjustAside before (Machine.applyBounds s)))) :=
    law.claimDecision (law.same (s := Machine.adjustAside before (Machine.applyBounds s)) (by simp)
      (law.adjustAside before (law.applyBounds h)))
  unfold Machine.shareEvaluation triggerReturn
  split
  · exact law.queueReturn claimed
  · exact claimed

theorem EventInvariant.settleReturn (units : Nat) {s : State} (h : P s) : P (settleReturn units s) :=
  law.same (s := setCommit _ (Machine.setAside _ s)) ⟨rfl, rfl, rfl, rfl, rfl⟩
    (law.same (s := Machine.setAside _ s) ⟨rfl, rfl, rfl, rfl, rfl⟩ (law.setAside _ h))

/-! ## The end of an event -/

theorem EventInvariant.cutStages {s : State} (h : P s) : P (cutStages s) := law.same (by simp) h

theorem EventInvariant.evaluate (ev : Ev) (before : State) {s : State} (h : P s) : P (evaluate ev before s) := by
  unfold Machine.evaluate
  (repeat' split)
  · unfold zoneEvaluation regulate
    exact law.same (s := Machine.shareEvaluation ev before (measure ev.periodic s)) (by simp)
      (law.shareEvaluation ev before (law.same (s := s) (by simp) h))
  · exact law.cutStages (law.shareEvaluation ev before h)
  · exact h

theorem EventInvariant.noteStatus (before : State) {s : State} (h : P s) : P (noteStatus before s) := by
  unfold Machine.noteStatus
  split
  · exact law.queuePlain _ (by simp [TxKind.needsStep]) h
  · exact h

theorem EventInvariant.checkExpulsion {s : State} (h : P s) : P (checkExpulsion s) := by
  have dropped : P (dropSettledExpulsion s) := by
    unfold dropSettledExpulsion
    (repeat' split)
    · exact h
    · exact law.drop _ (by decide) (law.same (s := s) ⟨rfl, rfl, rfl, rfl, rfl⟩ h)
    · exact h
  unfold Machine.checkExpulsion proposeExpulsion
  split
  · rename_i inStep
    simp only [Bool.and_eq_true] at inStep
    split
    · exact law.queue _ (fun _ => inStep.1) (law.same (s := dropSettledExpulsion s) ⟨rfl, rfl, rfl, rfl, rfl⟩ dropped)
    · exact dropped
  · exact dropped

theorem EventInvariant.finish (ev : Ev) (before : State) {s : State} (h : P s) : P (finish ev before s) := by
  unfold Machine.finish
  split
  · unfold finishRunning
    dsimp only
    refine law.checkExpulsion (law.noteStatus before ?_)
    have served := law.cutStages (law.applyBounds (law.same (s := s)
      (t := defrostSeesTaking (owedRaised ev before s || ev.cleared) before.safetyKept s) (by simp) h))
    exact law.same (by simp) (law.evaluate ev before (s := settle _) served)
  · exact h

/-! ## Doors, overrides, reports -/

end

section
variable {P : State → Prop} (law : RequestInvariant P)
include law

theorem RequestInvariant.setOneShot (o : OneShot) (tail : Timer) {s : State} (h : P s) : P (setOneShot o tail s) := by
  unfold Machine.setOneShot stateActivity
  dsimp only
  (repeat' split)
  · exact law.same (s := s) ⟨rfl, rfl, rfl, rfl, rfl⟩ h
  · exact law.queuePlain _ (by simp [TxKind.needsStep]) (law.same (s := s) ⟨rfl, rfl, rfl, rfl, rfl⟩ h)
  · exact law.withdraw _ (by decide) (law.same (s := s) ⟨rfl, rfl, rfl, rfl, rfl⟩ h)

theorem RequestInvariant.setDoor (door : Fin 2) (d : Door) {s : State} (h : P s) : P (setDoor door d s) := law.same (by simp) h

theorem RequestInvariant.checkLayover {s : State} (h : P s) : P (checkLayover s) := by
  unfold Machine.checkLayover
  split
  · exact law.setOneShot _ _ h
  · exact h

theorem RequestInvariant.closingEdge {s : State} (h : P s) : P (closingEdge s) := by
  unfold Machine.closingEdge
  (repeat' split)
  · exact law.checkLayover h
  · exact h
  · exact law.setOneShot _ _ h

theorem RequestInvariant.doorTakesLevel (door : Fin 2) (level : DoorLevel) {s : State} (h : P s) :
    P (doorTakesLevel door level s) := by
  unfold Machine.doorTakesLevel
  dsimp only
  split
  · exact law.setDoor _ _ h
  · exact law.setDoor _ _ h
  · unfold openingEdge
    split
    · exact law.same (by simp) h
    · exact law.setOneShot _ _ (law.same (s := s) (by simp) h)
  · exact law.closingEdge (law.setDoor _ _ h)
  · exact law.closingEdge (law.setDoor _ _ h)
  · exact law.setDoor _ _ h
  · exact law.setDoor _ _ h
  · exact law.setDoor _ _ h

theorem RequestInvariant.forgetStated {s : State} (h : P s) : P (forgetStated s) := by
  unfold Machine.forgetStated
  dsimp only
  split
  · exact law.queuePlain _ (by simp [TxKind.needsStep]) (law.same (s := s) ⟨rfl, rfl, rfl, rfl, rfl⟩ h)
  · exact law.same (s := s) ⟨rfl, rfl, rfl, rfl, rfl⟩ h

theorem RequestInvariant.handSlotsOn (o : Overrides) {s : State} (h : P s) : P (handSlotsOn o s) := by
  have set : P (recomputeSetpoint { s with overrides := o }) := law.same (s := s) ⟨rfl, rfl, rfl, rfl, rfl⟩ h
  have inhibited := law.setOneShot .idle none set
  unfold Machine.handSlotsOn
  dsimp only
  (repeat' split)
  · exact inhibited
  · exact law.same (by simp) inhibited
  · exact set
  · exact law.same (by simp) set

theorem RequestInvariant.takeOverride (kind mask value duration : Byte) {s : State} (h : P s) :
    P (takeOverride kind mask value duration s).2 := by
  unfold Machine.takeOverride
  (repeat' split)
  · exact law.handSlotsOn _ h
  · exact h
  · exact h
  · exact h

theorem RequestInvariant.takeCancel (kind mask : Byte) {s : State} (h : P s) : P (takeCancel kind mask s).2 := by
  unfold Machine.takeCancel
  (repeat' split)
  · exact law.handSlotsOn _ h
  · exact h
  · exact law.handSlotsOn _ h
  · exact h
  · exact h
  · exact h

theorem RequestInvariant.reportCompleted {s : State} (h : P s) : P (reportCompleted s) := by
  unfold Machine.reportCompleted
  dsimp only
  (repeat' split)
  · exact h
  · exact law.same (s := s) ⟨rfl, rfl, rfl, rfl, rfl⟩ h
  · exact law.queuePlain _ (by simp [TxKind.needsStep]) (law.same (s := s) ⟨rfl, rfl, rfl, rfl, rfl⟩ h)
  · exact law.same (s := s) ⟨rfl, rfl, rfl, rfl, rfl⟩ h

theorem RequestInvariant.takeQuery (target item flags : Byte) {s : State} (h : P s) : P (takeQuery target item flags s) := by
  unfold Machine.takeQuery
  (repeat' split)
  · exact law.queuePlain _ (by simp [TxKind.needsStep]) (law.same (s := s) ⟨rfl, rfl, rfl, rfl, rfl⟩ h)
  · exact h
  · exact h

/-! ## Requests of the membership unit -/

theorem RequestInvariant.startStatus {s : State} (h : P s) : P (startStatus s) :=
  law.queuePlain _ (by simp [TxKind.needsStep]) (law.same (s := s) ⟨rfl, rfl, rfl, rfl, rfl⟩ h)

theorem RequestInvariant.dropReport {s : State} (h : P s) : P (dropReport s) :=
  law.withdraw _ (by decide) (law.same (s := s) ⟨rfl, rfl, rfl, rfl, rfl⟩ h)

theorem RequestInvariant.enterInStep {s : State} (inStep : s.inStep = true) (h : P s) : P (enterInStep s) := by
  unfold Machine.enterInStep
  split
  · refine law.queue _ (fun _ => ?_) (law.startStatus h)
    simpa [State.inStep, Machine.startStatus] using inStep
  · exact law.startStatus h

/-! ## A bulletin taken -/

theorem RequestInvariant.takeBulletin (own : Bool) (sender : Nat) (b : Bulletin) {s : State} (h : P s) :
    P (takeBulletin own sender b s).state := by
  have taken : ∀ t : Taken, P (tableTaken t s).state := fun t => law.same (by simp) h
  cases b with
  | allowance units leaseTime fallback tag =>
    simp only [Machine.takeBulletin, takesAllowance]
    split
    · exact law.withdraw _ (by decide) (law.same (s := (tableTaken _ s).state) ⟨rfl, rfl, rfl, rfl, rfl⟩ (taken _))
    · exact taken _
  | lapse tag =>
    simp only [Machine.takeBulletin, takesLapse]
    split
    · exact law.withdraw _ (by decide) (law.same (s := (tableTaken _ s).state) ⟨rfl, rfl, rfl, rfl, rfl⟩ (taken _))
    · exact taken _
  | expel station =>
    simp only [Machine.takeBulletin, takesExpel]
    have dropped := fun t => law.same (t := dropSpill station.toNat (tableTaken t s).state) (by simp) h
    split
    · exact law.forgetStated (dropped _)
    · exact dropped _
  | join tag =>
    simp only [Machine.takeBulletin, takesJoin]
    have dropped := fun t => law.same (t := dropSpill sender (tableTaken t s).state) (by simp) h
    (repeat' split)
    · exact law.forgetStated (dropped _)
    · exact law.queuePlain _ (by simp [TxKind.needsStep]) (dropped _)
    · exact dropped _
  | status p => simp only [Machine.takeBulletin, takesStatus]; split <;> exact law.same (by simp) h
  | claim => simp only [Machine.takeBulletin, takesClaim]; split <;> exact law.same (by simp) h
  | ret =>
    simp only [Machine.takeBulletin, takesReturn]
    split
    · exact law.settleReturn _ (taken _)
    · exact taken _
  | draft => simp only [Machine.takeBulletin, takesDraft]; split <;> exact law.same (by simp) h
  | override => exact law.takeOverride _ _ _ _ h
  | cancel => exact law.takeCancel _ _ h
  | snapshot => exact law.same (by simp [Machine.takeBulletin]) h
  | query => exact law.takeQuery _ _ _ h
  | report =>
    simp only [Machine.takeBulletin]
    split
    · exact law.reportCompleted h
    · exact h
  | unknown => exact h

/-! ## Timed events -/

theorem RequestInvariant.whenRunning {f : State → State} (keeps : ∀ {s}, P s → P (f s)) {s : State} (h : P s) :
    P (whenRunning f s) := by
  unfold Machine.whenRunning
  split
  · exact keeps h
  · exact h

end

/-! ## The membership unit -/

section
variable {P : State → Prop} (law : MemberInvariant P)
include law

theorem MemberInvariant.stopStatus {s : State} (h : P s) : P (stopStatus s) :=
  law.dropReport (law.stop (law.same (s := s) ⟨rfl, rfl, rfl, rfl, rfl⟩ h))

theorem MemberInvariant.enterClash {s : State} (out : s.inStep = false) (h : P s) : P (enterClash s) := by
  have dropped := law.dropReport h
  have outAfter : (Machine.dropReport s).inStep = false := by simpa [State.inStep] using out
  unfold Machine.enterClash
  dsimp only
  exact law.same (by simp) (law.clash outAfter dropped)

theorem MemberInvariant.entered {m : MemberState} {s : State} (state : s.member.state = m) (h : P s) : P (entered m s) := by
  unfold Machine.entered
  split
  · exact law.stopStatus h
  · exact law.stopStatus h
  · exact law.startStatus h
  · exact law.startStatus h
  · exact law.enterInStep (by simp [State.inStep, state]) h
  · exact law.enterClash (by simp [State.inStep, state]) h
  · exact h
  · exact h

theorem MemberInvariant.setMember (m : MemberState) {s : State} (h : P s) : P (setMember m s) := by
  unfold Machine.setMember
  dsimp only
  refine law.entered rfl ?_
  split
  · exact law.leave m h
  · rename_i out
    exact law.move m (by simpa [State.inStep] using out) h

theorem MemberInvariant.enterMismatch {s : State} (h : P s) : P (enterMismatch s) :=
  law.setMember .mismatched (law.same (s := withdrawKind .join s) (by simp [noteConfig]) (law.withdraw .join (by decide) h))

theorem MemberInvariant.selfExpelled {s : State} (h : P s) : P (selfExpelled s) :=
  law.queuePlain _ (by simp [TxKind.needsStep]) (law.setMember _ (law.same (s := s) ⟨rfl, rfl, rfl, rfl, rfl⟩ h))

theorem MemberInvariant.joinResponse (own : Bool) (b : Bulletin) {s : State} (h : P s) : P (joinResponse own b s) := by
  unfold Machine.joinResponse
  (repeat' split)
  · exact law.setMember _ (law.same (s := s) ⟨rfl, rfl, rfl, rfl, rfl⟩ h)
  · exact h
  · exact law.selfExpelled h
  · exact h
  · exact h

theorem MemberInvariant.catchUpResponse (before : MemberState) {s : State} (h : P s) : P (catchUpResponse before s) := by
  unfold Machine.catchUpResponse checkCatchUp
  (repeat' split)
  · exact law.setMember _ (law.same (s := s) ⟨rfl, rfl, rfl, rfl, rfl⟩ h)
  · exact h
  · exact h

theorem MemberInvariant.mismatchResponse {c : Course} (h : P c.state) : P (mismatchResponse c).state := by
  have dropped : P (dropOwnClaim c).state := law.same (by simp [dropOwnClaim]) h
  unfold Machine.mismatchResponse
  split
  · rw [mapState_state]
    split
    · exact law.enterMismatch dropped
    · exact dropped
  · exact h

theorem MemberInvariant.memberResponse (own : Bool) (b : Bulletin) {c : Course} (h : P c.state) :
    P (memberResponse own b c).state := by
  refine law.catchUpResponse _ (law.same (s := Machine.joinResponse own b (syncAges (Machine.mismatchResponse c).state)) (by simp [syncHeard]) ?_)
  exact law.joinResponse own b (law.same (s := (Machine.mismatchResponse c).state) (by simp [syncAges]) (law.mismatchResponse h))

theorem MemberInvariant.clashResponse (own : Bool) (address : Nat) {s : State} (h : P s) : P (clashResponse own address s) := by
  unfold Machine.clashResponse
  split
  · exact law.setMember _ h
  · exact h

end

/-! ## Completed frames, own frames and every command -/

section
variable {P : State → Prop} (law : QueueInvariant P)
include law

/-- A timed event of a configured station: begun, guarded, and what it does keeps the law. -/
theorem QueueInvariant.timed {f : State → State} (keeps : ∀ {s}, P s → P (f s)) (codes : Sensors) {s : State} (h : P s) :
    P (Machine.whenRunning f (begin codes s)) :=
  law.whenRunning keeps (law.moved (s := s) ⟨rfl, rfl, rfl, rfl⟩ h)

theorem QueueInvariant.counted {f : State → State} (keeps : ∀ {s}, P s → P (f s)) {s : State} (h : P s) :
    P (Machine.whenRunning f (nextMoment s)) :=
  law.whenRunning keeps (law.moved (s := s) ⟨rfl, rfl, rfl, rfl⟩ h)

/-- What touches neither the queue, the frame in flight, the failure count nor the member state keeps the law. -/
theorem QueueInvariant.quiet {f : State → State} (leaves : ∀ u, (f u).bus.queue = u.bus.queue ∧
    (f u).bus.inFlight = u.bus.inFlight ∧ (f u).bus.failures = u.bus.failures ∧ (f u).member.state = u.member.state)
    {s u : State} (h : P s) (bus : u.bus = s.bus) (member : u.member = s.member) : P (f u) :=
  law.moved (leaves u) (law.moved (s := s) (by simp [bus, member]) h)

theorem QueueInvariant.addressed {address : Nat} {b : Bulletin} {s : State} (h : P s) :
    P (addressed (s.ownFrame address b) address s) := by
  have closed : P (closeOwnFrame (s.ownFrame address b) s) := by
    unfold closeOwnFrame
    split
    · rename_i f own
      refine law.complete ?_ h
      unfold State.ownFrame at own
      split at own
      · split at own
        · rename_i flying _; rw [flying, Option.some.inj own]
        · cases own
      · cases own
    · exact h
  exact law.moved (by simp [Machine.addressed, resetAge]) closed

theorem QueueInvariant.course (address : Nat) (b : Bulletin) {s : State} (h : P s) : P (course address b s).state := by
  have panel : P (hearPanel address (Machine.addressed (s.ownFrame address b) address s)) :=
    law.moved (by simp) (law.addressed (address := address) (b := b) h)
  exact law.clashResponse _ _ (law.memberResponse _ _ (law.moved (by simp) (law.takeBulletin
    (s.ownFrame address b).isSome address (takenBulletin (s.ownFrame address b) b) panel)))

theorem QueueInvariant.completeFrame (codes : Sensors) (address : BitVec 4) (b : Bulletin) {s : State} (h : P s) :
    P (completeFrame codes address b s) := by
  have heard : P (s.heardFrame codes) := law.moved (s := s) ⟨rfl, rfl, rfl, rfl⟩ h
  unfold Machine.completeFrame
  dsimp only
  (repeat' split)
  · exact law.finish _ _ (law.course address.toNat b heard)
  · unfold filteredFrame
    have expelled := law.checkExpulsion (law.addressed (address := address.toNat) (b := b) heard)
    dsimp only
    split
    · exact law.finish _ _ (law.setMember _ expelled)
    · exact expelled
  · exact heard

theorem QueueInvariant.ownFrameFails (drive : Drive) {s : State} (h : P s) : P (ownFrameFails drive s) := by
  unfold Machine.ownFrameFails
  dsimp only
  refine law.checkExpulsion (law.noteStatus s ?_)
  exact law.moved (s := countFailure (ownFrameEnds s)) ⟨rfl, rfl, rfl, rfl⟩ (law.failed (law.ends h))

theorem QueueInvariant.frameLost {s : State} (h : P s) : P (frameLost s) := by
  unfold Machine.frameLost
  split
  · exact h
  · exact law.checkExpulsion (law.ends h)

theorem QueueInvariant.ownFrameReadBack (heard : List Bool) {s : State} (h : P s) : P (ownFrameReadBack heard s) := by
  unfold Machine.ownFrameReadBack
  split
  · exact law.ownFrameFails _ h
  · exact law.ownFrameFails _ h
  · exact law.frameLost h
  · exact h
  · exact h
  · exact h

theorem QueueInvariant.startOffered {s : State} (h : P s) : P (startOffered s) := by
  unfold Machine.startOffered
  split
  · rename_i may
    split
    · rename_i e offered
      refine law.start e ?_ (offered_mem offered) h
      simp only [State.mayStart, Bool.and_eq_true, Option.isNone_iff_eq_none] at may
      exact may.1.2
    · exact h
  · exact h

theorem QueueInvariant.idleWaitEnds {s : State} (h : P s) : P (idleWaitEnds s) := by
  unfold Machine.idleWaitEnds
  dsimp only
  (repeat' split)
  · exact h
  · exact law.queueReturn (law.moved (s := s) ⟨rfl, rfl, rfl, rfl⟩ h)
  · exact law.moved (s := s) ⟨rfl, rfl, rfl, rfl⟩ h

theorem QueueInvariant.loadSucceeds (image : List Byte) (vt : VehicleTable) {s : State} (h : P s) :
    P (loadSucceeds image vt s) := by
  unfold Machine.loadSucceeds
  refine law.finish _ _ (law.moved (s := tableInForce image vt s) (by simp) ?_)
  refine law.moved (s := Machine.setMember .listen _) ⟨rfl, rfl, rfl, rfl⟩ (law.setMember .listen ?_)
  exact law.moved (s := s) ⟨rfl, rfl, rfl, rfl⟩ h

theorem QueueInvariant.slotEnds (kind : OverrideKind) {s : State} (h : P s) : P (Machine.slotEnds kind s) := by
  unfold Machine.slotEnds
  split
  · exact h
  · exact law.finish _ _ (law.handSlotsOn _ h)

theorem QueueInvariant.panelFallsSilent {s : State} (h : P s) : P (Machine.panelFallsSilent s) := by
  unfold Machine.panelFallsSilent
  (repeat' split)
  · exact h
  · exact law.finish _ _ (law.handSlotsOn _ h)
  · exact law.moved (s := s) ⟨rfl, rfl, rfl, rfl⟩ h

theorem QueueInvariant.doorLevel (door : Fin 2) {s : State} (h : P s) : P (Machine.doorLevel door s) := by
  unfold Machine.doorLevel
  split
  · exact h
  · exact law.finish _ _ (law.doorTakesLevel _ _ h)

theorem QueueInvariant.longOpenEnds (door : Fin 2) {s : State} (h : P s) : P (Machine.longOpenEnds door s) := by
  unfold Machine.longOpenEnds
  split
  · exact h
  · exact law.finish _ _ (law.checkLayover (law.setDoor _ _ h))

theorem QueueInvariant.tailEnds {s : State} (h : P s) : P (Machine.tailEnds s) := by
  unfold Machine.tailEnds
  split
  · exact h
  · exact law.finish _ _ (law.setOneShot _ _ h)

theorem QueueInvariant.spillEnds (station : Nat) {s : State} (h : P s) : P (Machine.spillEnds station s) := by
  unfold Machine.spillEnds
  split
  · exact law.finish _ _ (law.moved (s := s) ⟨rfl, rfl, rfl, rfl⟩ h)
  · exact h

theorem QueueInvariant.outdoorAgeEnds {s : State} (h : P s) : P (Machine.outdoorAgeEnds s) := by
  unfold Machine.outdoorAgeEnds
  split
  · exact h
  · exact law.finish _ _ (law.moved (s := s) ⟨rfl, rfl, rfl, rfl⟩ h)

theorem QueueInvariant.fogLevel {s : State} (h : P s) : P (Machine.fogLevel s) := by
  unfold Machine.fogLevel
  split
  · exact h
  · exact law.finish _ _ (law.moved (s := s) (by simp) h)

theorem QueueInvariant.rampEnds {s : State} (h : P s) : P (Machine.rampEnds s) := by
  unfold Machine.rampEnds
  split
  · exact law.finish _ _ (law.moved (s := s) ⟨rfl, rfl, rfl, rfl⟩ h)
  · exact h

theorem QueueInvariant.holdEnds {s : State} (h : P s) : P (Machine.holdEnds s) := by
  unfold Machine.holdEnds
  split
  · exact law.finish _ _ (law.moved (s := s) (by simp) h)
  · exact h

theorem QueueInvariant.trimEnds {s : State} (h : P s) : P (Machine.trimEnds s) := by
  unfold Machine.trimEnds
  split
  · exact law.finish _ _ (law.moved (s := s) ⟨rfl, rfl, rfl, rfl⟩ h)
  · exact h

theorem QueueInvariant.censusEnds {s : State} (h : P s) : P (Machine.censusEnds s) := by
  unfold Machine.censusEnds
  split
  · exact h
  · exact law.finish _ _ (law.queuePlain _ (by simp [TxKind.needsStep])
      (law.setMember _ (law.moved (s := s) ⟨rfl, rfl, rfl, rfl⟩ h)))

theorem QueueInvariant.catchUpEnds {s : State} (h : P s) : P (Machine.catchUpEnds s) := by
  unfold Machine.catchUpEnds
  split
  · exact h
  · exact law.finish _ _ (law.setMember _ (law.moved (s := s) ⟨rfl, rfl, rfl, rfl⟩ h))

theorem QueueInvariant.settleEnds {s : State} (h : P s) : P (Machine.settleEnds s) := by
  unfold Machine.settleEnds enterRideThrough
  dsimp only
  (repeat' split)
  · exact h
  · exact law.finish _ _ (law.moved (s := s) (by simp) h)
  · exact law.finish _ _ (law.moved (s := s) (by simp) h)

theorem QueueInvariant.rideThroughEnds {s : State} (h : P s) : P (Machine.rideThroughEnds s) := by
  unfold Machine.rideThroughEnds
  split
  · exact h
  · exact law.finish _ _ (law.moved (s := s) (by simp) h)

theorem QueueInvariant.qualifyEnds {s : State} (h : P s) : P (Machine.qualifyEnds s) := by
  unfold Machine.qualifyEnds
  split
  · exact h
  · exact law.finish _ _ (law.moved (s := s) (by simp) h)

theorem QueueInvariant.periodEnds {s : State} (h : P s) : P (Machine.periodEnds s) := by
  unfold Machine.periodEnds
  split
  · exact h
  · exact law.finish _ _ (law.moved (s := s) (by simp) h)

theorem QueueInvariant.stageTimerEnds (stage : Nat) {s : State} (h : P s) : P (Machine.stageTimerEnds stage s) := by
  unfold Machine.stageTimerEnds
  split
  · exact law.finish _ _ (law.moved (s := s) ⟨rfl, rfl, rfl, rfl⟩ h)
  · exact h

theorem QueueInvariant.statusPeriodEnds {s : State} (h : P s) : P (Machine.statusPeriodEnds s) := by
  unfold Machine.statusPeriodEnds
  split
  · exact h
  · exact law.queuePlain _ (by simp [TxKind.needsStep]) (law.moved (s := s) ⟨rfl, rfl, rfl, rfl⟩ h)

theorem QueueInvariant.ageReaches (station : Nat) {s : State} (h : P s) : P (Machine.ageReaches station s) := by
  unfold Machine.ageReaches
  split
  · exact law.checkExpulsion (law.moved (s := s) ⟨rfl, rfl, rfl, rfl⟩ h)
  · exact h

theorem QueueInvariant.leaseRunsOut {s : State} (h : P s) : P (Machine.leaseRunsOut s) := by
  unfold Machine.leaseRunsOut
  dsimp only
  (repeat' split)
  · exact h
  · rename_i inStep
    exact law.finish _ _ (law.queue _ (fun _ => inStep) (law.moved (s := s) ⟨rfl, rfl, rfl, rfl⟩ h))
  · exact law.finish _ _ (law.moved (s := s) ⟨rfl, rfl, rfl, rfl⟩ h)

theorem QueueInvariant.spacingEnds {s : State} (h : P s) : P (Machine.spacingEnds s) := by
  unfold Machine.spacingEnds
  split
  · exact h
  · exact law.finish _ _ (law.moved (s := s) ⟨rfl, rfl, rfl, rfl⟩ h)

theorem QueueInvariant.returnTimerEnds {s : State} (h : P s) : P (Machine.returnTimerEnds s) := by
  unfold Machine.returnTimerEnds
  split
  · exact law.queueReturn (law.moved (s := s) ⟨rfl, rfl, rfl, rfl⟩ h)
  · exact h
  · exact h

theorem QueueInvariant.secondEnds {s : State} (h : P s) : P (Machine.secondEnds s) := by
  unfold Machine.secondEnds
  split
  · exact h
  · exact law.noteStatus s (law.moved (s := s) (by simp) h)

/-- A law of the transmit queue is kept by every command; a failed load asks for an argument of its own. -/
theorem QueueInvariant.after (c : Instr) {s : State}
    (fails : ∀ u, s.loader.phase = .reading → P u → u.member = s.member → P (loadFails u)) (h : P s) : P (s.after c) := by
  cases c with
  | allowance | lapse | expel | join | status | claim | ret | draft | override | cancel | snapshot | query | report
  | unknownKindFrame => exact law.completeFrame _ _ _ h
  | slotExpiry codes kind => exact law.timed (law.slotEnds kind) codes h
  | panelSilenceExpiry codes => exact law.timed law.panelFallsSilent codes h
  | doorLevelChange codes door => exact law.timed (law.doorLevel door) codes h
  | longOpenExpiry codes door => exact law.timed (law.longOpenEnds door) codes h
  | tailTimerExpiry codes => exact law.timed law.tailEnds codes h
  | spillTimerExpiry codes station => exact law.timed (law.spillEnds station) codes h
  | outdoorAgeExpiry codes => exact law.timed law.outdoorAgeEnds codes h
  | fogLevelChange codes => exact law.timed law.fogLevel codes h
  | rampTimerExpiry codes => exact law.timed law.rampEnds codes h
  | holdTimerExpiry codes => exact law.timed law.holdEnds codes h
  | trimTimerExpiry codes => exact law.timed law.trimEnds codes h
  | censusTimerExpiry codes => exact law.timed law.censusEnds codes h
  | catchUpTimerExpiry codes => exact law.timed law.catchUpEnds codes h
  | settleTimerExpiry codes => exact law.timed law.settleEnds codes h
  | rideThroughExpiry codes => exact law.timed law.rideThroughEnds codes h
  | qualifyTimerExpiry codes => exact law.timed law.qualifyEnds codes h
  | lineLevelChange codes =>
    have begun : P (begin codes s) := law.moved (s := s) ⟨rfl, rfl, rfl, rfl⟩ h
    show P (lineLevel (begin codes s))
    unfold lineLevel
    split
    · exact begun
    · exact law.finish _ _ (law.moved (s := begin codes s) (by simp) begun)
  | periodicEvaluation codes => exact law.timed law.periodEnds codes h
  | stageMinimumTimerExpiry codes stage => exact law.timed (law.stageTimerEnds stage) codes h
  | statusPeriodExpiry => exact law.counted law.statusPeriodEnds h
  | silenceAgeLimit station => exact law.counted (law.ageReaches station) h
  | leaseTimerExpiry => exact law.counted law.leaseRunsOut h
  | claimSpacingExpiry => exact law.counted law.spacingEnds h
  | returnTimerExpiry => exact law.counted law.returnTimerEnds h
  | statisticsSecond => exact law.counted law.secondEnds h
  | doorRawChange door apart =>
    exact law.quiet (f := doorRaw door apart)
      (fun s => by unfold doorRaw; dsimp only; split <;> simp) h rfl rfl
  | fogRawChange active =>
    exact law.quiet (f := fogRaw active)
      (fun s => by unfold fogRaw; dsimp only; split <;> simp) h rfl rfl
  | lineRawChange high =>
    exact law.quiet (f := lineRaw high)
      (fun s => by unfold lineRaw; dsimp only; split <;> simp) h rfl rfl
  | frameError heard =>
    have heardFrame : P (frameHeard (nextMoment s)) := law.moved (s := s) ⟨rfl, rfl, rfl, rfl⟩ h
    refine law.quiet (f := answerHeard heard) (fun s => ?_) heardFrame rfl rfl
    unfold answerHeard
    (repeat' split) <;> exact ⟨rfl, rfl, rfl, rfl⟩
  | ownFrameVoid heard => exact law.counted (law.ownFrameReadBack heard) h
  | ownFrameLost => exact law.counted law.frameLost h
  | frameStart => exact law.startOffered (law.moved (s := s) ⟨rfl, rfl, rfl, rfl⟩ h)
  | busIdle =>
    refine law.quiet (f := busBecomesIdle) (fun s => ?_) h rfl rfl
    unfold busBecomesIdle
    split <;> exact ⟨rfl, rfl, rfl, rfl⟩
  | busIdle2ms => exact law.idleWaitEnds (law.moved (s := s) ⟨rfl, rfl, rfl, rfl⟩ h)
  | muteTimerExpiry => exact law.unmuted (law.moved (s := s) ⟨rfl, rfl, rfl, rfl⟩ h)
  | startBit => exact law.moved (s := s) ⟨rfl, rfl, rfl, rfl⟩ h
  | powerOnReset => exact law.reset rfl
  | externalReset => exact law.reset rfl
  | resetRelease straps =>
    refine law.quiet (f := resetReleased straps) (fun s => ?_) h rfl rfl
    unfold resetReleased
    split <;> exact ⟨rfl, rfl, rfl, rfl⟩
  | optionReadDone codes bytes =>
    have begun : P (begin codes s) := law.moved (s := s) ⟨rfl, rfl, rfl, rfl⟩ h
    show P (readDone bytes (begin codes s))
    unfold readDone
    split
    · rename_i reading
      split
      · exact law.loadSucceeds _ _ begun
      · exact fails _ reading begun rfl
    · exact begun
  | optionReadFailed cause =>
    have begun : P (nextMoment s) := law.moved (s := s) ⟨rfl, rfl, rfl, rfl⟩ h
    show P (readFails (nextMoment s))
    unfold readFails
    split
    · rename_i reading; exact fails _ reading begun rfl
    · exact begun


end

/-! ## The three laws -/

theorem failureLaw_invariant : QueueInvariant FailureLaw where
  same same h := by obtain ⟨_, _, failures, _⟩ := same; rwa [FailureLaw, failures]
  moved same h := by obtain ⟨_, _, failures, _⟩ := same; rwa [FailureLaw, failures]
  queue kind s _ h := by simpa [FailureLaw] using h
  drop kind s _ h := by simpa [FailureLaw] using h
  withdraw kind s _ h := by simpa [FailureLaw] using h
  stop h := by simpa [FailureLaw] using h
  leave m s h := by simpa [FailureLaw] using h
  move m s _ h := h
  clash _ h := h
  start e _ _ h := h
  complete {s f} _ h := by
    show s.bus.failures - 1 ≤ 16
    have : s.bus.failures ≤ 16 := h
    omega
  ends h := h
  failed {s} _ := by
    unfold FailureLaw countFailure
    dsimp only
    split <;> (dsimp only; omega)
  unmuted {s} h := by
    unfold FailureLaw muteEnds
    split
    · exact h
    · exact (by decide : 8 ≤ 16)
  reset bus := by simp [FailureLaw, bus, Bus.reset]

theorem nodup_filter {queue : List TxEntry} (p : TxEntry → Bool) (law : (queue.map (·.kind)).Nodup) :
    ((queue.filter p).map (·.kind)).Nodup := law.sublist ((List.filter_sublist).map _)

theorem kind_not_mem {s : State} {kind : TxKind} (absent : s.hasTx kind = false) : kind ∉ s.bus.queue.map (·.kind) := by
  intro mem
  obtain ⟨e, queued, same⟩ := List.mem_map.mp mem
  have : s.hasTx kind = true := List.any_eq_true.mpr ⟨e, queued, by simp [same]⟩
  rw [absent] at this; cases this

theorem transmitLaw_queueKind (kind : TxKind) {s : State} (law : TransmitLaw s) : TransmitLaw (queueKind kind s) := by
  unfold queueKind
  (repeat' split)
  · exact law
  · exact law
  · rename_i absent
    show ((s.bus.queue ++ [({ kind, age := s.moment } : TxEntry)]).map TxEntry.kind).Nodup
    rw [List.map_append]
    exact nodup_concat law (kind_not_mem (Bool.eq_false_iff.mpr absent))
  · exact law

theorem transmitLaw_withdrawKind (kind : TxKind) {s : State} (law : TransmitLaw s) : TransmitLaw (withdrawKind kind s) := by
  unfold withdrawKind
  split
  · exact law
  · exact nodup_filter _ law

theorem transmitLaw_completed (f : OwnFrame) {s : State} (law : TransmitLaw s) : TransmitLaw (ownFrameCompleted f s) := by
  have left : ((s.bus.queue.filter (fun e => e.kind != f.kind)).map (·.kind)).Nodup := nodup_filter _ law
  show ((s.queueAfter f).map (·.kind)).Nodup
  unfold State.queueAfter
  dsimp only
  (repeat' split)
  · rw [List.map_append]
    refine nodup_concat left fun mem => ?_
    obtain ⟨e, queued, same⟩ := List.mem_map.mp mem
    simp [same] at queued
  · exact left
  · exact left

theorem transmitLaw_invariant : QueueInvariant TransmitLaw where
  same same h := by obtain ⟨queue, _⟩ := same; rwa [TransmitLaw, queue]
  moved same h := by obtain ⟨queue, _⟩ := same; rwa [TransmitLaw, queue]
  queue kind s _ h := transmitLaw_queueKind kind h
  drop kind s _ h := transmitLaw_withdrawKind kind h
  withdraw kind s _ h := transmitLaw_withdrawKind kind h
  stop h := transmitLaw_withdrawKind .status h
  leave m s h := transmitLaw_withdrawKind .expel (transmitLaw_withdrawKind .lapse (transmitLaw_withdrawKind .claim h))
  move m s _ h := h
  clash _ _ := List.nodup_nil
  start e _ _ h := h
  complete _ h := transmitLaw_completed _ h
  ends h := nodup_filter _ h
  failed {s} h := by
    unfold TransmitLaw countFailure
    dsimp only
    split <;> exact h
  unmuted {s} h := by
    unfold TransmitLaw muteEnds
    split <;> exact h
  reset bus := by simp [TransmitLaw, bus, Bus.reset]

/-- No request of the kind stands: what is queued of it is the frame in flight, and that is not asked for again. -/
def State.notAsked (s : State) (kind : TxKind) : Prop :=
  (s.hasTx kind = true → s.flying kind = true) ∧ ∀ f, s.bus.inFlight = some f → f.kind = kind → f.renewal = none

theorem sendLaw_iff (s : State) : SendLaw s ↔ (s.inStep = false → ∀ kind : TxKind, kind.needsStep → s.notAsked kind) := by
  have queued : (∀ e ∈ s.bus.queue, e.kind ∈ [TxKind.claim, .lapse, .expel] → s.flying e.kind = true) ↔
      ∀ kind : TxKind, kind.needsStep → s.hasTx kind = true → s.flying kind = true := by
    constructor
    · intro h kind needs has
      obtain ⟨e, mem, same⟩ := List.any_eq_true.mp has
      have eq : e.kind = kind := by simpa using same
      exact eq ▸ h e mem (eq ▸ needs)
    · intro h e mem needs
      exact h e.kind needs (List.any_eq_true.mpr ⟨e, mem, by simp⟩)
  have flown : s.bus.inFlight.all (fun f => decide (f.kind ∈ [TxKind.claim, .lapse, .expel] → f.renewal = none)) = true ↔
      ∀ kind : TxKind, kind.needsStep → ∀ f, s.bus.inFlight = some f → f.kind = kind → f.renewal = none := by
    cases s.bus.inFlight with
    | none => simp
    | some f => grind [TxKind.needsStep]
  unfold SendLaw State.notAsked
  rw [queued, flown]
  exact forall_congr' fun _ => ⟨fun h kind needs => ⟨h.1 kind needs, h.2 kind needs⟩,
    fun h => ⟨fun kind needs => (h kind needs).1, fun kind needs => (h kind needs).2⟩⟩

theorem notAsked_withdrawKind (kind : TxKind) (s : State) : (withdrawKind kind s).notAsked kind := by
  unfold withdrawKind State.notAsked
  split
  · rename_i flying
    refine ⟨fun _ => ?_, fun f eq same => ?_⟩
    · have kept := flying_withdrawKind kind kind s
      simpa [withdrawKind, flying] using kept
    · obtain ⟨g, _, rfl⟩ := Option.map_eq_some_iff.mp eq
      rfl
  · rename_i grounded
    refine ⟨fun has => ?_, fun f eq same => ?_⟩
    · have gone := withdrawKind_gone kind s (Bool.eq_false_iff.mpr grounded)
      simp only [withdrawKind, grounded] at gone
      exact absurd has (Bool.eq_false_iff.mp gone)
    · exact absurd (by simp [State.flying, show s.bus.inFlight = some f from eq, same]) grounded

theorem notAsked_withdrawKind_other {kind : TxKind} (other : TxKind) {s : State} (h : s.notAsked kind) :
    (withdrawKind other s).notAsked kind := by
  refine ⟨fun has => ?_, fun f eq same => ?_⟩
  · rw [flying_withdrawKind]
    refine h.1 ?_
    unfold withdrawKind at has
    split at has
    · exact has
    · obtain ⟨e, mem, same⟩ := List.any_eq_true.mp has
      exact List.any_eq_true.mpr ⟨e, (List.mem_filter.mp mem).1, same⟩
  · unfold withdrawKind at eq
    split at eq
    · obtain ⟨g, _, rfl⟩ := Option.map_eq_some_iff.mp eq
      rfl
    · exact h.2 f eq same

theorem notAsked_queueKind_other {kind other : TxKind} (ne : other ≠ kind) {s : State} (h : s.notAsked kind) :
    (queueKind other s).notAsked kind := by
  refine ⟨fun has => ?_, fun f eq same => ?_⟩
  · rw [flying_queueKind]
    refine h.1 ?_
    unfold queueKind at has
    (repeat' split at has)
    · exact has
    · exact has
    · simpa [State.hasTx, ne] using has
    · exact has
  · unfold queueKind at eq
    (repeat' split at eq)
    · rename_i flying
      obtain ⟨g, flown, rfl⟩ := Option.map_eq_some_iff.mp eq
      have kindOf : g.kind = other := by simpa [State.flying, flown] using flying
      exact absurd (kindOf.symm.trans same) ne
    · exact h.2 f eq same
    · exact h.2 f eq same
    · exact h.2 f eq same

theorem notAsked_of_grounded {s : State} {kind : TxKind} (h : s.notAsked kind) (grounded : s.flying kind = false) :
    s.hasTx kind = false := by
  cases has : s.hasTx kind with
  | false => rfl
  | true => rw [h.1 has] at grounded; cases grounded

/-- Out of step, no CLAIM, LAPSE or EXPEL is queued once the frame in flight has ended. -/
theorem notAsked_completed {s : State} {f : OwnFrame} {kind : TxKind} (flying : s.bus.inFlight = some f)
    (needs : kind.needsStep) (h : s.notAsked kind) : (ownFrameCompleted f s).notAsked kind := by
  refine ⟨fun has => ?_, fun _ eq _ => by cases eq⟩
  obtain ⟨e, mem, same⟩ := List.any_eq_true.mp has
  have eq : e.kind = kind := by simpa using same
  have left : e ∉ s.bus.queue.filter (fun e => e.kind != f.kind) := by
    intro stays
    obtain ⟨queued, other⟩ := List.mem_filter.mp stays
    have flown := h.1 (List.any_eq_true.mpr ⟨e, queued, same⟩)
    have same' : f.kind = kind := by simpa [State.flying, flying] using flown
    simp [eq, same'] at other
  have renewed : e.kind = f.kind → s.renewalAge f = none := by
    intro own
    have none := h.2 f flying (own.symm.trans eq)
    have notDraft : f.kind ≠ .draft := by
      rw [← own, eq]; intro draft; rw [draft] at needs; simp [TxKind.needsStep] at needs
    unfold State.renewalAge
    rw [none]
    cases kindOf : f.kind <;> simp_all
  have mem : e ∈ s.queueAfter f := mem
  unfold State.queueAfter at mem
  dsimp only at mem
  split at mem
  · rename_i age
    split at mem
    · obtain stays | own := List.mem_append.mp mem
      · exact absurd stays left
      · have kindOf : e.kind = f.kind := by rw [List.mem_singleton.mp own]
        rw [renewed kindOf] at age; cases age
    · exact absurd mem left
  · exact absurd mem left

theorem notAsked_started {s : State} {e : TxEntry} (grounded : s.bus.inFlight = none) (queued : e ∈ s.bus.queue)
    {kind : TxKind} (h : s.notAsked kind) : (startFrame e s).notAsked kind := by
  have absent := notAsked_of_grounded h (by simp [State.flying, grounded])
  refine ⟨fun has => ?_, fun f eq same => ?_⟩
  · exact absurd (show s.hasTx kind = true from has) (by simp [absent])
  · have : f.renewal = none := by cases eq; rfl
    exact this

theorem notAsked_ends {s : State} (out : s.inStep = false) {kind : TxKind} (needs : kind.needsStep) :
    (ownFrameEnds s).notAsked kind := by
  refine ⟨fun has => ?_, fun _ eq _ => by cases eq⟩
  obtain ⟨e, mem, same⟩ := List.any_eq_true.mp has
  have eq : e.kind = kind := by simpa using same
  have may := (List.mem_filter.mp mem).2
  rw [eq] at may
  simp only [TxKind.needsStep, List.mem_cons, List.not_mem_nil, or_false] at needs
  obtain rfl | rfl | rfl := needs <;> simp [State.maySend, out] at may

theorem notAsked_leaveInStep {kind : TxKind} (needs : kind.needsStep) (s : State) : (leaveInStep s).notAsked kind := by
  have out : (withdrawKind .expel (withdrawKind .lapse (withdrawKind .claim s))).notAsked kind := by
    simp only [TxKind.needsStep, List.mem_cons, List.not_mem_nil, or_false] at needs
    obtain rfl | rfl | rfl := needs
    · exact notAsked_withdrawKind_other _ (notAsked_withdrawKind_other _ (notAsked_withdrawKind .claim s))
    · exact notAsked_withdrawKind_other _ (notAsked_withdrawKind .lapse _)
    · exact notAsked_withdrawKind .expel _
  exact out

theorem sendLaw_of_bus {s t : State} (bus : t.bus.queue = s.bus.queue ∧ t.bus.inFlight = s.bus.inFlight)
    (state : t.member.state = s.member.state) (h : SendLaw s) : SendLaw t := by
  obtain ⟨queue, inFlight⟩ := bus
  unfold SendLaw State.inStep State.flying at *
  rwa [queue, inFlight, state]

theorem sendLaw_withdrawKind (kind : TxKind) {s : State} (h : SendLaw s) : SendLaw (withdrawKind kind s) := by
  rw [sendLaw_iff] at h ⊢
  exact fun out other needs => notAsked_withdrawKind_other kind (h (by simpa [State.inStep] using out) other needs)

theorem sendLaw_invariant : QueueInvariant SendLaw where
  same same h := sendLaw_of_bus ⟨same.1, same.2.1⟩ same.2.2.2.1 h
  moved same h := sendLaw_of_bus ⟨same.1, same.2.1⟩ same.2.2.2 h
  queue kind s asks h := by
    rw [sendLaw_iff] at h ⊢
    intro out other needs
    have outBefore : s.inStep = false := by simpa [State.inStep] using out
    refine notAsked_queueKind_other (fun eq => ?_) (h outBefore other needs)
    rw [asks (eq ▸ needs)] at outBefore; cases outBefore
  drop kind s _ h := sendLaw_withdrawKind kind h
  withdraw kind s _ h := sendLaw_withdrawKind kind h
  stop h := sendLaw_withdrawKind .status h
  leave m s _ := (sendLaw_iff _).mpr fun _ _ needs => notAsked_leaveInStep needs s
  move m s out h := (sendLaw_iff _).mpr fun _ other needs => (sendLaw_iff s).mp h out other needs
  clash {s} _ _ := by
    rw [sendLaw_iff]
    refine fun _ kind _ => ⟨fun has => Bool.noConfusion has, fun f eq _ => ?_⟩
    obtain ⟨g, _, rfl⟩ := Option.map_eq_some_iff.mp eq
    rfl
  start e grounded queued h := (sendLaw_iff _).mpr fun out other needs =>
    notAsked_started grounded queued ((sendLaw_iff _).mp h out other needs)
  complete flying h := (sendLaw_iff _).mpr fun out other needs =>
    notAsked_completed flying needs ((sendLaw_iff _).mp h out other needs)
  ends {s} _ := (sendLaw_iff _).mpr fun out _ needs => notAsked_ends (s := s) out needs
  failed {s} h := sendLaw_of_bus (by unfold countFailure; dsimp only; split <;> exact ⟨rfl, rfl⟩) (by simp) h
  unmuted {s} h := sendLaw_of_bus (by unfold muteEnds; split <;> exact ⟨rfl, rfl⟩) (by simp) h
  reset bus := by simp [SendLaw, State.flying, bus, Bus.reset]

/-- A failed load leaves a queue law that asks for nothing out of step. -/
theorem sendLaw_loadFails {s : State} (idle : s.running = false) (h : SendLaw s) : SendLaw (loadFails s) := by
  have out : s.inStep = false := by
    unfold State.inStep State.running at *
    revert idle
    cases s.member.state <;> decide
  exact sendLaw_of_bus (s := { s with member := { s.member with state := .unconfigured } }) ⟨rfl, rfl⟩ rfl
    (sendLaw_invariant.move .unconfigured out h)

/-- A law that commands and the passing of time keep is kept by every step. -/
theorem stepped_queueLaw {P : State → Prop} (law : QueueInvariant P) (s : State)
    (fails : ∀ u, s.loader.phase = .reading → P u → u.member = s.member → P (loadFails u)) (h : P s) : P s.stepped := by
  unfold State.stepped
  split
  · exact law.after _ fails (law.moved (s := s) ⟨rfl, rfl, rfl, rfl⟩ h)
  · split
    · exact law.after _ fails h
    · exact law.moved (s := s) ⟨rfl, rfl, rfl, rfl⟩ h

/-- Settles O56: each law survives every move of the transmit queue, and the phase decides the rest. -/
theorem transmitQueueLawsKept : Obligations.TransmitQueueLawsKept := by
  unfold Obligations.TransmitQueueLawsKept
  intro s t ran
  have phaseKept : PhaseLaw s → PhaseLaw t :=
    step_keeps (fun _ _ h => h) (fun c s h => after_keepsPhaseLaw c s h) (fun _ h => h) ran
  rw [step_stepped] at ran
  cases ran
  refine ⟨phaseKept, fun law => ?_, fun phase law => ?_, fun law => ?_⟩
  · exact stepped_queueLaw transmitLaw_invariant s (fun u _ h _ => h) law
  · refine stepped_queueLaw sendLaw_invariant s (fun u reading h member => sendLaw_loadFails ?_ h) law
    have running : u.running = s.running := running_of_member (by rw [member])
    rw [running, phase, reading]; rfl
  · exact stepped_queueLaw failureLaw_invariant s (fun u _ h _ => h) law

end Sys2Proof.Machine
end

section
/-! The stage switching rules and the counters with their marks. -/

namespace Sys2Proof.Machine

/-! ## Which stages are wanted -/

/-- The sizes of the wanted stages. -/
def wantedSizes (stages : List Stage) (wanted : List Bool) : Nat :=
  (((stages.zip wanted).filter (·.2)).map (·.1.size)).sum

theorem wantedSizes_cons (g : Stage) (gs : List Stage) (w : Bool) (ws : List Bool) :
    wantedSizes (g :: gs) (w :: ws) = (if w then g.size else 0) + wantedSizes gs ws := by
  cases w <;> simp [wantedSizes]

theorem wantedFrom_cons (target sum : Nat) (g : Stage) (gs : List Stage) :
    wantedFrom target sum (g :: gs) =
      decide (0 < g.size ∧ sum + g.size ≤ target) ::
        wantedFrom target (sum + if decide (0 < g.size ∧ sum + g.size ≤ target) then g.size else 0) gs := by
  by_cases takes : 0 < g.size ∧ sum + g.size ≤ target <;> simp [wantedFrom, takes]

@[simp] theorem wantedFrom_length (target : Nat) :
    ∀ (stages : List Stage) (sum : Nat), (wantedFrom target sum stages).length = stages.length
  | [], _ => rfl
  | g :: gs, sum => by rw [wantedFrom_cons]; simp [wantedFrom_length target gs]

theorem wantedFrom_get (target : Nat) :
    ∀ (stages : List Stage) (sum i : Nat) (g : Stage), stages[i]? = some g →
      (wantedFrom target sum stages)[i]? =
        some (decide (0 < g.size ∧
          sum + ((((stages.zip (wantedFrom target sum stages)).take i).filter (·.2)).map (·.1.size)).sum + g.size ≤
            target))
  | [], _, _, _, found => by simp at found
  | x :: xs, sum, 0, g, found => by
    obtain rfl : x = g := by simpa using found
    rw [wantedFrom_cons]; simp
  | x :: xs, sum, i + 1, g, found => by
    have rest := wantedFrom_get target xs
      (sum + if decide (0 < x.size ∧ sum + x.size ≤ target) then x.size else 0) i g (by simpa using found)
    rw [wantedFrom_cons, List.getElem?_cons_succ, rest, List.zip_cons_cons, List.take_succ_cons]
    cases decide (0 < x.size ∧ sum + x.size ≤ target) <;> simp [Nat.add_assoc]

theorem wantedSizes_le (target : Nat) :
    ∀ (stages : List Stage) (sum : Nat), sum ≤ target → sum + wantedSizes stages (wantedFrom target sum stages) ≤ target
  | [], _, within => by simpa [wantedSizes] using within
  | g :: gs, sum, within => by
    rw [wantedFrom_cons, wantedSizes_cons]
    have rest := wantedSizes_le target gs
      (sum + if decide (0 < g.size ∧ sum + g.size ≤ target) then g.size else 0) (by split <;> simp_all)
    omega

/-! ## The two passes -/

/-- A stage after the two passes: switched off where it is not wanted, on where it is wanted and there is room, and only
with a clear minimum timer. -/
def Stage.regulated (minimum : Nat) (wanted room : Bool) (g : Stage) : Stage :=
  if g.on then (if !wanted && g.timer.isClear then g.switchedOff minimum else g)
  else if wanted && g.timer.isClear && room then g.switchedOn minimum else g

theorem offPass_get (minimum : Nat) :
    ∀ (wanted : List Bool) (stages : List Stage) (i : Nat) (w : Bool) (g : Stage), wanted[i]? = some w →
      stages[i]? = some g →
      (offPass minimum wanted stages)[i]? = some (if !w && g.timer.isClear then g.switchedOff minimum else g)
  | [], _, _, _, _, empty, _ => by simp at empty
  | _ :: _, [], _, _, _, _, empty => by simp at empty
  | v :: vs, x :: xs, 0, w, g, first, found => by
    obtain rfl : v = w := by simpa using first
    obtain rfl : x = g := by simpa using found
    simp [offPass]
  | v :: vs, x :: xs, i + 1, w, g, first, found => by
    simpa [offPass] using offPass_get minimum vs xs i w g (by simpa using first) (by simpa using found)

theorem onPass_get (minimum limit : Nat) :
    ∀ (wanted : List Bool) (stages : List Stage) (load passed i : Nat) (w : Bool) (g : Stage), wanted[i]? = some w →
      stages[i]? = some g → load = passed + loadOf stages →
      (onPass minimum limit load wanted stages)[i]? =
        some (if w && !g.on && g.timer.isClear && decide (passed +
            loadOf ((onPass minimum limit load wanted stages).take i) + loadOf (stages.drop i) + g.size ≤ limit) then
          g.switchedOn minimum else g)
  | [], _, _, _, _, _, _, empty, _, _ => by simp at empty
  | _ :: _, [], _, _, _, _, _, _, empty, _ => by simp at empty
  | v :: vs, x :: xs, load, passed, 0, w, g, first, found, total => by
    obtain rfl : v = w := by simpa using first
    obtain rfl : x = g := by simpa using found
    have empty : loadOf ([] : List Stage) = 0 := rfl
    simp only [onPass, List.take_zero, List.drop_zero, empty, Nat.add_zero, ← total]
    split <;> simp_all
  | v :: vs, x :: xs, load, passed, i + 1, w, g, first, found, total => by
    rw [loadOf_cons] at total
    simp only [List.getElem?_cons_succ] at first found
    unfold onPass
    split
    · rename_i switch
      simp only [Bool.and_eq_true, Bool.not_eq_true'] at switch
      have off : x.load = 0 := by simp [Stage.load, switch.1.1.2]
      have on : (x.switchedOn minimum).load = x.size := rfl
      have rest := onPass_get minimum limit vs xs (load + x.size) (passed + x.size) i w g first found (by omega)
      simpa [loadOf_cons, on, Nat.add_assoc] using rest
    · have rest := onPass_get minimum limit vs xs load (passed + x.load) i w g first found (by omega)
      simpa [loadOf_cons, Nat.add_assoc] using rest

/-- The room that a stage finds in the second pass: with those before it switched and those behind it only switched off. -/
def roomAt (minimum target limit : Nat) (allowed : Bool) (stages : List Stage) (i size : Nat) : Bool :=
  allowed && decide (loadOf ((switched minimum target limit allowed stages).take i) +
    loadOf ((switched minimum target limit false stages).drop i) + size ≤ limit)

theorem switched_get {minimum target limit : Nat} {allowed : Bool} {stages : List Stage} {i : Nat} {g : Stage} {w : Bool}
    (found : stages[i]? = some g) (wanted : (wantedFrom target 0 stages)[i]? = some w) :
    (switched minimum target limit allowed stages)[i]? =
      some (g.regulated minimum w (roomAt minimum target limit allowed stages i g.size)) := by
  have off := offPass_get minimum _ _ i w g wanted found
  unfold roomAt switched
  cases allowed with
  | false =>
    simp only [Bool.false_eq_true, if_false, off, Bool.false_and]
    unfold Stage.regulated Stage.switchedOff
    cases g.on <;> simp
  | true =>
    have on := onPass_get minimum limit _ _ _ 0 i w _ wanted off (by rw [Nat.zero_add])
    simp only [if_true, on, Bool.true_and, Nat.zero_add]
    unfold Stage.regulated
    cases isOn : g.on with
    | false =>
      have same : g.switchedOff minimum = g := by simp [Stage.switchedOff, isOn]
      simp [same, isOn]
    | true =>
      by_cases leaves : (!w && g.timer.isClear) = true
      · have timer : (g.switchedOff minimum).timer.isClear = false := by simp [Stage.switchedOff, isOn, MinTimer.isClear]
        simp [leaves, timer]
      · simp [leaves, isOn]

theorem isClear_iff (m : MinTimer) : m.isClear = true ↔ m = .clear := by cases m <;> simp [MinTimer.isClear]

theorem regulated_of_off {minimum : Nat} {w room : Bool} {g : Stage} (off : g.on = false) :
    ((g.regulated minimum w room).on = true ↔ w = true ∧ g.timer = .clear ∧ room = true) ∧
      ((g.regulated minimum w room).on = true → (g.regulated minimum w room).timer = .afterOn minimum) ∧
      ((g.regulated minimum w room).on = g.on → g.regulated minimum w room = g) := by
  unfold Stage.regulated
  simp only [off, Bool.false_eq_true, if_false, ← isClear_iff]
  split
  · rename_i switch
    simp only [Bool.and_eq_true] at switch
    simp [Stage.switchedOn, switch]
  · rename_i stays
    simp only [Bool.and_eq_true, not_and] at stays
    simp only [off, Bool.false_eq_true, false_iff, false_implies, implies_true, and_true]
    exact fun all => stays ⟨all.1, all.2.1⟩ all.2.2

theorem regulated_of_on {minimum : Nat} {w room : Bool} {g : Stage} (on : g.on = true) :
    ((g.regulated minimum w room).on = false ↔ w = false ∧ g.timer = .clear) ∧
      ((g.regulated minimum w room).on = false → (g.regulated minimum w room).timer = .afterOff minimum) ∧
      ((g.regulated minimum w room).on = g.on → g.regulated minimum w room = g) := by
  unfold Stage.regulated
  simp only [on, if_true, ← isClear_iff]
  split
  · rename_i switch
    simp only [Bool.and_eq_true, Bool.not_eq_true'] at switch
    simp [Stage.switchedOff, on, switch]
  · rename_i stays
    simp only [Bool.and_eq_true, Bool.not_eq_true'] at stays
    simp [on, stays]

theorem regulated_size (minimum : Nat) (w room : Bool) (g : Stage) : (g.regulated minimum w room).size = g.size := by
  unfold Stage.regulated Stage.switchedOff Stage.switchedOn
  (repeat' split) <;> rfl

/-! ## Forced down -/

theorem forcedDown_eq (minimum limit : Nat) :
    ∀ stages : List Stage, ∃ cut, forcedDown minimum limit (loadOf stages) stages =
        (stages.take cut).map (Stage.switchedOff minimum) ++ stages.drop cut ∧
      ∀ j < cut, limit < loadOf (stages.drop j)
  | [] => ⟨0, rfl, fun _ none => absurd none (Nat.not_lt_zero _)⟩
  | g :: gs => by
    unfold forcedDown
    split
    · rename_i exceeded
      obtain ⟨cut, eq, above⟩ := forcedDown_eq minimum limit gs
      refine ⟨cut + 1, ?_, fun j less => ?_⟩
      · rw [show loadOf (g :: gs) - g.load = loadOf gs by rw [loadOf_cons]; omega, eq]
        simp
      · cases j with
        | zero => exact exceeded
        | succ j => exact above j (by omega)
    · exact ⟨0, rfl, fun _ none => absurd none (Nat.not_lt_zero _)⟩

/-- Forced down, the first stages stay and the rest is off; no more of them would fit. -/
theorem forced_eq (minimum limit : Nat) (stages : List Stage) :
    ∃ kept, forced minimum limit stages =
        stages.take kept ++ (stages.drop kept).map (Stage.switchedOff minimum) ∧
      ∀ n, kept < n → n ≤ stages.length → limit < loadOf (stages.take n) := by
  obtain ⟨cut, eq, above⟩ := forcedDown_eq minimum limit stages.reverse
  rw [loadOf_reverse] at eq
  refine ⟨stages.length - cut, ?_, fun n more within => ?_⟩
  · unfold forced
    rw [eq, List.reverse_append, ← List.map_reverse, List.drop_reverse, List.take_reverse, List.reverse_reverse,
      List.reverse_reverse]
  · have exceeded := above (stages.length - n) (by omega)
    rwa [List.drop_reverse, loadOf_reverse, show stages.length - (stages.length - n) = n by omega] at exceeded

/-- Settles O42: each stage's new state from the two passes, the load of the passes and of the forced switching down. -/
theorem stageSwitchingRules : Obligations.StageSwitchingRules := by
  unfold Obligations.StageSwitchingRules
  intro minimum target limit allowed stages
  refine ⟨fun i g found => ?_, fun i g g' found after => ?_, switched_length _ _ _ _ _, loadOf_switched_le, ?_,
    loadOf_forced_le _ _ _, ?_⟩
  · simpa using wantedFrom_get target stages 0 i g found
  · obtain ⟨w, wanted⟩ : ∃ w, (wantedFrom target 0 stages)[i]? = some w := by
      have bound : i < (wantedFrom target 0 stages).length := by
        rw [wantedFrom_length]; exact (List.getElem?_eq_some_iff.mp found).1
      exact ⟨_, List.getElem?_eq_getElem bound⟩
    rw [switched_get found wanted] at after
    obtain rfl := Option.some.inj after
    have room : roomAt minimum target limit allowed stages i g.size = true ↔ allowed = true ∧
        loadOf ((switched minimum target limit allowed stages).take i) +
          loadOf ((switched minimum target limit false stages).drop i) + g.size ≤ limit := by simp [roomAt]
    rw [wanted, Option.some.injEq, Option.some.injEq, ← room]
    cases isOn : g.on with
    | false =>
      obtain ⟨switches, timer, stays⟩ := regulated_of_off (minimum := minimum) (w := w)
        (room := roomAt minimum target limit allowed stages i g.size) isOn
      exact ⟨regulated_size .., isOn ▸ stays, fun _ => ⟨switches, timer⟩, fun on => by cases on⟩
    | true =>
      obtain ⟨switches, timer, stays⟩ := regulated_of_on (minimum := minimum) (w := w)
        (room := roomAt minimum target limit allowed stages i g.size) isOn
      exact ⟨regulated_size .., isOn ▸ stays, (fun off => by cases off), fun _ => ⟨switches, timer⟩⟩
  · simpa [wantedSizes] using wantedSizes_le target stages 0 (Nat.zero_le _)
  · obtain ⟨kept, eq, above⟩ := forced_eq minimum limit stages
    exact ⟨kept, eq, forced_of_le, above⟩

/-! ## Counters and marks -/

theorem toNat_bumped_of_lt {w amount : Nat} {c : BitVec w} (room : c.toNat + amount < 2 ^ w) (freeze : Bool) :
    (bumped freeze amount c).toNat = c.toNat + amount := by
  unfold bumped
  split
  · rename_i full
    simp only [Bool.and_eq_true, decide_eq_true_eq] at full
    rw [BitVec.toNat_allOnes]; omega
  · rw [BitVec.toNat_ofNat, Nat.mod_eq_of_lt room]

theorem bumped_of_le {w amount : Nat} {c : BitVec w} (exceeded : 2 ^ w ≤ c.toNat + amount) :
    bumped true amount c = BitVec.allOnes w ∧ (bumped false amount c).toNat = (c.toNat + amount) % 2 ^ w := by
  refine ⟨?_, ?_⟩
  · simp [bumped, show 2 ^ w ≤ c.toNat + amount + 1 by omega]
  · simp [bumped]

theorem onPage1_iff (k : Counter) : k.onPage1 = true ↔ ¬k.place < 5 := by simp [Counter.onPage1]

/-- How one count marks an attention record. -/
theorem marked_eq (mask : BitVec 9) (k : Counter) (m : Marks) (a : Attention) :
    Attention.marked mask k m a =
      if mask.getLsbD k.place = true then a
      else if k.place < 5 then { a with half0 := a.half0 || m.half, full0 := a.full0 || m.full }
      else { a with half1 := a.half1 || m.half, full1 := a.full1 || m.full } := by
  unfold Attention.marked
  split
  · rfl
  · by_cases page : k.place < 5
    · have first : k.onPage1 = false := Bool.eq_false_iff.mpr fun second => (onPage1_iff k).mp second page
      simp [first, page]
    · simp [(onPage1_iff k).mpr page, page]

@[simp] theorem countIf_counters (happened : Bool) (c : Counter) (s : State) :
    (countIf happened c s).stats.counters =
      if happened = true then s.stats.counters.raised s.loader.vt.counterFreeze c 1 else s.stats.counters := by
  unfold countIf; split <;> rfl

theorem count_counters (c : Counter) (amount : Nat) (s : State) :
    (count c amount s).stats.counters = s.stats.counters.raised s.loader.vt.counterFreeze c amount := rfl

theorem count_kept (c : Counter) (amount : Nat) (s : State) :
    (count c amount s).stats.snapshot = s.stats.snapshot ∧ (count c amount s).stats.request = s.stats.request ∧
      (count c amount s).stats.second = s.stats.second := ⟨rfl, rfl, rfl⟩

theorem countIf_kept (happened : Bool) (c : Counter) (s : State) :
    (countIf happened c s).stats.snapshot = s.stats.snapshot ∧ (countIf happened c s).stats.request = s.stats.request ∧
      (countIf happened c s).stats.second = s.stats.second := by
  unfold countIf; split <;> exact ⟨rfl, rfl, rfl⟩

theorem count_rest (c : Counter) (amount : Nat) (s : State) : { count c amount s with stats := s.stats } = s := rfl

theorem countIf_rest (happened : Bool) (c : Counter) (s : State) : { countIf happened c s with stats := s.stats } = s := by
  unfold countIf; split <;> rfl

/-- What a second counts. -/
theorem countSecond_counters (s : State) :
    (countSecond s).stats.counters =
      { s.stats.counters with
        energy := bumped s.loader.vt.counterFreeze s.stationLoad s.stats.counters.energy
        waitSeconds :=
          if s.ownEntry.isSome = true then bumped s.loader.vt.counterFreeze 1 s.stats.counters.waitSeconds
          else s.stats.counters.waitSeconds
        door0Seconds :=
          if s.doors.door0.isOpen = true then bumped s.loader.vt.counterFreeze 1 s.stats.counters.door0Seconds
          else s.stats.counters.door0Seconds
        door1Seconds :=
          if s.doors.door1.isOpen = true then bumped s.loader.vt.counterFreeze 1 s.stats.counters.door1Seconds
          else s.stats.counters.door1Seconds } := by
  simp only [countSecond, countIf_counters, count_counters, countIf_frame, count_frame, Counters.raised]
  cases s.doors.door0.isOpen <;> cases s.doors.door1.isOpen <;> cases s.ownEntry.isSome <;> rfl

theorem countSecond_kept (s : State) :
    (countSecond s).stats.snapshot = s.stats.snapshot ∧ (countSecond s).stats.request = s.stats.request ∧
      (countSecond s).stats.second = s.stats.second := by
  simp [countSecond, countIf_kept, count_kept]

/-- A state is its fourteen blocks. -/
theorem state_eq {s t : State} (blocks : s.pending = t.pending ∧ s.moment = t.moment ∧ s.pins = t.pins ∧
    s.loader = t.loader ∧ s.table = t.table ∧ s.share = t.share ∧ s.supply = t.supply ∧ s.zone = t.zone ∧
    s.doors = t.doors ∧ s.defrost = t.defrost ∧ s.overrides = t.overrides ∧ s.member = t.member ∧ s.bus = t.bus ∧
    s.stats = t.stats) : s = t := by
  cases s; cases t; simpa using blocks

theorem secondEnds_eq {s : State} (runs : s.stats.second.isSome = true) :
    secondEnds s = noteStatus s (countSecond { s with stats := { s.stats with second := some statisticsPeriod } }) := by
  obtain ⟨n, second⟩ := Option.isSome_iff_exists.mp runs
  simp [secondEnds, second]

/-- The second counts, opens the next one and touches nothing else but a status request. -/
theorem secondEnds_effect {s : State} (runs : s.stats.second.isSome = true) :
    (secondEnds s).stats.second = some 1000 ∧ (secondEnds s).stats.counters = (countSecond s).stats.counters ∧
      (secondEnds s).stats.snapshot = s.stats.snapshot ∧ (secondEnds s).stats.request = s.stats.request ∧
      { secondEnds s with stats := s.stats, bus := s.bus } = s := by
  have kept := countSecond_kept { s with stats := { s.stats with second := some statisticsPeriod } }
  rw [secondEnds_eq runs]
  simp only [noteStatus_frame]
  refine ⟨kept.2.2, ?_, kept.1, kept.2.1, state_eq (by simp [countSecond])⟩
  rw [countSecond_counters, countSecond_counters]; rfl

/-- Settles O47: one count by its range, the marks by the mask and the page, the second by its four counts. -/
theorem countersMarksAndTheSecond : Obligations.CountersMarksAndTheSecond := by
  unfold Obligations.CountersMarksAndTheSecond
  refine ⟨fun w amount c => ⟨fun freeze room => toNat_bumped_of_lt room freeze, bumped_of_le, fun freeze => ?_, ?_, ?_⟩,
    fun vt k amount st => ⟨marked_eq .., ?_, rfl, rfl⟩, fun s running runs => ?_⟩
  · simp [marksOf]
  · simp [marksOf]
  · simp [marksOf]
  · show st.inFlight.map _ = st.inFlight.map _
    congr 1
    funext f
    rw [marked_eq]
  · obtain ⟨second, counters, snapshot, request, rest⟩ := secondEnds_effect (s := nextMoment s) runs
    refine ⟨_, exec_after .statisticsSecond s, ?_⟩
    rw [show s.after .statisticsSecond = secondEnds (nextMoment s) from whenRunning_of _ (nextMoment s) running]
    refine ⟨second, counters.trans (countSecond_counters (nextMoment s)), snapshot, request, ?_⟩
    exact (congrArg (fun u : State => { u with moment := s.moment }) rest :)

end Sys2Proof.Machine
end

section
/-! The frame on the line: what is stuffed is taken back, and every fault of a stuffed line is found. -/

namespace Sys2Proof.Machine

/-! ## Numbers and bytes as bits -/

theorem numberOf_append (x : List Bool) (b : Bool) : numberOf (x ++ [b]) = 2 * numberOf x + if b then 1 else 0 := by
  simp [numberOf, List.foldl_append]

@[simp] theorem bitsOf_length : ∀ width n : Nat, (bitsOf width n).length = width
  | 0, _ => rfl
  | width + 1, n => by simp [bitsOf, bitsOf_length width]

theorem numberOf_bitsOf : ∀ width n : Nat, numberOf (bitsOf width n) = n % 2 ^ width
  | 0, n => by simp [bitsOf, numberOf, Nat.mod_one]
  | width + 1, n => by
    rw [bitsOf, numberOf_append, numberOf_bitsOf width, Nat.pow_succ, Nat.mul_comm (2 ^ width) 2, Nat.mod_mul]
    obtain even | odd := Nat.mod_two_eq_zero_or_one n
    · simp [even]
    · simp [odd]; omega

theorem ofNat_numberOf_bitsOf {width : Nat} (b : BitVec width) : BitVec.ofNat width (numberOf (bitsOf width b.toNat)) = b := by
  rw [numberOf_bitsOf, Nat.mod_eq_of_lt b.isLt]; simp

theorem byteBits_cons (b : Byte) (bytes : List Byte) : byteBits (b :: bytes) = bitsOf 8 b.toNat ++ byteBits bytes := by
  simp [byteBits]

@[simp] theorem byteBits_length : ∀ bytes : List Byte, (byteBits bytes).length = 8 * bytes.length
  | [] => rfl
  | b :: bytes => by rw [byteBits_cons, List.length_append, bitsOf_length, byteBits_length bytes, List.length_cons]; omega

theorem bytesFrom_byteBits : ∀ bytes : List Byte, bytesFrom bytes.length (byteBits bytes) = bytes
  | [] => rfl
  | b :: bytes => by
    rw [byteBits_cons, List.length_cons, bytesFrom, List.take_left' (bitsOf_length 8 _),
      List.drop_left' (bitsOf_length 8 _), bytesFrom_byteBits bytes]
    exact congrArg (· :: bytes) (ofNat_numberOf_bitsOf b)

/-! ## Stuffing from any state of the line -/

/-- The stuffed bits that follow when the line's last `run` bits were `last`; after five, the stuff bit comes first. -/
def stuffOn (last : Bool) (run : Nat) (bits : List Bool) : List Bool :=
  if run = 5 then (if bits = [] then [] else (!last) :: stuffFrom (!last) 1 bits) else stuffFrom last run bits

/-- Last bit and run length behind plain bits that were stuffed. -/
def stuffState (last : Bool) (run : Nat) : List Bool → Bool × Nat
  | [] => (last, run)
  | b :: bs =>
    if run = 5 then stuffState b (if b = !last then 2 else 1) bs
    else stuffState b (if b = last then run + 1 else 1) bs

/-- Last bit and run length behind bits of the line. -/
def lineRun (last : Bool) (run : Nat) : List Bool → Bool × Nat
  | [] => (last, run)
  | b :: bs => lineRun b (if b = last then run + 1 else 1) bs

@[simp] theorem stuffOn_nil (last : Bool) (run : Nat) : stuffOn last run [] = [] := by
  unfold stuffOn; split <;> rfl

theorem stuff_cons (b : Bool) (bits : List Bool) : stuff (b :: bits) = b :: stuffOn b 1 bits := rfl

theorem stuffFrom_cons (last b : Bool) (run : Nat) (bits : List Bool) :
    stuffFrom last run (b :: bits) = b :: stuffOn b (if b = last then run + 1 else 1) bits := by
  unfold stuffOn
  simp only [stuffFrom]
  by_cases full : (if b = last then run + 1 else 1) = 5
  · by_cases empty : bits = []
    · simp [full, empty, stuffFrom]
    · simp [full, empty]
  · simp [full]

theorem stuffOn_cons_of_five (last b : Bool) (bits : List Bool) :
    stuffOn last 5 (b :: bits) = (!last) :: b :: stuffOn b (if b = !last then 2 else 1) bits := by
  rw [stuffOn, if_pos rfl, if_neg (List.cons_ne_nil b bits), stuffFrom_cons]

theorem stuffOn_cons {run : Nat} (room : run ≠ 5) (last b : Bool) (bits : List Bool) :
    stuffOn last run (b :: bits) = b :: stuffOn b (if b = last then run + 1 else 1) bits := by
  rw [stuffOn, if_neg room, stuffFrom_cons]

theorem stuffState_cons_of_five (last b : Bool) (bits : List Bool) :
    stuffState last 5 (b :: bits) = stuffState b (if b = !last then 2 else 1) bits := by simp [stuffState]

theorem stuffState_cons {run : Nat} (room : run ≠ 5) (last b : Bool) (bits : List Bool) :
    stuffState last run (b :: bits) = stuffState b (if b = last then run + 1 else 1) bits := by simp [stuffState, room]

theorem run_le_of_room {run : Nat} (room : run ≠ 5) (within : run ≤ 5) (b last : Bool) :
    (if b = last then run + 1 else 1) ≤ 5 := by split <;> omega

theorem run_le_of_five (b last : Bool) : (if b = !last then 2 else 1) ≤ 5 := by split <;> omega

/-- Plain bits one after the other are stuffed one after the other. -/
theorem stuffOn_append (more : List Bool) :
    ∀ (bits : List Bool) (last : Bool) (run : Nat),
      stuffOn last run (bits ++ more) =
        stuffOn last run bits ++ stuffOn (stuffState last run bits).1 (stuffState last run bits).2 more
  | [], last, run => by simp [stuffState]
  | b :: bits, last, run => by
    by_cases full : run = 5
    · subst full
      rw [List.cons_append, stuffOn_cons_of_five, stuffOn_cons_of_five, stuffState_cons_of_five,
        stuffOn_append more bits]; rfl
    · rw [List.cons_append, stuffOn_cons full, stuffOn_cons full, stuffState_cons full, stuffOn_append more bits]; rfl

theorem stuffState_le :
    ∀ (bits : List Bool) (last : Bool) (run : Nat), run ≤ 5 → (stuffState last run bits).2 ≤ 5
  | [], _, _, within => within
  | b :: bits, last, run, within => by
    by_cases full : run = 5
    · subst full
      rw [stuffState_cons_of_five]; exact stuffState_le bits _ _ (run_le_of_five b last)
    · rw [stuffState_cons full]; exact stuffState_le bits _ _ (run_le_of_room full within b last)

/-! ## What the receiver takes of a stuffed line -/

theorem takeBits_stuffed (last : Bool) (need : Nat) (rest : List Bool) :
    takeBits (need + 1) last 5 ((!last) :: rest) = takeBits (need + 1) (!last) 1 rest := by
  cases last <;> simp [takeBits]

theorem takeBits_plain {run : Nat} (room : run ≠ 5) (last b : Bool) (need : Nat) (rest : List Bool) :
    takeBits (need + 1) last run (b :: rest) = (takeBits need b (if b = last then run + 1 else 1) rest).cons b := by
  simp [takeBits, room]

theorem takeBits_behind_stuff (last b : Bool) (need : Nat) (rest : List Bool) :
    takeBits (need + 1) last 5 ((!last) :: b :: rest) = (takeBits need b (if b = !last then 2 else 1) rest).cons b := by
  rw [takeBits_stuffed, takeBits_plain (by decide)]

@[simp] theorem takeBits_zero (last : Bool) (run : Nat) (line : List Bool) :
    takeBits 0 last run line = .got [] last run line := by cases line <;> simp [takeBits]

theorem takeBits_stuffOn (rest : List Bool) :
    ∀ (bits : List Bool) (last : Bool) (run : Nat),
      takeBits bits.length last run (stuffOn last run bits ++ rest) =
        .got bits (stuffState last run bits).1 (stuffState last run bits).2 rest
  | [], last, run => by simp [stuffState]
  | b :: bits, last, run => by
    by_cases full : run = 5
    · subst full
      rw [stuffOn_cons_of_five, stuffState_cons_of_five, List.length_cons, List.cons_append, List.cons_append,
        takeBits_behind_stuff, takeBits_stuffOn rest bits]; rfl
    · rw [stuffOn_cons full, stuffState_cons full, List.length_cons, List.cons_append, takeBits_plain full,
        takeBits_stuffOn rest bits]; rfl

theorem takeBits_stuffOn_short :
    ∀ (bits : List Bool) (last : Bool) (run need : Nat), bits.length < need →
      takeBits need last run (stuffOn last run bits) = .short
  | [], last, run, need, short => by
    rw [stuffOn_nil, takeBits, if_neg (Nat.ne_of_gt (by simpa using short))]
  | b :: bits, last, run, need, short => by
    obtain ⟨need, rfl⟩ : ∃ n, need = n + 1 := ⟨need - 1, by omega⟩
    have less : bits.length < need := by simpa using short
    by_cases full : run = 5
    · subst full
      rw [stuffOn_cons_of_five, takeBits_behind_stuff, takeBits_stuffOn_short bits _ _ _ less]; rfl
    · rw [stuffOn_cons full, takeBits_plain full, takeBits_stuffOn_short bits _ _ _ less]; rfl

/-- A sixth equal bit inside a stuffed line is a violation, wherever it comes. -/
theorem takeBits_violation (rest : List Bool) (b : Bool) :
    ∀ (bits : List Bool) (last : Bool) (run j : Nat), run ≤ 5 → j < (stuffOn last run bits).length →
      lineRun last run ((stuffOn last run bits).take j) = (b, 5) →
      takeBits bits.length last run ((stuffOn last run bits).take j ++ b :: rest) = .violation
  | [], _, _, _, _, less, _ => by simp at less
  | x :: bits, last, run, j, within, less, five => by
    by_cases full : run = 5
    · subst full
      rw [stuffOn_cons_of_five] at less five ⊢
      match j with
      | 0 =>
        obtain rfl : last = b := by simpa [lineRun] using five
        simp [takeBits]
      | 1 => cases last <;> simp [lineRun] at five
      | j + 2 =>
        have differs : ((!last) = last) = False := by cases last <;> simp
        simp only [List.take_succ_cons, lineRun, differs, if_false, Nat.reduceAdd] at five ⊢
        rw [List.length_cons, List.cons_append, List.cons_append, takeBits_behind_stuff,
          takeBits_violation rest b bits _ _ j (run_le_of_five x last) (by simpa using less) five]
        rfl
    · rw [stuffOn_cons full] at less five ⊢
      match j with
      | 0 => exact absurd (congrArg Prod.snd five) full
      | j + 1 =>
        simp only [List.take_succ_cons, lineRun] at five ⊢
        rw [List.length_cons, List.cons_append, takeBits_plain full,
          takeBits_violation rest b bits _ _ j (run_le_of_room full within x last) (by simpa using less) five]
        rfl

/-! ## No six equal bits -/

theorem lineRun_stuffOn :
    ∀ (bits : List Bool) (last : Bool) (run : Nat),
      lineRun last run (stuffOn last run bits) = stuffState last run bits
  | [], _, _ => by simp [lineRun, stuffState]
  | b :: bits, last, run => by
    by_cases full : run = 5
    · subst full
      have differs : ((!last) = last) = False := by cases last <;> simp
      rw [stuffOn_cons_of_five, stuffState_cons_of_five, lineRun, lineRun]
      simp only [differs, if_false, Nat.reduceAdd]
      exact lineRun_stuffOn bits _ _
    · rw [stuffOn_cons full, stuffState_cons full, lineRun]
      exact lineRun_stuffOn bits _ _

theorem lineRun_append (y : List Bool) :
    ∀ (x : List Bool) (last : Bool) (run : Nat),
      lineRun last run (x ++ y) = lineRun (lineRun last run x).1 (lineRun last run x).2 y
  | [], _, _ => rfl
  | b :: x, last, run => by rw [List.cons_append, lineRun, lineRun_append y x]; rfl

theorem lineRun_replicate (b : Bool) :
    ∀ (n : Nat) (last : Bool) (run : Nat), (lineRun last run (List.replicate (n + 1) b)).1 = b ∧
      n + 1 ≤ (lineRun last run (List.replicate (n + 1) b)).2 ∧
      (last = b → n + 1 + run ≤ (lineRun last run (List.replicate (n + 1) b)).2)
  | 0, last, run => by
    by_cases same : b = last
    · simp [lineRun, same]; omega
    · simp [lineRun, same]; exact fun eq => absurd eq.symm same
  | n + 1, last, run => by
    rw [List.replicate_succ, lineRun]
    obtain ⟨bit, _, longer⟩ := lineRun_replicate b n b (if b = last then run + 1 else 1)
    have grows := longer rfl
    refine ⟨bit, ?_, fun same => ?_⟩
    · have atLeast : 1 ≤ if b = last then run + 1 else 1 := by split <;> omega
      omega
    · rw [if_pos same.symm] at grows ⊢; omega

theorem lineRun_le :
    ∀ (bits : List Bool) (last : Bool) (run j : Nat), run ≤ 5 → (lineRun last run ((stuffOn last run bits).take j)).2 ≤ 5
  | [], _, _, _, within => by simpa [lineRun] using within
  | x :: bits, last, run, j, within => by
    by_cases full : run = 5
    · subst full
      rw [stuffOn_cons_of_five]
      match j with
      | 0 => exact within
      | 1 => cases last <;> simp [lineRun]
      | j + 2 =>
        have differs : ((!last) = last) = False := by cases last <;> simp
        simp only [List.take_succ_cons, lineRun, differs, if_false, Nat.reduceAdd]
        exact lineRun_le bits _ _ j (run_le_of_five x last)
    · rw [stuffOn_cons full]
      match j with
      | 0 => exact within
      | j + 1 => exact lineRun_le bits _ _ j (run_le_of_room full within x last)

/-- The run behind the beginning of a stuffed line, its first bit counted as the first of a run. -/
theorem lineRun_stuff (b : Bool) (bits : List Bool) (k : Nat) :
    lineRun b 0 ((stuff (b :: bits)).take (k + 1)) = lineRun b 1 ((stuffOn b 1 bits).take k) := by
  simp [stuff_cons, lineRun]

/-- Where the beginning of a stuffed line ends in equal bits, they are five at most. -/
theorem replicate_le_five {b c : Bool} {bits before : List Bool} {k n : Nat}
    (ends : (stuff (b :: bits)).take k = before ++ List.replicate (n + 1) c) :
    n + 1 ≤ 5 ∧ (n + 1 = 5 → lineRun b 1 ((stuffOn b 1 bits).take (k - 1)) = (c, 5)) := by
  have positive : k ≠ 0 := by rintro rfl; simp at ends
  obtain ⟨k, rfl⟩ : ∃ j, k = j + 1 := ⟨k - 1, by omega⟩
  have line := lineRun_stuff b bits k
  rw [ends, lineRun_append] at line
  obtain ⟨bit, long, _⟩ := lineRun_replicate c n (lineRun b 0 before).1 (lineRun b 0 before).2
  rw [line] at bit long
  have bound := lineRun_le bits b 1 k (by decide)
  refine ⟨by omega, fun five => Prod.ext bit ?_⟩
  show (lineRun b 1 ((stuffOn b 1 bits).take k)).2 = 5
  omega

theorem no_six_equal (b : Bool) (bits before after : List Bool) (c : Bool) :
    stuff (b :: bits) ≠ before ++ List.replicate 6 c ++ after := by
  intro six
  have ends : (stuff (b :: bits)).take (before ++ List.replicate 6 c).length = before ++ List.replicate (5 + 1) c := by
    rw [six, List.take_left]
  have bound := (replicate_le_five ends).1
  omega

/-! ## The receiver -/

theorem lengthAccepted_iff (kind n : Nat) : lengthAccepted kind n = true ↔
    (kind ∈ [1, 5, 6, 7] ∧ n = 1) ∨ (kind ∈ [3, 4, 11] ∧ n = 2) ∨ (kind = 2 ∧ n = 12) ∨ (kind = 8 ∧ 1 ≤ n ∧ n ≤ 12) ∨
      (kind ∈ [9, 10] ∧ n = 4) ∨ (kind = 12 ∧ n = 0) ∨ (kind = 13 ∧ n = 3) ∨ ((kind = 0 ∨ 14 ≤ kind) ∧ n ≤ 12) := by
  by_cases small : kind ≤ 13
  · obtain rfl | rfl | rfl | rfl | rfl | rfl | rfl | rfl | rfl | rfl | rfl | rfl | rfl | rfl :
        kind = 0 ∨ kind = 1 ∨ kind = 2 ∨ kind = 3 ∨ kind = 4 ∨ kind = 5 ∨ kind = 6 ∨ kind = 7 ∨ kind = 8 ∨ kind = 9 ∨
          kind = 10 ∨ kind = 11 ∨ kind = 12 ∨ kind = 13 := by omega
    all_goals simp [lengthAccepted]
  · obtain ⟨k, rfl⟩ : ∃ k, kind = k + 14 := ⟨kind - 14, by omega⟩
    simp [lengthAccepted]

theorem lengthAccepted_le {kind n : Nat} (accepted : lengthAccepted kind n = true) : n ≤ 12 := by
  have := (lengthAccepted_iff kind n).mp accepted
  omega

/-- Last bit and run length behind the header of a frame. -/
def headerState (header : List Bool) : Bool × Nat := stuffState false 1 header

theorem stuff_frame (header body : List Bool) :
    stuff (false :: (header ++ body)) =
      false :: (stuffOn false 1 header ++ stuffOn (headerState header).1 (headerState header).2 body) := by
  rw [stuff_cons, stuffOn_append]; rfl

/-- The receiver with a whole header taken. -/
theorem receive_header {header : List Bool} (whole : header.length = 15) (line : List Bool) :
    receive (false :: (stuffOn false 1 header ++ line)) =
      if 12 < numberOf (header.drop 11) then .error .lengthAboveTwelve
      else match takeBits (8 * numberOf (header.drop 11) + 16) (headerState header).1 (headerState header).2 line with
        | .violation => .error .stuffing
        | .short =>
          if lengthAccepted (numberOf ((header.drop 7).take 4)) (numberOf (header.drop 11)) then .incomplete
          else .error .lengthFault
        | .got body _ _ _ =>
          if lengthAccepted (numberOf ((header.drop 7).take 4)) (numberOf (header.drop 11)) then
            checkFrame header body (numberOf (header.drop 11))
          else .error .lengthFault := by
  have taken := takeBits_stuffOn line header false 1
  rw [whole] at taken
  simp only [receive, receiveFields, taken]
  rfl

/-- The receiver with a whole frame taken. -/
theorem receive_frame {header body : List Bool} (whole : header.length = 15)
    (within : numberOf (header.drop 11) ≤ 12) (full : body.length = 8 * numberOf (header.drop 11) + 16) (rest : List Bool) :
    receive (stuff (false :: (header ++ body)) ++ rest) =
      if lengthAccepted (numberOf ((header.drop 7).take 4)) (numberOf (header.drop 11)) then
        checkFrame header body (numberOf (header.drop 11))
      else .error .lengthFault := by
  rw [stuff_frame, List.cons_append, List.append_assoc, receive_header whole, if_neg (by omega), ← full, takeBits_stuffOn]

theorem receive_short {header body : List Bool} (whole : header.length = 15)
    (within : numberOf (header.drop 11) ≤ 12) (short : body.length < 8 * numberOf (header.drop 11) + 16) :
    receive (stuff (false :: (header ++ body))) =
      if lengthAccepted (numberOf ((header.drop 7).take 4)) (numberOf (header.drop 11)) then .incomplete
      else .error .lengthFault := by
  rw [stuff_frame, receive_header whole, if_neg (by omega), takeBits_stuffOn_short _ _ _ _ short]

theorem receive_stuffing {header body rest : List Bool} {k : Nat} {before : List Bool} {b : Bool}
    (whole : header.length = 15) (within : numberOf (header.drop 11) ≤ 12)
    (full : body.length = 8 * numberOf (header.drop 11) + 16) (inside : k < (stuff (false :: (header ++ body))).length)
    (ends : (stuff (false :: (header ++ body))).take k = before ++ List.replicate 5 b) :
    receive ((stuff (false :: (header ++ body))).take k ++ b :: rest) = .error .stuffing := by
  have five := (replicate_le_five (n := 4) ends).2 rfl
  have positive : k ≠ 0 := by rintro rfl; simp at ends
  obtain ⟨k, rfl⟩ : ∃ j, k = j + 1 := ⟨k - 1, by omega⟩
  clear ends
  rw [Nat.add_sub_cancel, stuffOn_append] at five
  rw [stuff_frame] at inside ⊢
  rw [List.take_succ_cons, List.cons_append]
  by_cases inHeader : k < (stuffOn false 1 header).length
  · rw [List.take_append_of_le_length (by omega)] at five ⊢
    have violation := takeBits_violation rest b header false 1 k (by decide) inHeader five
    rw [whole] at violation
    simp only [receive, receiveFields, violation]
  · obtain ⟨j, rfl⟩ : ∃ j, k = (stuffOn false 1 header).length + j := ⟨k - (stuffOn false 1 header).length, by omega⟩
    rw [List.take_length_add_append] at five ⊢
    have bound := stuffState_le header false 1 (by decide)
    rw [lineRun_append, lineRun_stuffOn] at five
    have inBody : j < (stuffOn (headerState header).1 (headerState header).2 body).length := by
      simp only [List.length_cons, List.length_append] at inside; omega
    have violation := takeBits_violation rest b body _ _ j bound inBody five
    rw [full] at violation
    rw [List.append_assoc, receive_header whole, if_neg (by omega)]
    simp only [headerState] at violation ⊢
    rw [violation]

theorem checkFrame_of_differs {header body : List Bool} {n : Nat}
    (differs : body.drop (8 * n) ≠ bitsOf 16 (checkOf (header ++ body.take (8 * n))).toNat) :
    checkFrame header body n = .error .check := by
  unfold checkFrame
  exact if_neg fun same => differs same.symm

/-- The header bits of a frame. -/
def Frame.header (f : Frame) : List Bool :=
  bitsOf 3 f.cls.toNat ++ bitsOf 4 f.address.toNat ++ bitsOf 4 f.kind.toNat ++ bitsOf 4 f.payload.length

theorem Frame.plainBits_eq (f : Frame) :
    f.plainBits = false :: (f.header ++ (byteBits f.payload ++ bitsOf 16 (checkOf f.fieldBits).toNat)) := by
  simp [Frame.plainBits, Frame.fieldBits, Frame.header]

theorem Frame.header_fields {f : Frame} (within : f.payload.length ≤ 12) :
    f.header.length = 15 ∧ BitVec.ofNat 3 (numberOf (f.header.take 3)) = f.cls ∧
      BitVec.ofNat 4 (numberOf ((f.header.drop 3).take 4)) = f.address ∧
      numberOf ((f.header.drop 7).take 4) = f.kind.toNat ∧ numberOf (f.header.drop 11) = f.payload.length := by
  have split : f.header = bitsOf 3 f.cls.toNat ++ (bitsOf 4 f.address.toNat ++ (bitsOf 4 f.kind.toNat ++
      bitsOf 4 f.payload.length)) := by simp [Frame.header]
  have address : f.header.drop 3 = bitsOf 4 f.address.toNat ++ (bitsOf 4 f.kind.toNat ++ bitsOf 4 f.payload.length) := by
    rw [split, List.drop_left' (bitsOf_length 3 _)]
  have kind : f.header.drop 7 = bitsOf 4 f.kind.toNat ++ bitsOf 4 f.payload.length := by
    rw [show 7 = 3 + 4 from rfl, ← List.drop_drop, address, List.drop_left' (bitsOf_length 4 _)]
  have length : f.header.drop 11 = bitsOf 4 f.payload.length := by
    rw [show 11 = 7 + 4 from rfl, ← List.drop_drop, kind, List.drop_left' (bitsOf_length 4 _)]
  refine ⟨by simp [Frame.header], ?_, ?_, ?_, ?_⟩
  · rw [split, List.take_left' (bitsOf_length 3 _), ofNat_numberOf_bitsOf]
  · rw [address, List.take_left' (bitsOf_length 4 _), ofNat_numberOf_bitsOf]
  · rw [kind, List.take_left' (bitsOf_length 4 _), numberOf_bitsOf, Nat.mod_eq_of_lt f.kind.isLt]
  · rw [length, numberOf_bitsOf, Nat.mod_eq_of_lt (by omega)]

/-- The receiver takes back the frame that was sent. -/
theorem receive_bits {f : Frame} (accepted : lengthAccepted f.kind.toNat f.payload.length = true) :
    receive f.bits = .sound f := by
  obtain ⟨whole, cls, address, kind, length⟩ := Frame.header_fields (lengthAccepted_le accepted)
  have fields : f.fieldBits = f.header ++ byteBits f.payload := by simp [Frame.fieldBits, Frame.header]
  have taken : (byteBits f.payload ++ bitsOf 16 (checkOf f.fieldBits).toNat).take (8 * f.payload.length) =
      byteBits f.payload := List.take_left' (byteBits_length _)
  have check : (byteBits f.payload ++ bitsOf 16 (checkOf f.fieldBits).toNat).drop (8 * f.payload.length) =
      bitsOf 16 (checkOf f.fieldBits).toNat := List.drop_left' (byteBits_length _)
  rw [Frame.bits, Frame.plainBits_eq, receive_frame whole (by rw [length]; exact lengthAccepted_le accepted)
    (by simp [length]), kind, length, if_pos accepted]
  unfold checkFrame
  simp only [taken, check, ← fields, if_true, cls, address, kind, bytesFrom_byteBits, BitVec.ofNat_toNat,
    BitVec.setWidth_eq]

/-- Settles O60: stuffing is taken back bit by bit, and each fault shows at the point where the receiver sees it. -/
theorem frameRoundTrip : Obligations.FrameRoundTrip := by
  unfold Obligations.FrameRoundTrip
  refine ⟨fun f accepted => ⟨receive_bits accepted, fun before after b => ?_⟩, lengthAccepted_iff, ?_⟩
  · rw [Frame.plainBits_eq]; exact no_six_equal _ _ _ _ _
  · rintro header body rest kind n whole rfl rfl
    refine ⟨fun long => ?_, fun within rejected short => ?_, fun within rejected full => ?_, fun accepted full differs => ?_,
      fun k before b within full inside ends => receive_stuffing whole within full inside ends⟩
    · have line := receive_header whole rest
      rw [if_pos long] at line
      rwa [stuff_cons, List.cons_append]
    · rw [receive_short whole within short, rejected]; rfl
    · rw [receive_frame whole within full, rejected]; rfl
    · rw [receive_frame whole (lengthAccepted_le accepted) full, if_pos accepted, checkFrame_of_differs differs]

end Sys2Proof.Machine
end

section
/-! What the figures of a station depend on, and what of the transmit queue an evaluation can touch. -/

namespace Sys2Proof.Machine

/-! ## The frame in flight -/

/-- Kind and bulletin of the frame in flight: all of it but its renewal. -/
def State.flight (s : State) : Option (TxKind × Bulletin) := s.bus.inFlight.map (fun f => (f.kind, f.bulletin))

theorem flight_of_bus {s t : State} (inFlight : t.bus.inFlight = s.bus.inFlight) : t.flight = s.flight := by
  simp [State.flight, inFlight]

theorem flying_of_flight {s t : State} (same : t.flight = s.flight) (kind : TxKind) : t.flying kind = s.flying kind := by
  have read : ∀ u : State, u.flying kind = (u.flight.map (fun p => p.1 == kind)).getD false := by
    intro u; unfold State.flying State.flight; cases u.bus.inFlight <;> rfl
  rw [read, read, same]

theorem inFlightReturn_of_flight {s t : State} (same : t.flight = s.flight) : t.inFlightReturn = s.inFlightReturn := by
  have read : ∀ u : State, u.inFlightReturn = (u.flight.map (fun p =>
      match p.2 with
      | .ret n safety => (n.toNat, safety.toNat)
      | _ => (0, 0))).getD (0, 0) := by
    intro u
    unfold State.inFlightReturn State.flight
    cases u.bus.inFlight with
    | none => rfl
    | some f => cases f.bulletin <;> rfl
  rw [read, read, same]

@[simp] theorem flight_queueKind (kind : TxKind) (s : State) : (queueKind kind s).flight = s.flight := by
  unfold queueKind
  (repeat' split)
  · unfold State.flight; cases s.bus.inFlight <;> rfl
  · rfl
  · rfl
  · rfl

@[simp] theorem flight_withdrawKind (kind : TxKind) (s : State) : (withdrawKind kind s).flight = s.flight := by
  unfold withdrawKind
  split
  · unfold State.flight; cases s.bus.inFlight <;> rfl
  · rfl

@[simp] theorem flight_setAside (units : Nat) (s : State) : (setAside units s).flight = s.flight := by
  unfold setAside
  (repeat' split)
  · rfl
  · exact flight_withdrawKind _ _
  · rfl

@[simp] theorem flight_applyBounds (s : State) : (applyBounds s).flight = s.flight := flight_setAside _ _

@[simp] theorem flight_adjustAside (before s : State) : (adjustAside before s).flight = s.flight := by
  unfold adjustAside; (repeat' split) <;> simp

@[simp] theorem flight_claimDecision (s : State) : (claimDecision s).flight = s.flight := by
  unfold claimDecision; (repeat' split) <;> simp

@[simp] theorem flight_triggerReturn (ev : Ev) (before s : State) : (triggerReturn ev before s).flight = s.flight := by
  unfold triggerReturn queueReturn; (repeat' split) <;> simp

@[simp] theorem flight_shareEvaluation (ev : Ev) (before s : State) : (shareEvaluation ev before s).flight = s.flight := by
  unfold shareEvaluation
  simp only [flight_triggerReturn, flight_claimDecision]
  exact (flight_of_bus (s := adjustAside before (applyBounds s)) (by simp)).trans (by simp)

@[simp] theorem flight_evaluate (ev : Ev) (before s : State) : (evaluate ev before s).flight = s.flight := by
  unfold evaluate zoneEvaluation regulate
  (repeat' split)
  · refine (flight_of_bus (s := shareEvaluation ev before (measure ev.periodic s)) (by simp)).trans ?_
    rw [flight_shareEvaluation]; exact flight_of_bus (by simp)
  · refine (flight_of_bus (s := shareEvaluation ev before s) (by simp)).trans ?_
    exact flight_shareEvaluation ev before s
  · rfl

@[simp] theorem flight_settle (s : State) : (settle s).flight = s.flight :=
  (flight_of_bus (s := applyBounds s) (by simp [settle])).trans (flight_applyBounds s)

@[simp] theorem flight_noteStatus (before s : State) : (noteStatus before s).flight = s.flight := by
  unfold noteStatus; split <;> simp

@[simp] theorem flight_checkExpulsion (s : State) : (checkExpulsion s).flight = s.flight := by
  have dropped : (dropSettledExpulsion s).flight = s.flight := by
    unfold dropSettledExpulsion
    (repeat' split)
    · rfl
    · rw [flight_withdrawKind]; rfl
    · rfl
  unfold checkExpulsion proposeExpulsion
  (repeat' split)
  · rw [flight_queueKind]; exact dropped
  · exact dropped
  · exact dropped

@[simp] theorem flight_finishRunning (ev : Ev) (before s : State) : (finishRunning ev before s).flight = s.flight := by
  rw [finishRunning_eq]
  simp only [flight_checkExpulsion, flight_noteStatus]
  refine (flight_of_bus (s := evaluate ev before (settle (s.served ev before))) (by simp)).trans ?_
  rw [flight_evaluate, flight_settle]; exact flight_of_bus (by simp)

@[simp] theorem flight_finish (ev : Ev) (before s : State) : (finish ev before s).flight = s.flight := by
  unfold finish; split <;> simp

/-! ## Requests of other kinds -/

theorem hasTx_of_queue {s t : State} (queue : t.bus.queue = s.bus.queue) (kind : TxKind) : t.hasTx kind = s.hasTx kind := by
  simp [State.hasTx, queue]

theorem hasTx_queueKind_other {kind other : TxKind} (ne : kind ≠ other) (s : State) :
    (queueKind kind s).hasTx other = s.hasTx other := by
  unfold queueKind
  (repeat' split)
  · rfl
  · rfl
  · simp [State.hasTx, ne]
  · rfl

theorem hasTx_withdrawKind_other {kind other : TxKind} (ne : kind ≠ other) (s : State) :
    (withdrawKind kind s).hasTx other = s.hasTx other := by
  unfold withdrawKind
  split
  · rfl
  · simp only [State.hasTx, List.any_filter]
    congr 1
    funext e
    by_cases same : e.kind = other
    · simp [same, ne.symm]
    · simp [same]

theorem hasTx_setAside {kind : TxKind} (ne : kind ≠ .ret) (units : Nat) (s : State) :
    (setAside units s).hasTx kind = s.hasTx kind := by
  unfold setAside
  (repeat' split)
  · rfl
  · exact hasTx_withdrawKind_other ne.symm _
  · rfl

theorem hasTx_applyBounds {kind : TxKind} (ne : kind ≠ .ret) (s : State) : (applyBounds s).hasTx kind = s.hasTx kind :=
  hasTx_setAside ne _ _

theorem hasTx_adjustAside {kind : TxKind} (ne : kind ≠ .ret) (before s : State) :
    (adjustAside before s).hasTx kind = s.hasTx kind := by
  unfold adjustAside
  (repeat' split)
  · exact hasTx_setAside ne _ _
  · exact hasTx_setAside ne _ _
  · rfl

theorem hasTx_claimDecision {kind : TxKind} (ne : kind ≠ .claim) (s : State) : (claimDecision s).hasTx kind = s.hasTx kind := by
  unfold claimDecision
  (repeat' split)
  · exact hasTx_withdrawKind_other ne.symm _
  · exact hasTx_queueKind_other ne.symm _
  · exact hasTx_withdrawKind_other ne.symm _
  · exact hasTx_queueKind_other ne.symm _
  · exact hasTx_withdrawKind_other ne.symm _
  · exact hasTx_queueKind_other ne.symm _

theorem hasTx_triggerReturn {kind : TxKind} (ne : kind ≠ .ret) (ev : Ev) (before s : State) :
    (triggerReturn ev before s).hasTx kind = s.hasTx kind := by
  unfold triggerReturn queueReturn
  (repeat' split)
  · exact hasTx_queueKind_other ne.symm _
  · rfl
  · rfl

theorem hasTx_shareEvaluation {kind : TxKind} (claim : kind ≠ .claim) (ret : kind ≠ .ret) (ev : Ev) (before s : State) :
    (shareEvaluation ev before s).hasTx kind = s.hasTx kind := by
  unfold shareEvaluation
  rw [hasTx_triggerReturn ret, hasTx_claimDecision claim,
    hasTx_of_queue (s := adjustAside before (applyBounds s)) (by simp), hasTx_adjustAside ret, hasTx_applyBounds ret]

theorem hasTx_evaluate {kind : TxKind} (claim : kind ≠ .claim) (ret : kind ≠ .ret) (ev : Ev) (before s : State) :
    (evaluate ev before s).hasTx kind = s.hasTx kind := by
  unfold evaluate zoneEvaluation regulate
  (repeat' split)
  · rw [hasTx_of_queue (s := shareEvaluation ev before (measure ev.periodic s)) (by simp), hasTx_shareEvaluation claim ret]
    exact hasTx_of_queue (by simp) kind
  · rw [hasTx_of_queue (s := shareEvaluation ev before s) (by simp), hasTx_shareEvaluation claim ret]
  · rfl

theorem hasTx_settle {kind : TxKind} (ret : kind ≠ .ret) (s : State) : (settle s).hasTx kind = s.hasTx kind :=
  (hasTx_of_queue (s := applyBounds s) (by simp [settle]) kind).trans (hasTx_applyBounds ret s)

theorem hasTx_noteStatus {kind : TxKind} (ne : kind ≠ .status) (before s : State) :
    (noteStatus before s).hasTx kind = s.hasTx kind := by
  unfold noteStatus
  split
  · exact hasTx_queueKind_other ne.symm _
  · rfl

theorem hasTx_checkExpulsion {kind : TxKind} (ne : kind ≠ .expel) (s : State) :
    (checkExpulsion s).hasTx kind = s.hasTx kind := by
  have dropped : (dropSettledExpulsion s).hasTx kind = s.hasTx kind := by
    unfold dropSettledExpulsion
    (repeat' split)
    · rfl
    · exact hasTx_withdrawKind_other ne.symm _
    · rfl
  unfold checkExpulsion proposeExpulsion
  (repeat' split)
  · exact (hasTx_queueKind_other ne.symm _).trans dropped
  · exact dropped
  · exact dropped

/-- An evaluation asks for and withdraws CLAIM, RETURN, STATUS and EXPEL; the other kinds stand. -/
theorem hasTx_finish {kind : TxKind} (other : kind ∉ [TxKind.claim, .ret, .status, .expel]) (ev : Ev) (before s : State) :
    (finish ev before s).hasTx kind = s.hasTx kind := by
  simp only [List.mem_cons, List.not_mem_nil, or_false, not_or] at other
  obtain ⟨claim, ret, status, expel⟩ := other
  unfold finish
  split
  · rw [finishRunning_eq, hasTx_checkExpulsion expel, hasTx_noteStatus status,
      hasTx_of_queue (s := evaluate ev before (settle (s.served ev before))) (by simp), hasTx_evaluate claim ret,
      hasTx_settle ret]
    exact hasTx_of_queue (by simp) kind
  · rfl

/-! ## Figures -/

/-- The two states differ in nothing that a station's figures are made of, but for shares, stages on and the bus. -/
structure SameFigures (s t : State) : Prop where
  loader : t.loader = s.loader
  table : t.table = s.table
  supply : t.supply = s.supply
  doors : t.doors = s.doors
  defrost : t.defrost = s.defrost
  overrides : t.overrides = s.overrides
  member : t.member.state = s.member.state
  sizes : t.zone.stages.map (·.size) = s.zone.stages.map (·.size)

namespace SameFigures
variable {s t u : State}

theorem refl (s : State) : SameFigures s s := ⟨rfl, rfl, rfl, rfl, rfl, rfl, rfl, rfl⟩

theorem symm (same : SameFigures s t) : SameFigures t s :=
  ⟨same.loader.symm, same.table.symm, same.supply.symm, same.doors.symm, same.defrost.symm, same.overrides.symm,
    same.member.symm, same.sizes.symm⟩

theorem trans (first : SameFigures s t) (last : SameFigures t u) : SameFigures s u :=
  ⟨last.loader.trans first.loader, last.table.trans first.table, last.supply.trans first.supply,
    last.doors.trans first.doors, last.defrost.trans first.defrost, last.overrides.trans first.overrides,
    last.member.trans first.member, last.sizes.trans first.sizes⟩

theorem me (same : SameFigures s t) : t.me = s.me := me_of_loader same.loader
theorem entry (same : SameFigures s t) : t.entry = s.entry := by simp only [State.entry, State.me, same.loader]
theorem isCab (same : SameFigures s t) : t.isCab = s.isCab := by simp only [State.isCab, same.entry]
theorem ownRow (same : SameFigures s t) : t.ownRow = s.ownRow := by simp only [State.ownRow, same.me, same.table]
theorem ownEntry (same : SameFigures s t) : t.ownEntry = s.ownEntry := by simp only [State.ownEntry, same.me, same.table]
theorem usable (same : SameFigures s t) : t.usable = s.usable := by simp only [State.usable, same.ownRow, same.table]
theorem live (same : SameFigures s t) : t.live = s.live := by simp only [State.live, same.supply]
theorem inStep (same : SameFigures s t) : t.inStep = s.inStep := by simp only [State.inStep, same.member]
theorem running (same : SameFigures s t) : t.running = s.running := running_of_member same.member
theorem capacity (same : SameFigures s t) : t.capacity = s.capacity := by simp only [State.capacity, same.sizes]
theorem factor (same : SameFigures s t) : t.factor = s.factor := by simp only [State.factor, same.doors]
theorem boostActive (same : SameFigures s t) : t.boostActive = s.boostActive := by
  simp only [State.boostActive, same.doors]
theorem boost (same : SameFigures s t) : t.boost = s.boost := by
  simp only [State.boost, same.boostActive, same.capacity, same.entry, same.factor]
theorem spillFigure (same : SameFigures s t) : t.spillFigure = s.spillFigure := by
  simp only [State.spillFigure, same.doors, same.entry, same.factor]
theorem draftActive (same : SameFigures s t) : t.draftActive = s.draftActive := by
  simp only [State.draftActive, same.boostActive, same.doors]
theorem safetyHeld (same : SameFigures s t) : t.safetyHeld = s.safetyHeld := by simp only [State.safetyHeld, same.ownRow]
theorem request (same : SameFigures s t) : t.request = s.request := by
  simp only [State.request, same.isCab, same.defrost, same.loader]
theorem safetyKept (same : SameFigures s t) : t.safetyKept = s.safetyKept := by
  simp only [State.safetyKept, same.isCab, same.defrost, same.loader]
theorem claimFigure (same : SameFigures s t) : t.claimFigure = s.claimFigure := by
  simp only [State.claimFigure, same.isCab, same.defrost, same.loader, same.safetyHeld]
theorem releasedSafety (same : SameFigures s t) : t.releasedSafety = s.releasedSafety := by
  simp only [State.releasedSafety, same.ownRow, same.safetyKept]
theorem loadsAllowed (same : SameFigures s t) : t.loadsAllowed = s.loadsAllowed := by
  simp only [State.loadsAllowed, same.live, same.running, same.member]
theorem gapPaused (same : SameFigures s t) : t.gapPaused = s.gapPaused := by
  simp only [State.gapPaused, same.supply, same.defrost]
theorem ownEntrySafety (same : SameFigures s t) : t.ownEntrySafety = s.ownEntrySafety := by
  simp only [State.ownEntrySafety, same.ownEntry]
theorem entryStands (same : SameFigures s t) : t.entryStands = s.entryStands := by
  simp only [State.entryStands, same.gapPaused, same.ownEntrySafety]
theorem airRank (same : SameFigures s t) : t.airRank = s.airRank := by simp only [State.airRank, same.draftActive]

end SameFigures

/-- The figures of the share unit are the same too: shares and what of a RETURN is in flight. -/
structure SameShares (s t : State) : Prop extends SameFigures s t where
  aside : t.share.aside = s.share.aside
  commit : t.share.commit = s.share.commit
  leaseExpired : t.share.leaseExpired = s.share.leaseExpired
  base : t.zone.base = s.zone.base
  flight : t.flight = s.flight

namespace SameShares
variable {s t u : State}

theorem refl (s : State) : SameShares s s := ⟨.refl s, rfl, rfl, rfl, rfl, rfl⟩

theorem symm (same : SameShares s t) : SameShares t s :=
  ⟨same.toSameFigures.symm, same.aside.symm, same.commit.symm, same.leaseExpired.symm, same.base.symm, same.flight.symm⟩

theorem trans (first : SameShares s t) (last : SameShares t u) : SameShares s u :=
  ⟨first.toSameFigures.trans last.toSameFigures, last.aside.trans first.aside, last.commit.trans first.commit,
    last.leaseExpired.trans first.leaseExpired, last.base.trans first.base, last.flight.trans first.flight⟩

theorem borrowedCounts (same : SameShares s t) : t.borrowedCounts = s.borrowedCounts := by
  simp only [State.borrowedCounts, same.inStep, same.leaseExpired]
theorem spendable (same : SameShares s t) : t.spendable = s.spendable := by
  simp only [State.spendable, same.borrowedCounts, same.usable, same.ownRow, same.aside]
theorem airLimit (same : SameShares s t) : t.airLimit = s.airLimit := by
  simp only [State.airLimit, same.spendable, same.request]
theorem asideFloor (same : SameShares s t) : t.asideFloor = s.asideFloor := by
  simp only [State.asideFloor, same.ownRow, same.commit, same.releasedSafety]
theorem reclaimable (same : SameShares s t) : t.reclaimable = s.reclaimable := by
  simp only [State.reclaimable, same.aside, same.asideFloor, inFlightReturn_of_flight same.flight]
theorem wanted (same : SameShares s t) : t.wanted = s.wanted := by
  simp only [State.wanted, same.capacity, same.base, same.boost, same.spillFigure, same.request]
theorem keptInGap (same : SameShares s t) : t.keptInGap = s.keptInGap := by
  simp only [State.keptInGap, same.gapPaused, same.safetyKept, same.safetyHeld, same.ownRow, same.aside]
theorem defrostLoad (same : SameShares s t) : t.defrostLoad = s.defrostLoad := by
  simp only [State.defrostLoad, same.loadsAllowed, same.request, same.spendable]
theorem stationLoad (same : SameShares s t) (stages : t.zone.stages = s.zone.stages) : t.stationLoad = s.stationLoad := by
  simp only [State.stationLoad, State.airLoad, same.defrostLoad, stages]
theorem wish (same : SameShares s t) (mode : t.zone.mode = s.zone.mode) : t.wish = s.wish := by
  simp only [State.wish, same.supply, same.claimFigure, same.ownEntrySafety, same.airRank, State.normalBarred,
    same.overrides, mode, same.wanted, same.spendable, same.reclaimable]
  rfl
theorem boundCommit (same : SameShares s t) : t.boundCommit = s.boundCommit := by
  simp only [State.boundCommit, same.supply, same.ownRow, same.commit]
theorem boundAside (same : SameShares s t) : t.boundAside = s.boundAside := by
  simp only [State.boundAside, same.supply, same.member, same.ownRow, same.aside, same.asideFloor]

end SameShares

end Sys2Proof.Machine
end

section
/-! An evaluation, from the state that the event left to the state that the command leaves: shares, claim, return, measured
zone and stages. -/

namespace Sys2Proof.Machine

/-! ## Units aside -/

theorem setAside_share (units : Nat) (s : State) :
    (setAside units s).share =
      { s.share with
        aside := units
        returnTimer :=
          if s.share.aside = 0 ∧ 0 < units then .running s.loader.vt.returnTimer
          else if 0 < s.share.aside ∧ units = 0 then .stopped
          else s.share.returnTimer } := by
  unfold setAside
  (repeat' split)
  · rfl
  · rename_i empties
    simp [empties.2]
  · rfl

theorem setAside_share_same {units : Nat} {s : State} (same : units = s.share.aside) : (setAside units s).share = s.share := by
  rw [setAside_share, same, if_neg (by omega), if_neg (by omega)]

theorem setAside_share_congr (units : Nat) {s t : State} (loader : t.loader = s.loader) (share : t.share = s.share) :
    (setAside units t).share = (setAside units s).share := by simp only [setAside_share, loader, share]

/-- Commitment and units aside behind the bounds. -/
theorem applyBounds_share (s : State) :
    (applyBounds s).share = (setAside (setCommit s.boundCommit s).boundAside (setCommit s.boundCommit s)).share := rfl

/-- What the bounds ask for is the same wherever the figures and the shares are. -/
theorem applyBounds_share_congr {s t : State} (same : SameFigures s t) (share : t.share = s.share) :
    (applyBounds t).share = (applyBounds s).share := by
  have commit : t.boundCommit = s.boundCommit := by simp only [State.boundCommit, same.supply, same.ownRow, share]
  have aside : (setCommit t.boundCommit t).boundAside = (setCommit s.boundCommit s).boundAside := by
    simp only [State.boundAside, State.asideFloor, setCommit_frame, same.supply, same.member]
    show (if s.supply.state = .shed ∨ s.member.state = .mismatched then t.ownRow.borrowed
      else max (min t.share.aside t.ownRow.borrowed) (max t.ownRow.owed (max t.boundCommit t.releasedSafety))) = _
    rw [same.ownRow, same.releasedSafety, share, commit]; rfl
  rw [applyBounds_share, applyBounds_share, aside]
  exact setAside_share_congr _ same.loader (by simp only [setCommit, share, commit])

theorem sameFigures_applyBounds (s : State) : SameFigures s (applyBounds s) :=
  ⟨by simp, by simp, by simp, by simp, by simp, by simp, by simp, by simp⟩

/-- Bounds that have been applied ask for nothing more. -/
theorem applyBounds_share_again {p w : State} (same : SameFigures p w) (share : w.share = (applyBounds p).share) :
    (applyBounds w).share = w.share := by
  have commit : w.boundCommit = w.share.commit := by
    simp only [State.boundCommit, same.supply, same.ownRow, share, applyBounds_commit]
    split <;> simp
  have floor : w.asideFloor = (setCommit p.boundCommit p).asideFloor := by
    simp only [State.asideFloor, same.ownRow, same.releasedSafety, share, applyBounds_commit]; rfl
  have aside : w.boundAside = w.share.aside := by
    simp only [State.boundAside, same.supply, same.member, same.ownRow, floor]
    rw [share, applyBounds_aside]
    simp only [State.boundAside, setCommit_frame]
    split
    · rfl
    · show max (min (max (min (setCommit p.boundCommit p).share.aside p.ownRow.borrowed) _) p.ownRow.borrowed) _ =
        max (min (setCommit p.boundCommit p).share.aside p.ownRow.borrowed) _
      omega
  have settled : setCommit w.boundCommit w = w := by rw [commit]; rfl
  rw [applyBounds_share, settled]
  exact setAside_share_same aside

/-- What is set aside and reclaimed is the same wherever figures, shares and stages are. -/
theorem adjustAside_share_congr {r r' s t : State} (same : SameShares s t) (share : t.share = s.share)
    (stages : t.zone.stages = s.zone.stages) (gap : gapBegins r' t = gapBegins r s) :
    (adjustAside r' t).share = (adjustAside r s).share := by
  unfold adjustAside
  simp only [same.borrowedCounts, gap, same.spendable, same.wanted, same.reclaimable, same.keptInGap, same.ownRow,
    same.stationLoad stages, same.aside]
  (repeat' split)
  · exact setAside_share_congr _ same.loader share
  · exact setAside_share_congr _ same.loader share
  · exact share

/-! ## The state that a statement names -/

/-- `e` stands for what the event left: its figures, its shares, its stages and its frame in flight. -/
structure StandsFor (e p : State) : Prop where
  figures : SameFigures p e
  share : e.share = p.share
  stages : e.zone.stages = p.zone.stages
  flight : e.flight = p.flight

theorem cutStages_eq {s : State} (running : s.running = true) :
    (cutStages s).zone =
      { s.zone with
        stages :=
          if s.live = true ∧ s.member.state ≠ .clash then forced s.loader.vt.stageMinimum s.airLimit s.zone.stages
          else s.zone.stages.map (Stage.switchedOff s.loader.vt.stageMinimum) } := by
  unfold cutStages
  by_cases allowed : s.live = true ∧ s.member.state ≠ .clash
  · have loads : s.loadsAllowed = true := by simp [State.loadsAllowed, running, allowed.1, allowed.2]
    rw [if_pos loads, if_pos allowed]; rfl
  · have bars : ¬s.loadsAllowed = true := by
      intro loads
      simp only [State.loadsAllowed, running, Bool.and_true, Bool.and_eq_true, bne_iff_ne] at loads
      exact allowed loads
    rw [if_neg bars, if_neg allowed]; rfl

theorem sameShares_applyBounds_of {e p : State} (stands : StandsFor e p) (base : e.zone.base = p.zone.base) :
    SameShares (applyBounds p) (applyBounds e) where
  toSameFigures := ((sameFigures_applyBounds p).symm.trans stands.figures).trans (sameFigures_applyBounds e)
  aside := by rw [applyBounds_share_congr stands.figures stands.share]
  commit := by rw [applyBounds_share_congr stands.figures stands.share]
  leaseExpired := by rw [applyBounds_share_congr stands.figures stands.share]
  base := by simpa using base
  flight := by simpa using stands.flight

theorem airLimit_applyBounds {e p : State} (stands : StandsFor e p) : (applyBounds e).airLimit = (applyBounds p).airLimit := by
  have figures : SameFigures (applyBounds p) (applyBounds e) :=
    ((sameFigures_applyBounds p).symm.trans stands.figures).trans (sameFigures_applyBounds e)
  have share := applyBounds_share_congr stands.figures stands.share
  simp only [State.airLimit, State.spendable, State.borrowedCounts, figures.inStep, figures.usable, figures.ownRow,
    figures.request, share]
  rfl

/-- The stages behind the first cut, as the statement writes them. -/
theorem settle_stages {e p : State} (running : p.running = true) (stands : StandsFor e p) :
    (settle p).zone.stages = e.stagesCut := by
  have runs : (applyBounds p).running = true := (running_of_member (by simp)).trans running
  unfold settle
  rw [cutStages_eq runs]
  unfold State.stagesCut
  have live : e.live = (applyBounds p).live := by simp [State.live, stands.figures.supply]
  have member : e.member.state = (applyBounds p).member.state := by simp [stands.figures.member]
  have minimum : e.loader.vt.stageMinimum = (applyBounds p).loader.vt.stageMinimum := by simp [stands.figures.loader]
  have stages : e.zone.stages = (applyBounds p).zone.stages := by simp [stands.stages]
  rw [live, member, minimum, stages, airLimit_applyBounds stands]
  rfl

theorem sizes_switchedOff (minimum : Nat) (stages : List Stage) :
    (stages.map (Stage.switchedOff minimum)).map (·.size) = stages.map (·.size) := by
  rw [List.map_map]
  refine List.map_congr_left fun g _ => ?_
  simp only [Function.comp, Stage.switchedOff]
  split <;> rfl

theorem sizes_forced (minimum limit : Nat) (stages : List Stage) :
    (forced minimum limit stages).map (·.size) = stages.map (·.size) := by
  obtain ⟨kept, eq, _⟩ := forced_eq minimum limit stages
  rw [eq, List.map_append, sizes_switchedOff, ← List.map_append, List.take_append_drop]

theorem sizes_switched (minimum target limit : Nat) (allowed : Bool) (stages : List Stage) :
    (switched minimum target limit allowed stages).map (·.size) = stages.map (·.size) := by
  refine List.ext_getElem? fun i => ?_
  rw [List.getElem?_map, List.getElem?_map]
  cases found : stages[i]? with
  | none =>
    have out : stages.length ≤ i := List.getElem?_eq_none_iff.mp found
    rw [List.getElem?_eq_none (by rw [switched_length]; exact out)]
  | some g =>
    have bound : i < (wantedFrom target 0 stages).length := by
      rw [wantedFrom_length]; exact (List.getElem?_eq_some_iff.mp found).1
    rw [switched_get found (List.getElem?_eq_getElem bound)]
    simp [regulated_size]

theorem sizes_cutStages (s : State) : (cutStages s).zone.stages.map (·.size) = s.zone.stages.map (·.size) := by
  unfold cutStages
  split
  · exact sizes_forced _ _ _
  · exact sizes_switchedOff _ _

theorem sizes_switchStages (s : State) : (switchStages s).zone.stages.map (·.size) = s.zone.stages.map (·.size) :=
  sizes_switched _ _ _ _ _

theorem sameFigures_settle (p : State) : SameFigures p (settle p) :=
  ⟨by simp, by simp, by simp, by simp, by simp, by simp, by simp, by
    unfold settle; rw [sizes_cutStages]; simp⟩

theorem sameFigures_measure (periodic : Bool) (q : State) : SameFigures q (measure periodic q) :=
  ⟨by simp, by simp, by simp, by simp, by simp, by simp, by simp, by rw [(measure_stages periodic q).1]⟩

theorem sameFigures_shareEvaluation (ev : Ev) (r w : State) : SameFigures w (shareEvaluation ev r w) :=
  ⟨by simp, by simp, by simp, by simp, by simp, by simp, by simp, by rw [shareEvaluation_zone]⟩

theorem sameFigures_evaluate (ev : Ev) (r q : State) : SameFigures q (evaluate ev r q) := by
  refine ⟨by simp, by simp, by simp, by simp, by simp, by simp, by simp, ?_⟩
  unfold evaluate
  (repeat' split)
  · simp only [zoneEvaluation, regulate_stages, sizes_switchStages, sizes_cutStages, shareEvaluation_zone, measure_stages]
  · rw [sizes_cutStages, shareEvaluation_zone]
  · rfl

@[simp] theorem refreshFan_stages (r s : State) : (refreshFan r s).zone.stages = s.zone.stages := by
  unfold refreshFan; split <;> rfl

/-- The zone behind the evaluation, the fan refreshed. -/
theorem finishRunning_zone_eq (ev : Ev) (r u : State) :
    (finishRunning ev r u).zone = (refreshFan r (evaluate ev r (settle (u.served ev r)))).zone := by
  simp [finishRunning_eq]

/-- The end of a command has the figures of the state in which the defrost unit had looked at the event. -/
theorem sameFigures_finishRunning (ev : Ev) (r u : State) : SameFigures (u.served ev r) (finishRunning ev r u) := by
  have evaluated := (sameFigures_settle (u.served ev r)).trans (sameFigures_evaluate ev r (settle (u.served ev r)))
  refine evaluated.trans ⟨?_, ?_, ?_, ?_, ?_, ?_, ?_, ?_⟩ <;> simp [finishRunning_eq]

end Sys2Proof.Machine
end

section
/-! The decisions of an evaluation: units aside, claim and return. -/

namespace Sys2Proof.Machine

/-! ## The claim follows the wish -/

theorem claimDecision_rest (s : State) : { claimDecision s with bus := s.bus } = s := state_eq (by simp)

theorem withdrawKind_not_queued {kind : TxKind} {s : State} (grounded : (withdrawKind kind s).flying kind = false) :
    (withdrawKind kind s).hasTx kind = false := withdrawKind_gone kind s (by simpa using grounded)

theorem claimDecision_follows (s : State) : ClaimFollowsWish (claimDecision s) := by
  have same : SameFigures s (claimDecision s) := ⟨by simp, by simp, by simp, by simp, by simp, by simp, by simp, by simp⟩
  have matching : (claimDecision s).wishMatches = s.wishMatches := by
    simp only [State.wishMatches, same.ownEntry, claimDecision_share]
  unfold ClaimFollowsWish
  simp only [matching, same.entryStands, same.member, claimDecision_share, same.live, same.table]
  unfold claimDecision
  by_cases out : (!s.inStep || s.wishMatches || s.entryStands) = true
  · rw [if_pos out]
    refine ⟨fun _ => withdrawKind_not_queued, fun inStep differs moves => ?_⟩
    have inside : s.inStep = true := by simp [State.inStep, inStep]
    simp [inside, differs, moves] at out
  · rw [if_neg out]
    simp only [Bool.or_eq_true, Bool.not_eq_true', not_or, Bool.not_eq_false] at out
    obtain ⟨⟨inStep, differs⟩, moves⟩ := out
    have state : s.member.state = .inStep := by simpa [State.inStep] using inStep
    have accepts : s.acceptsRequests = true := acceptsRequests_of s .inStep state (by decide)
    have queued := queueKind_sending .claim s accepts
    refine ⟨fun excuse => ?_, fun _ _ _ => ?_⟩
    · obtain other | other | other := excuse
      · exact absurd state other
      · exact absurd other differs
      · exact absurd other moves
    · refine ⟨fun none => by rw [if_pos none]; exact queued, fun some => ?_, fun some live lease current => ?_⟩
      · rw [if_neg (by omega)]
        by_cases held : s.wishHeld = true
        · rw [if_pos held]; exact fun _ => withdrawKind_not_queued
        · rw [if_neg held]
          rintro (dead | lapsed | expired | ⟨air, spacing⟩)
          · exact absurd (by simp [State.wishHeld, dead]) held
          · exact absurd (by simp [State.wishHeld, lapsed]) held
          · exact absurd (by simp [State.wishHeld, expired]) held
          · rw [if_neg air, if_pos spacing]; exact withdrawKind_not_queued
      · rw [if_neg (by omega), if_neg (by simp [State.wishHeld, live, lease, current])]
        rintro (safety | free)
        · rw [if_pos safety]; exact queued
        · by_cases safety : s.share.wishRank = .safety
          · rw [if_pos safety]; exact queued
          · rw [if_neg safety, if_neg (by simp [free])]; exact queued

theorem sending_iff_of_queue {s t : State} {kind : TxKind} (queued : t.hasTx kind = s.hasTx kind) (flight : t.flight = s.flight) :
    t.sending kind ↔ s.sending kind := by
  simp only [State.sending, queued, flying_of_flight flight]

/-- What decides the claim is the same in both states. -/
theorem claimFollowsWish_congr {s t : State} (same : SameFigures s t) (share : t.share = s.share)
    (claim : t.hasTx .claim = s.hasTx .claim) (flight : t.flight = s.flight) (h : ClaimFollowsWish s) :
    ClaimFollowsWish t := by
  unfold ClaimFollowsWish at *
  simp only [same.member, same.entryStands, State.wishMatches, same.ownEntry, share, same.live, same.table, claim,
    flying_of_flight flight, sending_iff_of_queue claim flight] at h ⊢
  exact h

/-! ## The share evaluation, seen from the end of the command -/

/-- `t` is the end of a command whose share evaluation ran at `w`, a state with the figures, shares and stages of `q`. -/
structure SharedAt (ev : Ev) (r q w t : State) : Prop where
  before : SameFigures q w
  share : w.share = q.share
  stages : w.zone.stages = q.zone.stages
  flight : w.flight = q.flight
  queue : w.bus.queue = q.bus.queue
  after : SameFigures w t
  base : t.zone.base = w.zone.base
  mode : t.zone.mode = w.zone.mode
  decided : t.share = (shareEvaluation ev r w).share
  queued : ∀ kind ∈ [TxKind.claim, .ret], t.hasTx kind = (shareEvaluation ev r w).hasTx kind
  flown : t.flight = w.flight

@[simp] theorem refreshFan_demand (r s : State) :
    (refreshFan r s).zone.base = s.zone.base ∧ (refreshFan r s).zone.mode = s.zone.mode ∧
      (refreshFan r s).zone.total = s.zone.total ∧ (refreshFan r s).zone.temp = s.zone.temp ∧
      (refreshFan r s).zone.fault = s.zone.fault ∧ (refreshFan r s).zone.pendingFlag = s.zone.pendingFlag ∧
      (refreshFan r s).zone.air0 = s.zone.air0 ∧ (refreshFan r s).zone.air1 = s.zone.air1 ∧
      (refreshFan r s).zone.air2 = s.zone.air2 := by
  unfold refreshFan; split <;> exact ⟨rfl, rfl, rfl, rfl, rfl, rfl, rfl, rfl, rfl⟩

/-- What cutting the stages leaves of the zone: all but the stages. -/
theorem cutStages_rest (s : State) : { (cutStages s).zone with stages := s.zone.stages } = s.zone := by
  unfold cutStages; split <;> rfl

theorem cutStages_base (s : State) : (cutStages s).zone.base = s.zone.base ∧ (cutStages s).zone.mode = s.zone.mode := by
  unfold cutStages; split <;> exact ⟨rfl, rfl⟩

theorem regulate_base (ev : Ev) (r w : State) :
    (regulate ev r w).zone.base = w.zone.base ∧ (regulate ev r w).zone.mode = w.zone.mode := by
  obtain ⟨base, mode⟩ := cutStages_base (shareEvaluation ev r w)
  rw [shareEvaluation_zone] at base mode
  have fan : ∀ s : State, (setFan s).zone.base = s.zone.base ∧ (setFan s).zone.mode = s.zone.mode := fun _ => ⟨rfl, rfl⟩
  have switch : ∀ s : State, (switchStages s).zone.base = s.zone.base ∧ (switchStages s).zone.mode = s.zone.mode :=
    fun _ => ⟨rfl, rfl⟩
  unfold regulate
  rw [(fan _).1, (fan _).2, (switch _).1, (switch _).2]
  exact ⟨base, mode⟩

theorem hasTx_finishRunning {kind : TxKind} (other : kind ∈ [TxKind.claim, .ret]) (ev : Ev) (r u : State) :
    (finishRunning ev r u).hasTx kind = (evaluate ev r (settle (u.served ev r))).hasTx kind := by
  have status : kind ≠ .status := by rintro rfl; simp at other
  have expel : kind ≠ .expel := by rintro rfl; simp at other
  rw [finishRunning_eq, hasTx_checkExpulsion expel, hasTx_noteStatus status]
  exact hasTx_of_queue (by simp) kind

theorem flight_finishRunning_settle (ev : Ev) (r u : State) :
    (finishRunning ev r u).flight = (settle (u.served ev r)).flight := by
  rw [flight_finishRunning, flight_settle]; exact (flight_of_bus (by simp)).symm

theorem sharedAt_zone {ev : Ev} {r u : State} (evaluated : evaluates ev r (settle (u.served ev r)) = true) :
    SharedAt ev r (settle (u.served ev r)) (measure ev.periodic (settle (u.served ev r))) (finishRunning ev r u) := by
  have ran : evaluate ev r (settle (u.served ev r)) = regulate ev r (measure ev.periodic (settle (u.served ev r))) := by
    rw [evaluate, if_pos evaluated]; rfl
  have zone := regulate_base ev r (measure ev.periodic (settle (u.served ev r)))
  refine ⟨sameFigures_measure _ _, by simp, rfl, flight_of_bus (by simp), by simp, ?_, ?_, ?_, ?_, fun kind asked => ?_, ?_⟩
  · exact ((sameFigures_measure _ _).symm.trans (sameFigures_settle _).symm).trans (sameFigures_finishRunning ev r u)
  · rw [finishRunning_zone_eq, (refreshFan_demand _ _).1, ran]; exact zone.1
  · rw [finishRunning_zone_eq, (refreshFan_demand _ _).2.1, ran]; exact zone.2
  · simp [finishRunning_eq, ran, regulate]
  · rw [hasTx_finishRunning asked, ran]; exact hasTx_of_queue (by simp [regulate]) kind
  · rw [flight_finishRunning_settle]; exact flight_of_bus (by simp)

theorem sharedAt_share {ev : Ev} {r u : State} (notZone : evaluates ev r (settle (u.served ev r)) = false)
    (evaluated : evaluatesShare ev r (settle (u.served ev r)) = true) :
    SharedAt ev r (settle (u.served ev r)) (settle (u.served ev r)) (finishRunning ev r u) := by
  have ran : evaluate ev r (settle (u.served ev r)) = cutStages (shareEvaluation ev r (settle (u.served ev r))) := by
    rw [evaluate, if_neg (by simp [notZone]), if_pos evaluated]
  have zone := cutStages_base (shareEvaluation ev r (settle (u.served ev r)))
  rw [shareEvaluation_zone] at zone
  refine ⟨.refl _, rfl, rfl, rfl, rfl, ?_, ?_, ?_, ?_, fun kind asked => ?_, flight_finishRunning_settle ev r u⟩
  · exact (sameFigures_settle _).symm.trans (sameFigures_finishRunning ev r u)
  · rw [finishRunning_zone_eq, (refreshFan_demand _ _).1, ran]; exact zone.1
  · rw [finishRunning_zone_eq, (refreshFan_demand _ _).2.1, ran]; exact zone.2
  · simp [finishRunning_eq, ran]
  · rw [hasTx_finishRunning asked, ran]; exact hasTx_of_queue (by simp) kind

theorem sharedAt_of_called {ev : Ev} {r u : State} (called : evaluates ev r (settle (u.served ev r)) = true ∨
    evaluatesShare ev r (settle (u.served ev r)) = true) :
    ∃ w, SharedAt ev r (settle (u.served ev r)) w (finishRunning ev r u) := by
  cases evaluated : evaluates ev r (settle (u.served ev r)) with
  | true => exact ⟨_, sharedAt_zone evaluated⟩
  | false =>
    obtain zone | share := called
    · rw [zone] at evaluated; cases evaluated
    · exact ⟨_, sharedAt_share evaluated share⟩

/-! ## What a share evaluation decides -/

section
variable {ev : Ev} {r p w t e : State} (running : p.running = true) (at_ : SharedAt ev r (settle p) w t)
  (stands : StandsFor e p) (base : e.zone.base = t.zone.base) (gap : gapBegins r p = gapBegins e p)
include running at_ stands base gap

/-- The state in which units are set aside and reclaimed, as the statement names it. -/
theorem SharedAt.bounded :
    SameShares (applyBounds w) (setStages e.stagesCut (applyBounds e)) ∧
      (setStages e.stagesCut (applyBounds e)).share = (applyBounds w).share ∧
      (setStages e.stagesCut (applyBounds e)).zone.stages = (applyBounds w).zone.stages := by
  have pw : SameFigures p w := (sameFigures_settle p).trans at_.before
  have share : w.share = (applyBounds p).share := by rw [at_.share]; simp [settle]
  have again := applyBounds_share_again pw share
  have named := applyBounds_share_congr stands.figures stands.share
  have stages : (setStages e.stagesCut (applyBounds e)).zone.stages = (applyBounds w).zone.stages := by
    simp only [applyBounds_frame, at_.stages]
    exact (settle_stages running stands).symm
  have shares : (setStages e.stagesCut (applyBounds e)).share = (applyBounds w).share := by
    rw [again, share, ← named]; rfl
  refine ⟨⟨⟨?_, ?_, ?_, ?_, ?_, ?_, ?_, by rw [stages]⟩, ?_, ?_, ?_, ?_, ?_⟩, shares, stages⟩
  · simp [pw.loader, stands.figures.loader]
  · simp [pw.table, stands.figures.table]
  · simp [pw.supply, stands.figures.supply]
  · simp [pw.doors, stands.figures.doors]
  · simp [pw.defrost, stands.figures.defrost]
  · simp [pw.overrides, stands.figures.overrides]
  · simp [pw.member, stands.figures.member]
  · rw [shares]
  · rw [shares]
  · rw [shares]
  · simpa [setStages] using base.trans at_.base
  · rw [flight_applyBounds, at_.flight, flight_settle, ← stands.flight, ← flight_applyBounds e]; rfl

theorem SharedAt.aside : (adjustAside r (applyBounds w)).share = e.asideDecided.share := by
  obtain ⟨same, share, stages⟩ := at_.bounded running stands base gap
  refine (adjustAside_share_congr same share stages ?_).symm
  have supply : (applyBounds w).supply = p.supply := by simp [at_.before.supply]
  have named : (setStages e.stagesCut (applyBounds e)).supply = p.supply := by simp [stands.figures.supply]
  simpa only [gapBegins, supply, named] using gap.symm

end

section
variable {ev : Ev} {r q w t : State} (at_ : SharedAt ev r q w t)
include at_

/-- The end of the command has the shares with which the wish was made up. -/
theorem SharedAt.sameShares : SameShares (adjustAside r (applyBounds w)) t where
  toSameFigures := by
    refine SameFigures.trans ⟨?_, ?_, ?_, ?_, ?_, ?_, ?_, ?_⟩ at_.after <;> simp
  aside := by rw [at_.decided, shareEvaluation_share]
  commit := by rw [at_.decided, shareEvaluation_share]
  leaseExpired := by rw [at_.decided, shareEvaluation_share]
  base := by simpa using at_.base
  flight := by simpa using at_.flown

theorem SharedAt.wish : t.wish = (adjustAside r (applyBounds w)).wish :=
  at_.sameShares.wish (by simpa using at_.mode)

theorem SharedAt.share_eq :
    t.share = { (adjustAside r (applyBounds w)).share with wishUnits := t.wish.1, wishRank := t.wish.2 } := by
  rw [at_.wish]
  exact at_.decided.trans (shareEvaluation_share ev r w)

theorem SharedAt.claim : ClaimFollowsWish t := by
  have made := claimDecision_follows (setWish (adjustAside r (applyBounds w)))
  have wished : SameFigures (claimDecision (setWish (adjustAside r (applyBounds w)))) w := by
    refine ⟨?_, ?_, ?_, ?_, ?_, ?_, ?_, ?_⟩ <;> simp
  refine claimFollowsWish_congr (wished.trans at_.after) ?_ ?_ ?_ made
  · exact at_.decided.trans (by simp [shareEvaluation])
  · rw [at_.queued .claim (by simp), shareEvaluation, hasTx_triggerReturn (by decide)]
  · have wished : (setWish (adjustAside r (applyBounds w))).flight = w.flight :=
      (flight_of_bus (s := adjustAside r (applyBounds w)) (by simp)).trans (by simp)
    rw [at_.flown, flight_claimDecision, wished]

/-- A return that is triggered, with units aside, is asked for. -/
theorem SharedAt.ret (triggered : returnTriggered ev r (claimDecision (setWish (adjustAside r (applyBounds w)))) = true)
    (units : 0 < t.share.aside) (accepts : t.acceptsRequests = true) : t.sending .ret := by
  have shared : (shareEvaluation ev r w).sending .ret := by
    unfold shareEvaluation triggerReturn queueReturn
    rw [if_pos triggered, if_pos (by
      have aside := at_.sameShares.aside
      simp only [claimDecision_share, setWish]
      omega)]
    refine queueKind_sending _ _ ?_
    have member : (claimDecision (setWish (adjustAside r (applyBounds w)))).member.state = t.member.state := by
      rw [at_.after.member]; simp
    simpa only [State.acceptsRequests, running_of_member member, member] using accepts
  exact (sending_iff_of_queue (at_.queued .ret (by simp)) (by rw [at_.flown]; simp)).mpr shared

end

end Sys2Proof.Machine
end

section
/-! What an evaluation leaves, in the words of the statements: share decided, zone measured, stages regulated. -/

namespace Sys2Proof.Machine

/-! ## The share decided -/

/-- What has to hold of an event's flags and the states named for the return to follow `ReturnDue`. -/
def RaiseSeen (ev : Ev) (r e : State) : Prop := ev.returnDone = true ∨ r.share.aside = e.share.aside

theorem congested_iff (t : ShareTable) : t.congested = true ↔ t.queue ≠ [] := by
  unfold ShareTable.congested; cases t.queue <;> simp

theorem returnTriggered_iff (ev : Ev) (before s : State) :
    returnTriggered ev before s = true ↔
      s.supply.state = .shed ∨ s.loader.vt.returnBatch ≤ s.share.aside ∨ s.share.returnTimer = .expired ∨
        (0 < s.ownRow.owed ∧
          (ev.recalled = true ∨ ev.returnDone = true ∨ before.ownRow.owed < s.ownRow.owed)) ∨
        (s.table.queue ≠ [] ∧
          (ev.returnDone = true ∨ before.table.queue = [] ∨ before.share.aside < s.share.aside)) := by
  have uncongested : ∀ t : ShareTable, t.congested = false ↔ t.queue = [] := by
    intro t; unfold ShareTable.congested; cases t.queue <;> simp
  simp only [returnTriggered, Bool.or_eq_true, Bool.and_eq_true, decide_eq_true_eq, beq_iff_eq, Bool.not_eq_true',
    congested_iff, uncongested, or_assoc]

theorem running_finishRunning (ev : Ev) (r u : State) : (finishRunning ev r u).running = u.running :=
  running_of_member (by simp)

theorem acceptsRequests_of_running {s : State} (running : s.running = true) (noClash : s.member.state ≠ .clash) :
    s.acceptsRequests = true := by simp [State.acceptsRequests, running, noClash]

section
variable {ev : Ev} {r u e : State}

/-- Units aside, wish, claim and return of an event that called for an evaluation. -/
theorem shareDecided_of_called (running : u.running = true) (stands : StandsFor e (u.served ev r))
    (called : evaluates ev r (settle (u.served ev r)) = true ∨ evaluatesShare ev r (settle (u.served ev r)) = true)
    (base : e.zone.base = (finishRunning ev r u).zone.base) (gap : gapBegins r u = gapBegins e u)
    (raise : RaiseSeen ev r e) : ShareDecided e (finishRunning ev r u) := by
  obtain ⟨w, at_⟩ := sharedAt_of_called called
  have runs : (u.served ev r).running = true := (running_of_member (by simp)).trans running
  have gap' : gapBegins r (u.served ev r) = gapBegins e (u.served ev r) := by simpa [gapBegins] using gap
  have aside := at_.aside runs stands base gap'
  refine ⟨?_, at_.claim, fun due units noClash => ?_⟩
  · rw [← aside]; exact at_.share_eq
  · refine at_.ret ?_ units (acceptsRequests_of_running ((running_finishRunning ev r u).trans running) noClash)
    have same : SameFigures (claimDecision (setWish (adjustAside r (applyBounds w)))) w := by
      refine ⟨?_, ?_, ?_, ?_, ?_, ?_, ?_, ?_⟩ <;> simp
    have figures := same.trans at_.after
    have share : (claimDecision (setWish (adjustAside r (applyBounds w)))).share.aside = (finishRunning ev r u).share.aside ∧
        (claimDecision (setWish (adjustAside r (applyBounds w)))).share.returnTimer =
          (finishRunning ev r u).share.returnTimer := by
      rw [at_.decided]; simp [shareEvaluation]
    rw [returnTriggered_iff, ← figures.supply, ← figures.loader, share.1, share.2, ← figures.ownRow, ← figures.table]
    obtain shed | batch | expired | ⟨congested, rises⟩ := due
    · exact .inl shed
    · exact .inr (.inl batch)
    · exact .inr (.inr (.inl expired))
    · refine .inr (.inr (.inr (.inr ⟨congested, ?_⟩)))
      obtain done | aside := raise
      · exact .inl done
      · exact .inr (.inr (aside ▸ rises))

theorem hasTx_ret_setAside {units : Nat} {s : State} (queued : (setAside units s).hasTx .ret = true) :
    s.hasTx .ret = true := by
  unfold setAside at queued
  (repeat' split at queued)
  · exact queued
  · unfold withdrawKind at queued
    split at queued
    · exact queued
    · simp only [State.hasTx, List.any_filter, List.any_eq_true, Bool.and_eq_true] at queued
      obtain ⟨e, mem, _, kind⟩ := queued
      exact List.any_eq_true.mpr ⟨e, mem, kind⟩
  · exact queued

theorem hasTx_ret_applyBounds {s : State} (queued : (applyBounds s).hasTx .ret = true) : s.hasTx .ret = true := by
  have before : (setCommit s.boundCommit s).hasTx .ret = true := by
    unfold applyBounds at queued
    exact hasTx_ret_setAside queued
  exact (hasTx_of_queue (s := s) (t := setCommit s.boundCommit s) rfl .ret).symm.trans before

theorem hasTx_ret_adjustAside {before s : State} (queued : (adjustAside before s).hasTx .ret = true) : s.hasTx .ret = true := by
  unfold adjustAside at queued
  (repeat' split at queued)
  · exact hasTx_ret_setAside queued
  · exact hasTx_ret_setAside queued
  · exact queued

/-- An event that raises no units owed, begins no queue and ends no own return asks for a return only where it is due. -/
theorem shareEvaluated_of_calm (running : u.running = true) (stands : StandsFor e (u.served ev r))
    (called : evaluates ev r (settle (u.served ev r)) = true ∨ evaluatesShare ev r (settle (u.served ev r)) = true)
    (base : e.zone.base = (finishRunning ev r u).zone.base) (gap : gapBegins r u = gapBegins e u)
    (aside : r.share.aside = e.share.aside) (notRecalled : ev.recalled = false) (notReturned : ev.returnDone = false)
    (calm : u.ownRow.owed ≤ r.ownRow.owed ∧ (r.table.queue = [] → u.table.queue = []))
    (queued : u.hasTx .ret = e.hasTx .ret) : ShareEvaluated e (finishRunning ev r u) := by
  have decided := shareDecided_of_called running stands called base gap (.inr aside)
  refine ⟨decided, fun notDue sends => ?_⟩
  obtain ⟨w, at_⟩ := sharedAt_of_called called
  have same : SameFigures (claimDecision (setWish (adjustAside r (applyBounds w)))) w := by
    refine ⟨?_, ?_, ?_, ?_, ?_, ?_, ?_, ?_⟩ <;> simp
  have after := same.trans at_.after
  have share : (claimDecision (setWish (adjustAside r (applyBounds w)))).share.aside = (finishRunning ev r u).share.aside ∧
      (claimDecision (setWish (adjustAside r (applyBounds w)))).share.returnTimer =
        (finishRunning ev r u).share.returnTimer := by
    rw [at_.decided]; simp [shareEvaluation]
  have ownRow : (finishRunning ev r u).ownRow = u.ownRow := by
    simp only [State.ownRow, State.me, finishRunning_frame]
  have table : (finishRunning ev r u).table = u.table := by simp
  have untriggered : ¬returnTriggered ev r (claimDecision (setWish (adjustAside r (applyBounds w)))) = true := by
    rw [returnTriggered_iff, ← after.supply, ← after.loader, share.1, share.2, ← after.ownRow, ← after.table, ownRow, table,
      notRecalled, notReturned]
    rintro (shed | batch | expired | ⟨_, recalled | returned | rises⟩ | ⟨congested, returned | empty | rises⟩)
    · exact notDue (.inl shed)
    · exact notDue (.inr (.inl batch))
    · exact notDue (.inr (.inr (.inl expired)))
    · cases recalled
    · cases returned
    · exact absurd rises (Nat.not_lt.mpr calm.1)
    · cases returned
    · exact congested (calm.2 empty)
    · exact notDue (.inr (.inr (.inr ⟨table ▸ congested, aside ▸ rises⟩)))
  have asked : (shareEvaluation ev r w).hasTx .ret = true := (at_.queued .ret (by simp)).symm.trans sends
  rw [shareEvaluation, triggerReturn, if_neg untriggered, hasTx_claimDecision (by decide)] at asked
  rw [hasTx_of_queue (s := adjustAside r (applyBounds w)) (by simp)] at asked
  have atW : w.hasTx .ret = true := hasTx_ret_applyBounds (hasTx_ret_adjustAside asked)
  have settled : (applyBounds (u.served ev r)).hasTx .ret = true :=
    (hasTx_of_queue (at_.queue.trans (by simp [settle])) .ret).symm.trans atW
  have left := hasTx_ret_applyBounds settled
  rwa [hasTx_of_queue (s := u) (by simp), queued] at left

/-- An event that leaves the table and ends no own return asks for a return only where it is due. -/
theorem shareEvaluated_of_called (running : u.running = true) (stands : StandsFor e (u.served ev r))
    (called : evaluates ev r (settle (u.served ev r)) = true ∨ evaluatesShare ev r (settle (u.served ev r)) = true)
    (base : e.zone.base = (finishRunning ev r u).zone.base) (gap : gapBegins r u = gapBegins e u)
    (aside : r.share.aside = e.share.aside) (notRecalled : ev.recalled = false) (notReturned : ev.returnDone = false)
    (figures : r.loader = u.loader ∧ r.table = u.table) (queued : u.hasTx .ret = e.hasTx .ret) :
    ShareEvaluated e (finishRunning ev r u) := by
  have ownRow : r.ownRow = u.ownRow := by simp only [State.ownRow, State.me, figures.1, figures.2]
  exact shareEvaluated_of_calm running stands called base gap aside notRecalled notReturned
    ⟨Nat.le_of_eq (congrArg Row.owed ownRow.symm), fun empty => figures.2 ▸ empty⟩ queued

end

/-! ## The zone measured -/

theorem fanNow_congr {s t : State} (same : SameFigures s t) (mode : t.zone.mode = s.zone.mode)
    (total : t.zone.total = s.zone.total) : t.fanNow = s.fanNow := by
  simp only [State.fanNow, same.overrides, same.doors, same.capacity, mode, total]

theorem fanNow_of_setFan {s t : State} (same : SameFigures s t) (zone : t.zone = (setFan s).zone) : t.fanNow = s.fanNow :=
  fanNow_congr same (by rw [zone]; rfl) (by rw [zone]; rfl)

theorem refreshFan_setFan_zone (r s : State) : (refreshFan r (setFan s)).zone = (setFan s).zone := by
  unfold refreshFan
  split
  · rfl
  · rfl

theorem regulated_zone {x : State} {z : Zone} (cut : { (cutStages x).zone with stages := z.stages } = z) :
    (setFan (switchStages (cutStages x))).zone =
      { z with
        stages := (setFan (switchStages (cutStages x))).zone.stages, fan := (switchStages (cutStages x)).fanNow } := by
  generalize cutStages x = y at cut ⊢
  rw [← cut]
  rfl

/-- The zone behind a zone evaluation: as measured, with the stages switched and the fan set. -/
theorem evaluated_zone {ev : Ev} {r u : State} (called : evaluates ev r (settle (u.served ev r)) = true) :
    (finishRunning ev r u).zone =
      { (measure ev.periodic (settle (u.served ev r))).zone with
        stages := (finishRunning ev r u).zone.stages, fan := (finishRunning ev r u).fanNow } := by
  have ran : evaluate ev r (settle (u.served ev r)) = regulate ev r (measure ev.periodic (settle (u.served ev r))) := by
    rw [evaluate, if_pos called]; rfl
  have cut := cutStages_rest (shareEvaluation ev r (measure ev.periodic (settle (u.served ev r))))
  rw [shareEvaluation_zone] at cut
  have zone : (finishRunning ev r u).zone =
      (setFan (switchStages (cutStages (shareEvaluation ev r (measure ev.periodic (settle (u.served ev r))))))).zone := by
    rw [finishRunning_zone_eq, ran, regulate, refreshFan_setFan_zone]
  have figures := (sharedAt_zone called).after
  have same : SameFigures (switchStages (cutStages (shareEvaluation ev r (measure ev.periodic (settle (u.served ev r))))))
      (finishRunning ev r u) := by
    refine SameFigures.trans ⟨?_, ?_, ?_, ?_, ?_, ?_, ?_, ?_⟩ figures
    · simp
    · simp
    · simp
    · simp
    · simp
    · simp
    · simp
    · rw [sizes_switchStages, sizes_cutStages, shareEvaluation_zone]
  have fan : (finishRunning ev r u).fanNow =
      (switchStages (cutStages (shareEvaluation ev r (measure ev.periodic (settle (u.served ev r)))))).fanNow :=
    fanNow_of_setFan same zone
  rw [fan, zone]
  generalize shareEvaluation ev r (measure ev.periodic (settle (u.served ev r))) = x at cut ⊢
  generalize (measure ev.periodic (settle (u.served ev r))).zone = z at cut ⊢
  exact regulated_zone cut

theorem measure_sensors (periodic : Bool) (q : State) :
    (measure periodic q).zone.air0 = q.zone.air0.updated periodic q.pins.sensors.air0 ∧
      (measure periodic q).zone.air1 = q.zone.air1.updated periodic q.pins.sensors.air1 ∧
      (measure periodic q).zone.air2 = q.zone.air2.updated periodic q.pins.sensors.air2 := ⟨rfl, rfl, rfl⟩

theorem measure_temp (periodic : Bool) (q : State) :
    (measure periodic q).zone.temp =
      zoneTempOf ((measure periodic q).zone.air0.value q.pins.sensors.air0)
        ((measure periodic q).zone.air1.value q.pins.sensors.air1)
        ((measure periodic q).zone.air2.value q.pins.sensors.air2) := rfl

theorem measure_fault (periodic : Bool) (q : State) :
    (measure periodic q).zone.fault = decide (¬((measure periodic q).zone.air0.validity = .valid ∧
      (measure periodic q).zone.air1.validity = .valid ∧ (measure periodic q).zone.air2.validity = .valid)) := by
  show ((measure periodic q).zone.air0.validity != .valid || (measure periodic q).zone.air1.validity != .valid ||
    (measure periodic q).zone.air2.validity != .valid) = _
  generalize (measure periodic q).zone.air0.validity = a
  generalize (measure periodic q).zone.air1.validity = b
  generalize (measure periodic q).zone.air2.validity = c
  cases a <;> cases b <;> cases c <;> rfl

theorem measure_mode (periodic : Bool) (q : State) :
    (measure periodic q).zone.mode =
      (if q.overrides.zoneOff.isSome = true then .heldOff
      else if (measure periodic q).zone.air0.validity = .valid ∨ (measure periodic q).zone.air1.validity = .valid ∨
        (measure periodic q).zone.air2.validity = .valid then .active
      else .limp) := rfl

theorem measure_base (periodic : Bool) (q : State) :
    (measure periodic q).zone.base = (measure periodic q).baseNow := rfl

theorem measure_total (periodic : Bool) (q : State) :
    (measure periodic q).zone.total =
      min (measure periodic q).capacity
        ((measure periodic q).zone.base + (measure periodic q).boost + (measure periodic q).spillFigure) := rfl

/-- What is measured, read at the end of the command. -/
theorem zoneMeasured_of {periodic : Bool} {q t : State} (same : SameFigures q t) {codes : Sensors}
    (sensors : q.pins.sensors = codes)
    (zone : t.zone = { (measure periodic q).zone with stages := t.zone.stages, fan := t.fanNow }) : ZoneMeasured codes t := by
  have figures := (sameFigures_measure periodic q).symm.trans same
  have air0 : t.zone.air0 = (measure periodic q).zone.air0 := by rw [zone]
  have air1 : t.zone.air1 = (measure periodic q).zone.air1 := by rw [zone]
  have air2 : t.zone.air2 = (measure periodic q).zone.air2 := by rw [zone]
  have mode : t.zone.mode = (measure periodic q).zone.mode := by rw [zone]
  have base : t.zone.base = (measure periodic q).zone.base := by rw [zone]
  have temp : t.zone.temp = (measure periodic q).zone.temp := by rw [zone]
  have setpoint : t.zone.setpoint = (measure periodic q).zone.setpoint := by rw [zone]
  have total : t.zone.total = (measure periodic q).zone.total := by rw [zone]
  have fault : t.zone.fault = (measure periodic q).zone.fault := by rw [zone]
  have fan : t.zone.fan = t.fanNow := by rw [zone]
  refine ⟨?_, ?_, ?_, ?_, ?_, ?_⟩
  · rw [temp, air0, air1, air2, ← sensors]; exact measure_temp periodic q
  · rw [fault, air0, air1, air2]; exact measure_fault periodic q
  · rw [mode, air0, air1, air2, same.overrides]; exact measure_mode periodic q
  · rw [base, mode, figures.capacity, figures.entry, setpoint, temp, figures.usable]
    exact measure_base periodic q
  · rw [total, figures.capacity, base, figures.boost, figures.spillFigure]; exact measure_total periodic q
  · exact fan

theorem settle_zone_rest (p : State) : { (settle p).zone with stages := p.zone.stages } = p.zone := by
  unfold settle
  have cut := cutStages_rest (applyBounds p)
  simpa only [applyBounds_frame] using cut

theorem settle_air (p : State) : (settle p).zone.air0 = p.zone.air0 ∧ (settle p).zone.air1 = p.zone.air1 ∧
    (settle p).zone.air2 = p.zone.air2 ∧ (settle p).zone.pendingFlag = p.zone.pendingFlag := by
  have rest := settle_zone_rest p
  rw [← rest]; exact ⟨rfl, rfl, rfl, rfl⟩

/-! ## The stages regulated -/

theorem switchedOff_of_off {minimum : Nat} {g : Stage} (off : g.on = false) : g.switchedOff minimum = g := by
  simp [Stage.switchedOff, off]

theorem switchedOff_on (minimum : Nat) (g : Stage) : (g.switchedOff minimum).on = false := by
  unfold Stage.switchedOff
  split
  · rfl
  · rename_i off; simpa using off

theorem map_switchedOff_again (minimum : Nat) (stages : List Stage) :
    (stages.map (Stage.switchedOff minimum)).map (Stage.switchedOff minimum) = stages.map (Stage.switchedOff minimum) := by
  rw [List.map_map]
  exact List.map_congr_left fun g _ => switchedOff_of_off (switchedOff_on minimum g)

/-- Where loads are barred, stages that are all off stay as they are. -/
theorem switched_of_off {minimum target limit : Nat} {stages : List Stage} (off : ∀ g ∈ stages, g.on = false) :
    switched minimum target limit false stages = stages := by
  refine List.ext_getElem? fun i => ?_
  cases found : stages[i]? with
  | none =>
    have out : stages.length ≤ i := List.getElem?_eq_none_iff.mp found
    rw [List.getElem?_eq_none (by rw [switched_length]; exact out)]
  | some g =>
    have bound : i < (wantedFrom target 0 stages).length := by
      rw [wantedFrom_length]; exact (List.getElem?_eq_some_iff.mp found).1
    rw [switched_get found (List.getElem?_eq_getElem bound)]
    simp [Stage.regulated, off g (List.mem_of_getElem? found), roomAt]

/-- The stages behind the first cut. -/
theorem stagesCut_eq (e : State) :
    e.stagesCut =
      if e.live = true ∧ e.member.state ≠ .clash then
        forced e.loader.vt.stageMinimum (applyBounds e).airLimit e.zone.stages
      else e.zone.stages.map (Stage.switchedOff e.loader.vt.stageMinimum) := rfl

section
variable {ev : Ev} {r u e : State}

theorem evaluated_stages (called : evaluates ev r (settle (u.served ev r)) = true) :
    (finishRunning ev r u).zone.stages =
      (switchStages (cutStages (shareEvaluation ev r (measure ev.periodic (settle (u.served ev r)))))).zone.stages := by
  have ran : evaluate ev r (settle (u.served ev r)) = regulate ev r (measure ev.periodic (settle (u.served ev r))) := by
    rw [evaluate, if_pos called]; rfl
  rw [finishRunning_zone_eq, refreshFan_stages, ran, regulate_stages]

/-- The end of the command has the shares of the share evaluation. -/
theorem SharedAt.sameShares_evaluation {q w t : State} (at_ : SharedAt ev r q w t) :
    SameShares (shareEvaluation ev r w) t where
  toSameFigures := (sameFigures_shareEvaluation ev r w).symm.trans at_.after
  aside := by rw [at_.decided]
  commit := by rw [at_.decided]
  leaseExpired := by rw [at_.decided]
  base := by rw [shareEvaluation_zone]; exact at_.base
  flight := by rw [flight_shareEvaluation]; exact at_.flown

theorem switchStages_stages (x : State) :
    (switchStages x).zone.stages =
      switched x.loader.vt.stageMinimum (min x.zone.total x.airLimit) x.airLimit x.loadsAllowed x.zone.stages := rfl

theorem sameShares_cutStages (y : State) : SameShares y (cutStages y) where
  toSameFigures := ⟨by simp, by simp, by simp, by simp, by simp, by simp, by simp, sizes_cutStages y⟩
  aside := by simp
  commit := by simp
  leaseExpired := by simp
  base := (cutStages_base y).1
  flight := flight_of_bus (by simp)

theorem loadsAllowed_iff_of_running {s : State} (running : s.running = true) :
    s.loadsAllowed = true ↔ s.live = true ∧ s.member.state ≠ .clash := by
  simp [State.loadsAllowed, running]

/-- Where loads are allowed the stages are cut to the air limit and switched; where not, they stay off. -/
theorem stagesRegulated_of_called (running : u.running = true) (stands : StandsFor e (u.served ev r))
    (called : evaluates ev r (settle (u.served ev r)) = true) : StagesRegulated e (finishRunning ev r u) := by
  have runs : (u.served ev r).running = true := (running_of_member (by simp)).trans running
  have ends : (finishRunning ev r u).running = true := (running_finishRunning ev r u).trans running
  have shares := (sharedAt_zone called).sameShares_evaluation
  have figures := stands.figures.symm.trans (sameFigures_finishRunning ev r u)
  have before : (shareEvaluation ev r (measure ev.periodic (settle (u.served ev r)))).zone.stages = e.stagesCut := by
    rw [shareEvaluation_zone, (measure_stages _ _).1, settle_stages runs stands]
  have total : (shareEvaluation ev r (measure ev.periodic (settle (u.served ev r)))).zone.total =
      (finishRunning ev r u).zone.total := by
    rw [evaluated_zone called, shareEvaluation_zone]
  have stages := evaluated_stages called
  generalize shareEvaluation ev r (measure ev.periodic (settle (u.served ev r))) = y at shares before total stages
  generalize finishRunning ev r u = t at *
  have cut := (sameShares_cutStages y).symm.trans shares
  have cutZone := cutStages_eq (s := y) (shares.running.symm.trans ends)
  have cutTotal : (cutStages y).zone.total = t.zone.total := by rw [cutZone, total]
  have allowed : (cutStages y).loadsAllowed = true ↔ e.live = true ∧ e.member.state ≠ .clash := by
    rw [← cut.loadsAllowed, loadsAllowed_iff_of_running ends, figures.live, figures.member]
  have cutStagesOf : (cutStages y).zone.stages =
      if e.live = true ∧ e.member.state ≠ .clash then forced e.loader.vt.stageMinimum t.airLimit e.stagesCut
      else e.stagesCut.map (Stage.switchedOff e.loader.vt.stageMinimum) := by
    rw [cutZone, before, ← shares.live, ← shares.member, ← shares.loader, ← shares.airLimit, figures.live, figures.member,
      figures.loader]
  rw [switchStages_stages, cutTotal, ← cut.airLimit, ← cut.loader, figures.loader, cutStagesOf] at stages
  refine ⟨rfl, fun live noClash => ?_, fun barred => ?_⟩
  · rw [stages, allowed.mpr ⟨live, noClash⟩, if_pos ⟨live, noClash⟩]
  · have bars : ¬(e.live = true ∧ e.member.state ≠ .clash) := by
      rintro ⟨live, noClash⟩
      obtain dead | clash := barred
      · exact absurd live (by simp [dead])
      · exact noClash clash
    have denied : (cutStages y).loadsAllowed = false := by
      rw [← Bool.not_eq_true, allowed]; exact bars
    have off : e.stagesCut = e.zone.stages.map (Stage.switchedOff e.loader.vt.stageMinimum) := by
      rw [stagesCut_eq, if_neg bars]
    rw [stages, denied, if_neg bars, off, map_switchedOff_again]
    refine switched_of_off fun g mem => ?_
    obtain ⟨h, _, rfl⟩ := List.mem_map.mp mem
    exact switchedOff_on _ h

end

end Sys2Proof.Machine
end

section
/-! The end of an event, in the words of the statements: `StandsFor` from blocks, the measured zone, the stages only cut, and
what a taking hands on. -/

namespace Sys2Proof.Machine

section
variable {ev : Ev} {r u e : State}

/-- The state that a statement names stands for what the event left, block by block; the defrost unit is that of the end. -/
theorem standsFor_served (loader : e.loader = u.loader) (table : e.table = u.table) (supply : e.supply = u.supply)
    (doors : e.doors = u.doors) (overrides : e.overrides = u.overrides) (member : e.member.state = u.member.state)
    (defrost : e.defrost = (finishRunning ev r u).defrost) (share : e.share = u.share)
    (stages : e.zone.stages = u.zone.stages) (flight : e.flight = u.flight) : StandsFor e (u.served ev r) where
  figures :=
    ⟨by simpa using loader, by simpa using table, by simpa using supply, by simpa using doors,
      defrost.trans (sameFigures_finishRunning ev r u).defrost, by simpa using overrides, by simpa using member,
      by simpa using congrArg (List.map (·.size)) stages⟩
  share := by simpa using share
  stages := by simpa using stages
  flight := flight.trans (flight_of_bus (by simp)).symm

theorem sameFigures_settled (ev : Ev) (r u : State) : SameFigures (settle (u.served ev r)) (finishRunning ev r u) :=
  (sameFigures_settle _).symm.trans (sameFigures_finishRunning ev r u)

theorem evaluated_sensors (called : evaluates ev r (settle (u.served ev r)) = true) :
    (finishRunning ev r u).zone.air0 = u.zone.air0.updated ev.periodic u.pins.sensors.air0 ∧
      (finishRunning ev r u).zone.air1 = u.zone.air1.updated ev.periodic u.pins.sensors.air1 ∧
      (finishRunning ev r u).zone.air2 = u.zone.air2.updated ev.periodic u.pins.sensors.air2 := by
  obtain ⟨read0, read1, read2⟩ := measure_sensors ev.periodic (settle (u.served ev r))
  obtain ⟨air0, air1, air2, _⟩ := settle_air (u.served ev r)
  rw [evaluated_zone called]
  refine ⟨read0.trans ?_, read1.trans ?_, read2.trans ?_⟩
  · rw [air0]; simp
  · rw [air1]; simp
  · rw [air2]; simp

theorem measure_pendingFlag (periodic : Bool) (q : State) :
    (measure periodic q).zone.pendingFlag = (q.zone.pendingFlag && !periodic) := rfl

theorem evaluated_pendingFlag (called : evaluates ev r (settle (u.served ev r)) = true) :
    (finishRunning ev r u).zone.pendingFlag = (u.zone.pendingFlag && !ev.periodic) := by
  obtain ⟨_, _, _, pending⟩ := settle_air (u.served ev r)
  rw [evaluated_zone called]
  refine (measure_pendingFlag ev.periodic (settle (u.served ev r))).trans ?_
  rw [pending]; simp

theorem zoneMeasured_of_called {codes : Sensors} (sensors : u.pins.sensors = codes)
    (called : evaluates ev r (settle (u.served ev r)) = true) : ZoneMeasured codes (finishRunning ev r u) :=
  zoneMeasured_of (sameFigures_settled ev r u) (by simpa using sensors) (evaluated_zone called)

/-! ## No zone evaluation -/

theorem evaluates_iff (ev : Ev) (r s : State) :
    evaluates ev r s = true ↔ ev.periodic = true ∨ ev.evaluate = true ∨ ev.recalled = true ∨ ev.granted = true ∨
      EvaluationCalled r s := by
  simp [evaluates, evaluationFigureChanged, or_assoc]

theorem evaluationCalled_congr {s r q t : State} (first : SameFigures s r) (last : SameFigures q t) :
    EvaluationCalled s t ↔ EvaluationCalled r q := by
  unfold EvaluationCalled
  rw [first.ownRow, first.usable, first.supply, first.member, first.defrost, first.request, first.safetyKept,
    first.claimFigure, first.boost, first.spillFigure, last.ownRow, last.usable, last.supply, last.member, last.defrost,
    last.request, last.safetyKept, last.claimFigure, last.boost, last.spillFigure]

theorem not_evaluationCalled {r q : State} (same : SameFigures r q) : ¬EvaluationCalled r q := by
  unfold EvaluationCalled
  rw [same.ownRow, same.usable, same.supply, same.member, same.defrost, same.request, same.safetyKept, same.claimFigure,
    same.boost, same.spillFigure]
  simp

theorem shareEvaluationCalled_congr {s r q t : State} (first : SameFigures s r) (last : SameFigures q t) :
    ShareEvaluationCalled s t ↔ ShareEvaluationCalled r q := by
  unfold ShareEvaluationCalled
  rw [first.ownRow, first.table, first.ownEntry, last.ownRow, last.table, last.ownEntry]

/-- An event that leaves every figure, and calls for no zone evaluation itself, evaluates no zone. -/
theorem evaluates_eq_false (same : SameFigures r u) (defrost : (u.served ev r).defrost = u.defrost)
    (plain : ev.periodic = false ∧ ev.evaluate = false ∧ ev.recalled = false ∧ ev.granted = false) :
    evaluates ev r (settle (u.served ev r)) = false := by
  have figures : SameFigures r (settle (u.served ev r)) :=
    (same.trans ⟨by simp, by simp, by simp, by simp, defrost, by simp, by simp, by simp⟩).trans (sameFigures_settle _)
  obtain ⟨periodic, evaluate, recalled, granted⟩ := plain
  rw [← Bool.not_eq_true, evaluates_iff, periodic, evaluate, recalled, granted]
  simpa using not_evaluationCalled figures

theorem fanInputChanged_of_same {r q : State} (doors : q.doors = r.doors) (overrides : q.overrides = r.overrides) :
    fanInputChanged r q = false := by simp [fanInputChanged, doors, overrides]

theorem cut_of_settled {x e : State} (zone : { x.zone with stages := e.zone.stages } = e.zone) (stages : List Stage) :
    ({ x.zone with stages } : Zone) = { e.zone with stages } :=
  (congrArg (fun z : Zone => { z with stages }) zone :)

/-- An event that evaluates the shares alone cuts the stages and leaves the rest of the zone. -/
theorem stagesOnlyCut_of_share (running : u.running = true) (stands : StandsFor e (u.served ev r))
    (zone : e.zone = u.zone) (notZone : evaluates ev r (settle (u.served ev r)) = false)
    (called : evaluatesShare ev r (settle (u.served ev r)) = true)
    (fan : fanInputChanged r (finishRunning ev r u) = false) : StagesOnlyCut e (finishRunning ev r u) := by
  have runs : (u.served ev r).running = true := (running_of_member (by simp)).trans running
  have ends : (finishRunning ev r u).running = true := (running_finishRunning ev r u).trans running
  have shares := (sharedAt_share notZone called).sameShares_evaluation
  have figures := stands.figures.symm.trans (sameFigures_finishRunning ev r u)
  have ran : evaluate ev r (settle (u.served ev r)) = cutStages (shareEvaluation ev r (settle (u.served ev r))) := by
    rw [evaluate, if_neg (by simp [notZone]), if_pos called]
  have unchanged : fanInputChanged r (evaluate ev r (settle (u.served ev r))) = false := by
    simpa [fanInputChanged] using fan
  have ended : (finishRunning ev r u).zone = (cutStages (shareEvaluation ev r (settle (u.served ev r)))).zone := by
    rw [finishRunning_zone_eq, refreshFan, if_neg (by simp [unchanged]), ran]
  have before : (shareEvaluation ev r (settle (u.served ev r))).zone.stages = e.stagesCut := by
    rw [shareEvaluation_zone, settle_stages runs stands]
  have rest : { (shareEvaluation ev r (settle (u.served ev r))).zone with stages := e.zone.stages } = e.zone := by
    rw [shareEvaluation_zone, zone]
    simpa using settle_zone_rest (u.served ev r)
  generalize shareEvaluation ev r (settle (u.served ev r)) = y at shares before rest ended
  generalize finishRunning ev r u = t at *
  refine ⟨rfl, ?_⟩
  rw [ended, cutStages_eq (shares.running.symm.trans ends), cut_of_settled rest]
  rw [before, ← shares.live, ← shares.member, ← shares.loader, ← shares.airLimit, figures.live, figures.member,
    figures.loader]
  by_cases allowed : e.live = true ∧ e.member.state ≠ .clash
  · rw [if_pos allowed, if_pos allowed]
  · rw [if_neg allowed, if_neg allowed, stagesCut_eq, if_neg allowed, map_switchedOff_again]

end

end Sys2Proof.Machine
end

section
/-! The defrost unit, each operation by what it leaves in the defrost block. -/

namespace Sys2Proof.Machine

/-! ## The operations of the defrost unit -/

theorem screenClear_iff (s : State) :
    s.screenClear = true ↔ ∃ x, s.defrost.screen = some x ∧ s.loader.vt.clearTemp ≤ x := by
  unfold State.screenClear
  cases s.defrost.screen <;> simp

theorem coldOutside_iff (s : State) :
    s.coldOutside = true ↔ ∀ x, s.doors.outdoor = some x → x < s.loader.vt.autoThreshold := by
  unfold State.coldOutside
  cases s.doors.outdoor <;> simp

theorem defrostWanted_iff (s : State) : s.defrostWanted = true ↔ DefrostWanted s := by
  unfold DefrostWanted
  rw [← coldOutside_iff]
  unfold State.defrostWanted
  cases s.defrostMode <;> simp

/-- The block behind entering ramp: a clear screen leads on to hold at once. -/
def State.rampedDefrost (s : State) : Defrost :=
  { s.defrost with
    state := if s.screenClear = true then .hold else .ramp
    phase := some (if s.screenClear = true then s.loader.vt.holdTime else s.loader.vt.rampLimit) }

theorem enterRamp_eq (s : State) : (enterRamp s).defrost = s.rampedDefrost := by
  have clear : (setDefrost .ramp (some s.loader.vt.rampLimit) s).screenClear = s.screenClear := rfl
  unfold enterRamp compareScreen State.rampedDefrost
  rw [clear]
  by_cases screen : s.screenClear = true
  · rw [if_pos ⟨rfl, screen⟩, if_pos screen, if_pos screen]; rfl
  · rw [if_neg (fun h => screen h.2), if_neg screen, if_neg screen]; rfl

theorem compareScreen_eq (s : State) :
    (compareScreen s).defrost =
      if s.defrost.state = .ramp ∧ s.screenClear = true then
        { s.defrost with state := .hold, phase := some s.loader.vt.holdTime }
      else s.defrost := by
  unfold compareScreen
  split
  · rfl
  · rfl

theorem leaveWaiting_eq (s : State) :
    (leaveWaiting s).defrost =
      if s.defrost.state = .waiting ∧ s.loader.vt.defrostUnits ≤ s.safetyHeld then s.rampedDefrost else s.defrost := by
  unfold leaveWaiting
  split
  · exact enterRamp_eq s
  · rfl

theorem enterWaiting_eq (s : State) :
    (enterWaiting s).defrost =
      if s.loader.vt.defrostUnits ≤ s.safetyHeld then s.rampedDefrost
      else { s.defrost with state := .waiting, phase := none } := by
  have held : (setDefrost .waiting none s).safetyHeld = s.safetyHeld := rfl
  unfold enterWaiting
  rw [leaveWaiting_eq, held]
  by_cases enough : s.loader.vt.defrostUnits ≤ s.safetyHeld
  · rw [if_pos ⟨rfl, enough⟩, if_pos enough]; rfl
  · rw [if_neg (fun h => enough h.2), if_neg enough]; rfl

/-- The block behind the check that starts a defrost. -/
theorem checkDefrost_eq (s : State) :
    (checkDefrost s).defrost =
      if s.isCab = true ∧ s.defrost.state = .off ∧ s.defrostWanted = true then
        if s.live = true ∧ s.member.state ≠ .clash then (enterWaiting s).defrost
        else { s.defrost with state := .paused, phase := none, pausedKept := 0 }
      else s.defrost := by
  unfold checkDefrost
  split
  · split <;> rfl
  · rfl

theorem defrostRamps_of_ramped {s t : State} (ramped : t.defrost = s.rampedDefrost) : DefrostRamps s t := by
  unfold DefrostRamps
  rw [ramped, ← screenClear_iff]
  refine ⟨fun clear => ?_, fun blurred => ?_⟩
  · simp [State.rampedDefrost, clear]
  · simp [State.rampedDefrost, blurred]

theorem defrostRamps_iff {s t : State} : DefrostRamps s t ↔ t.defrost = s.rampedDefrost := by
  refine ⟨fun ramps => ?_, defrostRamps_of_ramped⟩
  unfold DefrostRamps at ramps
  rw [← screenClear_iff] at ramps
  by_cases clear : s.screenClear = true
  · rw [ramps.1 clear]; simp [State.rampedDefrost, clear]
  · rw [ramps.2 clear]; simp [State.rampedDefrost, clear]

/-- What the start of a defrost leads to is the same wherever the figures and the screen are. -/
theorem rampedDefrost_congr {s t : State} (loader : t.loader = s.loader) (defrost : t.defrost = s.defrost) :
    t.rampedDefrost = s.rampedDefrost := by
  simp only [State.rampedDefrost, State.screenClear, loader, defrost]
  rfl

/-! ## The defrost unit looks at a taking -/

theorem defrostServed_iff (s : State) :
    s.defrostServed = true ↔ s.defrost.state = .ramp ∨ s.defrost.state = .hold ∨ s.defrost.state = .trim := by
  unfold State.defrostServed
  cases s.defrost.state <;> simp

/-- The units of a defrost under way are lost: the look at a taking leads back to waiting. -/
def State.losesUnits (s : State) (ev : Ev) (before : State) : Prop :=
  (owedRaised ev before s || ev.cleared) = true ∧ s.safetyHeld < before.safetyKept

section
variable {ev : Ev} {r u : State}

theorem served_of_quiet (quiet : u.isCab = false ∨ u.defrost.state = .off ∨ u.defrost.state = .paused) :
    (u.served ev r).defrost = u.defrost := by
  unfold State.served defrostSeesTaking
  obtain saloon | off | paused := quiet
  · rw [if_neg (by simp [saloon])]
  · split
    · rw [if_neg (by simp [State.defrostServed, off]), leaveWaiting_eq, if_neg (by simp [off])]
    · rfl
  · split
    · rw [if_neg (by simp [State.defrostServed, paused]), leaveWaiting_eq, if_neg (by simp [paused])]
    · rfl

theorem served_of_waiting (cab : u.isCab = true) (waiting : u.defrost.state = .waiting) :
    (u.served ev r).defrost =
      if u.loader.vt.defrostUnits ≤ u.safetyHeld then u.rampedDefrost else u.defrost := by
  unfold State.served defrostSeesTaking
  rw [if_pos cab, if_neg (by simp [State.defrostServed, waiting]), leaveWaiting_eq]
  simp [waiting]

theorem served_of_lost (cab : u.isCab = true)
    (under : u.defrost.state = .ramp ∨ u.defrost.state = .hold ∨ u.defrost.state = .trim) (lost : u.losesUnits ev r) :
    (u.served ev r).defrost =
      if u.loader.vt.defrostUnits ≤ u.safetyHeld then u.rampedDefrost
      else { u.defrost with state := .waiting, phase := none } := by
  unfold State.served defrostSeesTaking
  rw [if_pos cab, if_pos ⟨lost.1, (defrostServed_iff u).mpr under, lost.2⟩]
  exact enterWaiting_eq u

theorem served_of_kept (under : u.defrost.state = .ramp ∨ u.defrost.state = .hold ∨ u.defrost.state = .trim)
    (kept : ¬u.losesUnits ev r) : (u.served ev r).defrost = u.defrost := by
  have moving : ¬(u.defrost.state = .waiting ∧ u.loader.vt.defrostUnits ≤ u.safetyHeld) := by
    rintro ⟨waiting, _⟩
    rw [waiting] at under; simp at under
  unfold State.served defrostSeesTaking
  split
  · rw [if_neg (fun lost => kept ⟨lost.1, lost.2.2⟩), leaveWaiting_eq, if_neg moving]
  · rfl

/-- An event that is no taking: the defrost unit leaves waiting where its units have come, and does nothing else. -/
theorem served_of_unraised (raised : (owedRaised ev r u || ev.cleared) = false) :
    (u.served ev r).defrost =
      if u.isCab = true ∧ u.defrost.state = .waiting ∧ u.loader.vt.defrostUnits ≤ u.safetyHeld then u.rampedDefrost
      else u.defrost := by
  have kept : ¬u.losesUnits ev r := fun lost => by rw [State.losesUnits, raised] at lost; exact absurd lost.1 (by simp)
  cases cab : u.isCab with
  | false => rw [served_of_quiet (.inl cab)]; simp
  | true =>
    cases state : u.defrost.state with
    | off => rw [served_of_quiet (.inr (.inl state))]; simp
    | paused => rw [served_of_quiet (.inr (.inr state))]; simp
    | waiting => rw [served_of_waiting cab state]; simp
    | ramp => rw [served_of_kept (.inl state) kept]; simp
    | hold => rw [served_of_kept (.inr (.inl state)) kept]; simp
    | trim => rw [served_of_kept (.inr (.inr state)) kept]; simp

theorem unraised_of_table (plain : ev.recalled = false ∧ ev.cleared = false) (loader : u.loader = r.loader)
    (table : u.table = r.table) : (owedRaised ev r u || ev.cleared) = false := by
  have row : u.ownRow = r.ownRow := by simp only [State.ownRow, State.me, loader, table]
  simp [owedRaised, plain, row]

theorem finishRunning_defrost_eq (ev : Ev) (r u : State) :
    (finishRunning ev r u).defrost = (u.served ev r).defrost := (sameFigures_finishRunning ev r u).defrost

end

/-! ## The supply is seen -/

theorem defrostWorking_iff (s : State) :
    s.defrostWorking = true ↔ s.defrost.state ≠ .off ∧ s.defrost.state ≠ .paused := by
  unfold State.defrostWorking
  cases s.defrost.state <;> simp

/-- A supply that is not live: the block behind the defrost unit's look at it. -/
theorem seesSupply_dead {x : State} (dead : x.live = false) :
    (defrostSeesSupply x).defrost =
      if x.isCab = true ∧ x.defrostWorking = true then
        { x.defrost with state := .paused, phase := none, pausedKept := x.safetyKept }
      else if x.isCab = true ∧ x.defrost.state = .off ∧ x.defrostWanted = true then
        { x.defrost with state := .paused, phase := none, pausedKept := 0 }
      else x.defrost := by
  unfold defrostSeesSupply
  rw [if_neg (by simp [dead]), checkDefrost_eq]
  have still : (pauseDefrost x).live = false := by simpa [State.live] using dead
  unfold pauseDefrost
  by_cases working : x.isCab = true ∧ x.defrostWorking = true
  · rw [if_pos working, if_pos working, if_neg (by simp [enterPaused])]; rfl
  · rw [if_neg working, if_neg working]
    simp [dead]

theorem rampedDefrost_after {s t : State} (loader : t.loader = s.loader) (rest : ∃ state phase, t.defrost = { s.defrost with state, phase }) :
    t.rampedDefrost = s.rampedDefrost := by
  obtain ⟨state, phase, eq⟩ := rest
  simp only [State.rampedDefrost, State.screenClear, loader, eq]
  rfl

/-- A live supply: the block behind the defrost unit's look at it. -/
theorem seesSupply_live {x : State} (live : x.live = true) :
    (defrostSeesSupply x).defrost =
      if x.isCab = true ∧ x.member.state ≠ .clash ∧ (x.defrost.state = .paused ∨ x.defrost.state = .off) ∧
          x.defrostWanted = true then (enterWaiting x).defrost
      else if x.isCab = true ∧ x.member.state ≠ .clash ∧ x.defrost.state = .paused then
        { x.defrost with state := .off, phase := none }
      else if x.isCab = true ∧ x.member.state = .clash ∧ x.defrost.state = .off ∧ x.defrostWanted = true then
        { x.defrost with state := .paused, phase := none, pausedKept := 0 }
      else x.defrost := by
  have wantedOff : (enterOff x).defrostWanted = x.defrostWanted := rfl
  have notOff : (enterWaiting x).defrost.state ≠ .off := by
    rw [enterWaiting_eq]
    split
    · simp only [State.rampedDefrost]; split <;> simp
    · simp
  unfold defrostSeesSupply
  rw [if_pos live]
  unfold resumeDefrost
  by_cases paused : x.isCab = true ∧ x.defrost.state = .paused ∧ x.member.state ≠ .clash
  · obtain ⟨cab, state, noClash⟩ := paused
    rw [if_pos ⟨cab, state, noClash⟩]
    by_cases wanted : x.defrostWanted = true
    · rw [if_pos wanted, checkDefrost_eq, if_neg (fun h => notOff h.2.1), if_pos ⟨cab, noClash, .inl state, wanted⟩]
    · rw [if_neg wanted, checkDefrost_eq, if_neg (fun h => wanted (wantedOff ▸ h.2.2)), if_neg (fun h => wanted h.2.2.2),
        if_pos ⟨cab, noClash, state⟩]
      rfl
  · rw [if_neg paused, checkDefrost_eq]
    by_cases start : x.isCab = true ∧ x.defrost.state = .off ∧ x.defrostWanted = true
    · obtain ⟨cab, off, wanted⟩ := start
      rw [if_pos ⟨cab, off, wanted⟩]
      by_cases clash : x.member.state = .clash
      · rw [if_neg (fun h => h.2 clash), if_neg (fun h => h.2.1 clash), if_neg (fun h => h.2.1 clash),
          if_pos ⟨cab, clash, off, wanted⟩]
      · rw [if_pos ⟨live, clash⟩, if_pos ⟨cab, clash, .inr off, wanted⟩]
    · rw [if_neg start, if_neg, if_neg (fun h => paused ⟨h.1, h.2.2, h.2.1⟩), if_neg (fun h => start ⟨h.1, h.2.2⟩)]
      rintro ⟨cab, noClash, idle | off, wanted⟩
      · exact paused ⟨cab, idle, noClash⟩
      · exact start ⟨cab, off, wanted⟩

end Sys2Proof.Machine
end

section
/-! The supply monitor's events and what the defrost unit and the share unit make of them. -/

namespace Sys2Proof.Machine

/-- `x` is `s` with the supply moved on, at the moment and with the pins of the command. -/
structure SupplyMoved (s x : State) : Prop where
  loader : x.loader = s.loader
  table : x.table = s.table
  doors : x.doors = s.doors
  defrost : x.defrost = s.defrost
  overrides : x.overrides = s.overrides
  member : x.member = s.member
  share : x.share = s.share
  zone : x.zone = s.zone
  flight : x.flight = s.flight

namespace SupplyMoved
variable {s x : State} (moved : SupplyMoved s x)
include moved

theorem isCab : x.isCab = s.isCab := by simp only [State.isCab, State.entry, State.me, moved.loader]
theorem ownRow : x.ownRow = s.ownRow := by simp only [State.ownRow, State.me, moved.loader, moved.table]
theorem safetyHeld : x.safetyHeld = s.safetyHeld := by simp only [State.safetyHeld, moved.ownRow]
theorem defrostWanted : x.defrostWanted = s.defrostWanted := by
  simp only [State.defrostWanted, State.defrostMode, State.coldOutside, moved.overrides, moved.defrost, moved.doors,
    moved.loader]
theorem safetyKept : x.safetyKept = s.safetyKept := by
  simp only [State.safetyKept, moved.isCab, moved.defrost, moved.loader]
theorem ramped : x.rampedDefrost = s.rampedDefrost := rampedDefrost_congr moved.loader moved.defrost

/-- The command's event leaves the table, so the defrost unit sees no loss. -/
theorem unraised {r : State} {f : State → State} (loader : (f x).loader = x.loader) (table : (f x).table = x.table)
    (own : r.loader = s.loader ∧ r.table = s.table) :
    (owedRaised {} r (f x) || ({} : Ev).cleared) = false :=
  unraised_of_table ⟨rfl, rfl⟩ (by rw [loader, moved.loader, own.1]) (by rw [table, moved.table, own.2])

end SupplyMoved

theorem seesSupply_isCab (x : State) : (defrostSeesSupply x).isCab = x.isCab := by
  simp only [State.isCab, State.entry, State.me, defrostSeesSupply_frame]

theorem seesSupply_safetyHeld (x : State) : (defrostSeesSupply x).safetyHeld = x.safetyHeld := by
  simp only [State.safetyHeld, State.ownRow, State.me, defrostSeesSupply_frame]

section
variable {s x r : State}

/-- A supply that is not live leaves no cab waiting: the end of the event has the block of the look at the supply. -/
theorem served_seesSupply_dead (dead : x.live = false)
    (raised : (owedRaised {} r (defrostSeesSupply x) || ({} : Ev).cleared) = false) :
    ((defrostSeesSupply x).served {} r).defrost = (defrostSeesSupply x).defrost := by
  rw [served_of_unraised raised, if_neg]
  rintro ⟨cab, waiting, _⟩
  rw [seesSupply_isCab] at cab
  rw [seesSupply_dead dead] at waiting
  by_cases working : x.defrostWorking = true
  · rw [if_pos ⟨cab, working⟩] at waiting; cases waiting
  · rw [if_neg (fun h => working h.2)] at waiting
    split at waiting
    · cases waiting
    · exact working ((defrostWorking_iff x).mpr (by simp [waiting]))

theorem defrostPauses_of_moved (moved : SupplyMoved s x) (own : r.loader = s.loader ∧ r.table = s.table)
    (dead : x.live = false) : DefrostPauses s (finishRunning {} r (defrostSeesSupply x)) := by
  have raised := moved.unraised (r := r) (f := defrostSeesSupply) (by simp) (by simp) own
  have ended : (finishRunning {} r (defrostSeesSupply x)).defrost = (defrostSeesSupply x).defrost :=
    (finishRunning_defrost_eq _ _ _).trans (served_seesSupply_dead dead raised)
  unfold DefrostPauses
  rw [ended, seesSupply_dead dead, moved.isCab, moved.defrost, moved.defrostWanted, moved.safetyKept, ← defrostWanted_iff]
  have working := (defrostWorking_iff x).trans (by rw [moved.defrost])
  refine ⟨fun quiet => ?_, fun cab under => ?_, fun cab trim => ?_, fun cab off => ⟨fun wanted => ?_, fun unwanted => ?_⟩⟩
  · obtain saloon | paused := quiet
    · simp [saloon]
    · rw [if_neg (fun h => (working.mp h.2).2 paused), if_neg (by simp [paused])]
  · have works : x.defrostWorking = true := working.mpr (by obtain h | h | h := under <;> simp [h])
    have kept : s.safetyKept = s.loader.vt.defrostUnits := by
      unfold State.safetyKept
      obtain h | h | h := under <;> simp [h, cab]
    rw [if_pos ⟨cab, works⟩, kept]
  · have kept : s.safetyKept = s.loader.vt.trimUnits := by simp [State.safetyKept, cab, trim]
    rw [if_pos ⟨cab, working.mpr (by simp [trim])⟩, kept]
  · rw [if_neg (fun h => (working.mp h.2).1 off), if_pos ⟨cab, off, wanted⟩]
  · rw [if_neg (fun h => (working.mp h.2).1 off), if_neg (fun h => unwanted h.2.2)]

theorem defrostResumes_of_moved (moved : SupplyMoved s x) (own : r.loader = s.loader ∧ r.table = s.table)
    (live : x.live = true) : DefrostResumes s (finishRunning {} r (defrostSeesSupply x)) := by
  have raised := moved.unraised (r := r) (f := defrostSeesSupply) (by simp) (by simp) own
  have ended := (finishRunning_defrost_eq _ _ _).trans (served_of_unraised raised)
  rw [seesSupply_isCab, seesSupply_safetyHeld] at ended
  unfold DefrostResumes
  rw [← defrostWanted_iff, defrostRamps_iff, ← moved.isCab, ← moved.defrost, ← moved.defrostWanted, ← moved.safetyHeld,
    ← moved.ramped, ← moved.member, ← moved.loader]
  have block := seesSupply_live live
  refine ⟨fun quiet => ?_, fun cab noClash state wanted => ?_, fun cab noClash state unwanted => ?_⟩
  · obtain saloon | ⟨paused, clash⟩ := quiet
    · rw [ended, if_neg (by simp [saloon]), block]
      simp [saloon]
    · have same : (defrostSeesSupply x).defrost = x.defrost := by
        rw [block, if_neg (fun h => h.2.1 clash), if_neg (fun h => h.2.1 clash), if_neg (by simp [paused])]
      rw [ended, same, if_neg (by simp [paused])]
  · rw [if_pos ⟨cab, noClash, state, wanted⟩, enterWaiting_eq] at block
    have loader : (defrostSeesSupply x).loader = x.loader := by simp
    have rampState : x.rampedDefrost.state ≠ .waiting := by
      simp only [State.rampedDefrost]; split <;> simp
    refine ⟨fun enough => ?_, fun short => ?_⟩
    · rw [if_pos enough] at block
      rw [ended, if_neg (fun h => rampState (block ▸ h.2.1)), block]
    · rw [if_neg (by omega)] at block
      rw [ended, loader, if_neg (fun h => by omega), block]
  · have notWaiting : (defrostSeesSupply x).defrost.state = .off ∧
        (x.defrost.state = .paused → (defrostSeesSupply x).defrost.phase = none) := by
      rw [block, if_neg (fun h => unwanted h.2.2.2)]
      by_cases paused : x.defrost.state = .paused
      · rw [if_pos ⟨cab, noClash, paused⟩]; exact ⟨rfl, fun _ => rfl⟩
      · have off := state.resolve_left paused
        rw [if_neg (fun h => paused h.2.2), if_neg (fun h => noClash h.2.1)]
        exact ⟨off, fun h => absurd h paused⟩
    rw [ended, if_neg (by simp [notWaiting.1])]
    exact notWaiting

end

end Sys2Proof.Machine
end

section
/-! Settles O37 and O38: the supply monitor's timers and the line's level. -/

namespace Sys2Proof.Machine

theorem running_defrostSeesSupply (x : State) : (defrostSeesSupply x).running = x.running := running_of_member (by simp)

section
variable {codes : Sensors} {s x : State} (moved : SupplyMoved s x)
include moved

theorem SupplyMoved.finish_eq (running : s.running = true) :
    finish {} (begin codes s) (defrostSeesSupply x) = finishRunning {} (begin codes s) (defrostSeesSupply x) :=
  finish_of_running ((running_defrostSeesSupply x).trans ((running_of_member (by rw [moved.member])).trans running)) _ _

/-- An event of the supply leaves table and overrides; the supply is as moved. -/
theorem SupplyMoved.finish_blocks :
    (finish {} (begin codes s) (defrostSeesSupply x)).table = s.table ∧
      (finish {} (begin codes s) (defrostSeesSupply x)).overrides = s.overrides ∧
      (finish {} (begin codes s) (defrostSeesSupply x)).supply = x.supply ∧
      (finish {} (begin codes s) (defrostSeesSupply x)).member.state = s.member.state ∧
      (finish {} (begin codes s) (defrostSeesSupply x)).loader = s.loader := by
  simp [moved.table, moved.overrides, moved.member, moved.loader]

theorem SupplyMoved.finish_pauses (running : s.running = true) (dead : x.supply.state ≠ .live) :
    DefrostPauses s (finish {} (begin codes s) (defrostSeesSupply x)) := by
  rw [moved.finish_eq running]
  exact defrostPauses_of_moved moved ⟨rfl, rfl⟩ (by simp [State.live, dead])

theorem SupplyMoved.finish_resumes (running : s.running = true) (live : x.supply.state = .live) :
    DefrostResumes s (finish {} (begin codes s) (defrostSeesSupply x)) := by
  rw [moved.finish_eq running]
  exact defrostResumes_of_moved moved ⟨rfl, rfl⟩ (by simp [State.live, live])

end

/-! ## Loads where none are allowed, and full units aside -/

theorem noLoad_finish {ev : Ev} {r u : State} (running : u.running = true)
    (barred : (finish ev r u).loadsAllowed = false) : (finish ev r u).airLoad = 0 ∧ (finish ev r u).defrostLoad = 0 := by
  have law := loadLaw_finishRunning ev r u
  rw [finish_of_running running] at barred ⊢
  unfold LoadLaw at law
  rw [if_neg (by simp [barred])] at law
  unfold State.stationLoad at law
  omega

theorem loadsAllowed_of_dead {s : State} (dead : s.supply.state ≠ .live) : s.loadsAllowed = false := by
  simp [State.loadsAllowed, State.live, dead]

/-- Where all that is borrowed is aside and committed, nothing is reclaimed and nothing more is set aside. -/
theorem adjustAside_of_full {before x : State} (aside : x.share.aside = x.ownRow.borrowed)
    (commit : x.share.commit = x.ownRow.borrowed) :
    (adjustAside before x).share.aside = x.ownRow.borrowed ∧ (adjustAside before x).share.commit = x.ownRow.borrowed := by
  have none : x.reclaimable = 0 := by
    unfold State.reclaimable State.asideFloor
    omega
  unfold adjustAside
  (repeat' split)
  · exact ⟨by rw [setAside_aside, none]; omega, by rw [setAside_commit, commit]⟩
  · exact ⟨by rw [setAside_aside]; omega, by rw [setAside_commit, commit]⟩
  · exact ⟨aside, commit⟩

/-- At shed all that is borrowed is set aside, committed and on its way back; the claim is withdrawn. -/
theorem shed_finishRunning {r u : State} (running : u.running = true) (shed : u.supply.state = .shed)
    (before : r.supply.state ≠ .shed) :
    (finishRunning {} r u).share.aside = u.ownRow.borrowed ∧ (finishRunning {} r u).share.commit = u.ownRow.borrowed ∧
      (0 < u.ownRow.borrowed → u.member.state ≠ .clash → (finishRunning {} r u).sending .ret) ∧
      (u.member.state = .inStep → (∃ e, u.ownEntry = some e ∧ 0 < e.units) →
        (finishRunning {} r u).sending .claim ∧ (finishRunning {} r u).share.wishUnits = 0) := by
  have called : evaluates {} r (settle (u.served {} r)) = true := by
    rw [evaluates_iff]
    have differs : (settle (u.served {} r)).supply.state ≠ r.supply.state := by simpa [shed] using before.symm
    exact .inr (.inr (.inr (.inr (.inr (.inr (.inr (.inl differs)))))))
  have at_ := sharedAt_zone called
  have supplyT : (finishRunning {} r u).supply.state = .shed := by simpa using shed
  have memberT : (finishRunning {} r u).member.state = u.member.state := by simp
  have rowT : (finishRunning {} r u).ownRow = u.ownRow := by simp only [State.ownRow, State.me, finishRunning_frame]
  have entryT : (finishRunning {} r u).ownEntry = u.ownEntry := by
    simp only [State.ownEntry, State.me, finishRunning_frame]
  generalize measure ({} : Ev).periodic (settle (u.served {} r)) = w at at_
  generalize finishRunning {} r u = t at *
  have supplyW : w.supply.state = .shed := by rw [← at_.after.supply]; exact supplyT
  have rowW : (applyBounds w).ownRow = u.ownRow := by
    rw [← rowT, at_.after.ownRow]; simp only [State.ownRow, State.me, applyBounds_frame]
  have ownW : w.ownRow = u.ownRow := by rw [← rowT, at_.after.ownRow]
  have bounded : (applyBounds w).share.aside = u.ownRow.borrowed ∧ (applyBounds w).share.commit = u.ownRow.borrowed := by
    refine ⟨?_, ?_⟩
    · rw [applyBounds_aside, State.boundAside, if_pos (.inl (by simpa using supplyW)), ← ownW]; rfl
    · rw [applyBounds_commit, State.boundCommit, if_pos supplyW, ownW]
  obtain ⟨aside, commit⟩ := adjustAside_of_full (before := r) (by rw [rowW]; exact bounded.1) (by rw [rowW]; exact bounded.2)
  have asideT : t.share.aside = u.ownRow.borrowed := by rw [at_.share_eq]; exact aside.trans (by rw [rowW])
  refine ⟨asideT, by rw [at_.share_eq]; exact commit.trans (by rw [rowW]), fun units noClash => ?_, fun inStep own => ?_⟩
  · refine at_.ret ((returnTriggered_iff _ _ _).mpr (.inl (by simpa using supplyW))) (by omega) ?_
    exact acceptsRequests_of_running ((running_of_member memberT).trans running) (by rw [memberT]; exact noClash)
  · obtain ⟨e, entry, units⟩ := own
    have wish : t.share.wishUnits = 0 := by
      rw [at_.share_eq]
      show t.wish.1 = 0
      rw [State.wish, if_pos supplyT]
    refine ⟨(at_.claim.2 (by rw [memberT]; exact inStep) ?_ ?_).1 wish, wish⟩
    · have unequal : e.units ≠ 0 := by omega
      simp [State.wishMatches, entryT, entry, wish, unequal]
    · simp [State.entryStands, State.gapPaused, supplyT]

theorem SupplyMoved.finish_sheds {codes : Sensors} {s x : State} (moved : SupplyMoved s x) (running : s.running = true)
    (shed : x.supply.state = .shed) (before : s.supply.state ≠ .shed) :
    (finish {} (begin codes s) (defrostSeesSupply x)).share.aside = s.ownRow.borrowed ∧
      (finish {} (begin codes s) (defrostSeesSupply x)).share.commit = s.ownRow.borrowed ∧
      (0 < s.ownRow.borrowed → s.member.state ≠ .clash →
        (finish {} (begin codes s) (defrostSeesSupply x)).sending .ret) ∧
      (s.member.state = .inStep → (∃ e, s.ownEntry = some e ∧ 0 < e.units) →
        (finish {} (begin codes s) (defrostSeesSupply x)).sending .claim ∧
          (finish {} (begin codes s) (defrostSeesSupply x)).share.wishUnits = 0) ∧
      (finish {} (begin codes s) (defrostSeesSupply x)).airLoad = 0 ∧
      (finish {} (begin codes s) (defrostSeesSupply x)).defrostLoad = 0 := by
  have runs : (defrostSeesSupply x).running = true :=
    (running_defrostSeesSupply x).trans ((running_of_member (by rw [moved.member])).trans running)
  have row : (defrostSeesSupply x).ownRow = s.ownRow := by
    rw [← moved.ownRow]; simp only [State.ownRow, State.me, defrostSeesSupply_frame]
  have entry : (defrostSeesSupply x).ownEntry = s.ownEntry := by
    simp only [State.ownEntry, State.me, defrostSeesSupply_frame, moved.loader, moved.table]
  have member : (defrostSeesSupply x).member = s.member := by simp [moved.member]
  obtain ⟨aside, commit, ret, claim⟩ := shed_finishRunning (r := begin codes s) runs (by simpa using shed) before
  have barred := noLoad_finish (ev := {}) (r := begin codes s) runs (loadsAllowed_of_dead (by simp [shed]))
  rw [moved.finish_eq running] at barred ⊢
  rw [row] at aside commit ret
  rw [entry] at claim
  rw [member] at ret claim
  exact ⟨aside, commit, ret, claim, barred⟩

/-! ## The events of the supply monitor -/

section
variable {s : State}

theorem settleEnds_eq {r : State} (runs : r.supply.settle.isSome = true) :
    settleEnds r =
      finish {} r (defrostSeesSupply { r with
        supply :=
          if r.supply.good = true then { r.supply with settle := none, state := .live }
          else { r.supply with settle := none, state := .rideThrough, rideThrough := some r.loader.vt.rideThrough } }) := by
  obtain ⟨n, timer⟩ := Option.isSome_iff_exists.mp runs
  unfold settleEnds
  rw [timer]
  dsimp only
  split
  · rfl
  · rfl

theorem rideThroughEnds_eq {r : State} (runs : r.supply.rideThrough.isSome = true) :
    rideThroughEnds r =
      finish {} r (defrostSeesSupply { r with supply := { r.supply with rideThrough := none, state := .shed } }) := by
  obtain ⟨n, timer⟩ := Option.isSome_iff_exists.mp runs
  unfold rideThroughEnds
  rw [timer]
  rfl

theorem qualifyEnds_eq {r : State} (runs : r.supply.qualify.isSome = true) :
    qualifyEnds r =
      finish {} r (defrostSeesSupply { r with supply := { r.supply with qualify := none, state := .live } }) := by
  obtain ⟨n, timer⟩ := Option.isSome_iff_exists.mp runs
  unfold qualifyEnds
  rw [timer]
  rfl

theorem supplyMoved_begin (codes : Sensors) (s : State) (supply : Supply) :
    SupplyMoved s { begin codes s with supply } := ⟨rfl, rfl, rfl, rfl, rfl, rfl, rfl, rfl, rfl⟩

end

/-- Settles O37: each of the three timers by the supply that it moves to. -/
theorem supplyTimers : Obligations.SupplyTimers := by
  intro codes s running
  refine ⟨fun runs => ?_, fun runs riding => ?_, fun runs => ?_⟩
  · have moved := supplyMoved_begin codes s
      (if s.supply.good = true then { s.supply with settle := none, state := .live }
        else { s.supply with settle := none, state := .rideThrough, rideThrough := some s.loader.vt.rideThrough })
    obtain ⟨table, overrides, supply, _⟩ := moved.finish_blocks (codes := codes)
    refine ⟨_, congrArg Host.Outcome.next ((whenRunning_of settleEnds (begin codes s) running).trans (settleEnds_eq (r := begin codes s) runs)), table,
      overrides, supply, fun good => ?_, fun bad => ?_⟩
    · exact moved.finish_resumes running (by simp [good])
    · exact moved.finish_pauses running (by simp [bad])
  · have moved := supplyMoved_begin codes s { s.supply with rideThrough := none, state := .shed }
    obtain ⟨table, overrides, supply, _⟩ := moved.finish_blocks (codes := codes)
    obtain ⟨aside, commit, ret, claim, air, defrost⟩ := moved.finish_sheds (codes := codes) running rfl (by simp [riding])
    exact ⟨_, congrArg Host.Outcome.next ((whenRunning_of rideThroughEnds (begin codes s) running).trans
      (rideThroughEnds_eq (r := begin codes s) runs)), table, overrides, supply, aside, commit, ret, claim, air, defrost,
      moved.finish_pauses running (by simp)⟩
  · have moved := supplyMoved_begin codes s { s.supply with qualify := none, state := .live }
    obtain ⟨table, overrides, supply, _⟩ := moved.finish_blocks (codes := codes)
    exact ⟨_, congrArg Host.Outcome.next ((whenRunning_of qualifyEnds (begin codes s) running).trans (qualifyEnds_eq (r := begin codes s) runs)), table,
      overrides, supply, moved.finish_resumes running rfl⟩

end Sys2Proof.Machine
end

section
/-! Settles O38: the line's level moves the supply, and a gap that begins keeps the units aside. -/

namespace Sys2Proof.Machine

/-- What is kept of the safety units in a gap is what was kept before it. -/
theorem safetyKept_seesSupply_dead {x p : State} (dead : x.live = false) (loader : p.loader = x.loader)
    (defrost : p.defrost = (defrostSeesSupply x).defrost) : p.safetyKept = x.safetyKept := by
  have cab : p.isCab = x.isCab := by simp only [State.isCab, State.entry, State.me, loader]
  cases isCab : x.isCab with
  | false => simp [State.safetyKept, cab, isCab]
  | true =>
    rw [seesSupply_dead dead] at defrost
    by_cases working : x.defrostWorking = true
    · rw [if_pos ⟨isCab, working⟩] at defrost
      rw [State.safetyKept, cab, if_pos isCab, defrost]
    · rw [if_neg (fun h => working h.2)] at defrost
      by_cases start : x.isCab = true ∧ x.defrost.state = .off ∧ x.defrostWanted = true
      · rw [if_pos start] at defrost
        simp [State.safetyKept, cab, isCab, defrost, start.2.1]
      · rw [if_neg start] at defrost
        simp only [State.safetyKept, cab, isCab, defrost, loader]

/-- The event with which a gap begins leaves the units aside that lie within their bounds. -/
theorem SupplyMoved.gap_keeps_aside {codes : Sensors} {s x : State} (moved : SupplyMoved s x) (running : s.running = true)
    (live : s.supply.state = .live) (gap : x.supply.state = .rideThrough) (matched : s.member.state ≠ .mismatched)
    (floor : max s.ownRow.owed (max s.share.commit (s.ownRow.safety - s.safetyKept)) ≤ s.share.aside)
    (within : s.share.aside ≤ s.ownRow.borrowed) :
    (finish {} (begin codes s) (defrostSeesSupply x)).share.aside = s.share.aside := by
  have raised := moved.unraised (r := begin codes s) (f := defrostSeesSupply) (by simp) (by simp) ⟨rfl, rfl⟩
  have dead : x.live = false := by simp [State.live, gap]
  have defrost := served_seesSupply_dead dead raised
  rw [moved.finish_eq running]
  have called : evaluates {} (begin codes s) (settle ((defrostSeesSupply x).served {} (begin codes s))) = true := by
    rw [evaluates_iff]
    have differs : (settle ((defrostSeesSupply x).served {} (begin codes s))).supply.state ≠
        (begin codes s).supply.state := by simp [gap, live]
    exact .inr (.inr (.inr (.inr (.inr (.inr (.inr (.inl differs)))))))
  have at_ := sharedAt_zone called
  have loaderP : ((defrostSeesSupply x).served {} (begin codes s)).loader = x.loader := by simp
  have tableP : ((defrostSeesSupply x).served {} (begin codes s)).table = x.table := by simp
  have shareP : ((defrostSeesSupply x).served {} (begin codes s)).share = s.share := by simp [moved.share]
  have supplyP : ((defrostSeesSupply x).served {} (begin codes s)).supply = x.supply := by simp
  have memberP : ((defrostSeesSupply x).served {} (begin codes s)).member = s.member := by simp [moved.member]
  generalize (defrostSeesSupply x).served {} (begin codes s) = p at *
  generalize measure ({} : Ev).periodic (settle p) = w at at_
  have pw : SameFigures p w := (sameFigures_settle p).trans at_.before
  have shareW : w.share = (applyBounds p).share := by rw [at_.share]; simp [settle]
  have kept : p.safetyKept = s.safetyKept :=
    (safetyKept_seesSupply_dead dead loaderP defrost).trans moved.safetyKept
  have row : p.ownRow = s.ownRow := by rw [← moved.ownRow]; simp only [State.ownRow, State.me, loaderP, tableP]
  have still : adjustAside (begin codes s) (applyBounds w) = applyBounds w := by
    have begins : gapBegins (begin codes s) (applyBounds w) = true := by
      simp [gapBegins, live, pw.supply, supplyP, gap]
    unfold adjustAside
    rw [if_neg (by simp [begins])]
  rw [at_.share_eq, still]
  show (applyBounds w).share.aside = _
  rw [applyBounds_share_again pw shareW, shareW, applyBounds_aside, State.boundAside,
    if_neg (by simp [supplyP, gap, memberP, matched])]
  have figures : (setCommit p.boundCommit p).share.aside = s.share.aside ∧
      (setCommit p.boundCommit p).ownRow = s.ownRow ∧ (setCommit p.boundCommit p).releasedSafety = s.releasedSafety ∧
      (setCommit p.boundCommit p).share.commit ≤ s.share.commit := by
    refine ⟨(congrArg ShareUnit.aside shareP :), row, ?_, ?_⟩
    · show p.releasedSafety = _
      simp only [State.releasedSafety, row, kept]
    · show p.boundCommit ≤ _
      rw [State.boundCommit, if_neg (by simp [supplyP, gap]), shareP]
      omega
  obtain ⟨asideP, rowP, released, commit⟩ := figures
  rw [State.asideFloor, asideP, rowP, released]
  unfold State.releasedSafety
  omega

/-- The supply of the line's new level. -/
def State.supplyAtLevel (s : State) : Supply :=
  match s.supply.state, s.pins.line with
  | .settling, good => { s.supply with good, debounce := none }
  | .live, true => { s.supply with good := true, debounce := none }
  | .live, false =>
    { s.supply with
      good := false, debounce := none, state := .rideThrough, rideThrough := some s.loader.vt.rideThrough }
  | .rideThrough, true => { s.supply with good := true, debounce := none, state := .live, rideThrough := none }
  | .rideThrough, false => { s.supply with good := false, debounce := none }
  | .shed, true => { s.supply with good := true, debounce := none, qualify := some 1000 }
  | .shed, false => { s.supply with good := false, debounce := none, qualify := none }

/-- The supply moves on at the line's level: a gap begins, or one ends. -/
def State.levelMoves (s : State) : Prop :=
  (s.supply.state = .live ∧ s.pins.line = false) ∨ (s.supply.state = .rideThrough ∧ s.pins.line = true)

theorem supplySeesLevel_eq (r : State) :
    (r.levelMoves → supplySeesLevel { r with supply := { r.supply with good := r.pins.line, debounce := none } } =
        defrostSeesSupply { r with supply := r.supplyAtLevel }) ∧
      (¬r.levelMoves → supplySeesLevel { r with supply := { r.supply with good := r.pins.line, debounce := none } } =
        { r with supply := r.supplyAtLevel }) := by
  unfold State.levelMoves State.supplyAtLevel supplySeesLevel
  cases state : r.supply.state <;> cases line : r.pins.line <;>
    simp [enterRideThrough, setSupply, qualifyTime]

theorem lineLevel_eq {r : State} (runs : r.supply.debounce.isSome = true) :
    lineLevel r =
      finish {} r (supplySeesLevel { r with supply := { r.supply with good := r.pins.line, debounce := none } }) := by
  obtain ⟨n, timer⟩ := Option.isSome_iff_exists.mp runs
  unfold lineLevel
  rw [timer]

section
variable {codes : Sensors} {s x : State} (moved : SupplyMoved s x)
include moved

/-- A level that leaves the supply's state: the defrost unit stands, unless it waited. -/
theorem SupplyMoved.finish_stands (notWaiting : s.defrost.state ≠ .waiting) :
    (finish {} (begin codes s) x).defrost = s.defrost := by
  cases running : x.running with
  | false => rw [finish_of_not_running running]; exact moved.defrost
  | true =>
    rw [finish_of_running running, finishRunning_defrost_eq,
      served_of_unraised (moved.unraised (r := begin codes s) (f := fun x => x) rfl rfl ⟨rfl, rfl⟩), moved.defrost, if_neg (fun h => notWaiting h.2.1)]

theorem SupplyMoved.finish_plain :
    (finish {} (begin codes s) x).table = s.table ∧ (finish {} (begin codes s) x).overrides = s.overrides ∧
      (finish {} (begin codes s) x).supply = x.supply := by
  simp [moved.table, moved.overrides]

end

/-- Settles O38. -/
theorem lineLevelMovesSupply : Obligations.LineLevelMovesSupply := by
  intro codes s runs
  have ran : exec (.lineLevelChange codes) s = .next (lineLevel (begin codes s)) := rfl
  have moved := supplyMoved_begin codes s s.supplyAtLevel
  obtain ⟨moves, stays⟩ := supplySeesLevel_eq (begin codes s)
  refine ⟨_, ran.trans (congrArg Host.Outcome.next (lineLevel_eq (r := begin codes s) runs)), ?_⟩
  by_cases level : s.levelMoves
  · rw [moves level]
    obtain ⟨table, overrides, supply, _⟩ := moved.finish_blocks (codes := codes)
    refine ⟨table, overrides, supply, fun running notLive => ?_, fun running live line => ⟨?_, fun matched floor within => ?_⟩,
      fun running riding line => ?_, fun unmoved _ => ?_⟩
    · exact noLoad_finish ((running_defrostSeesSupply _).trans running) (loadsAllowed_of_dead notLive)
    · exact moved.finish_pauses running (by simp [State.supplyAtLevel, live, line])
    · exact moved.gap_keeps_aside running live (by simp [State.supplyAtLevel, live, line]) matched floor within
    · exact moved.finish_resumes running (by simp [State.supplyAtLevel, riding, line])
    · obtain ⟨live, line⟩ | ⟨riding, line⟩ := level
      · simp [live, line] at unmoved
      · simp [riding, line] at unmoved
  · rw [stays level]
    obtain ⟨table, overrides, supply⟩ := moved.finish_plain (codes := codes)
    refine ⟨table, overrides, supply, fun running notLive => ?_, fun running live line => absurd (.inl ⟨live, line⟩) level,
      fun running riding line => absurd (.inr ⟨riding, line⟩) level, fun _ notWaiting => moved.finish_stands notWaiting⟩
    exact noLoad_finish running (loadsAllowed_of_dead notLive)

end Sys2Proof.Machine
end

section
/-! Settles O36: the share unit's timers and its formulas. -/

namespace Sys2Proof.Machine

/-! ## The timers -/

section
variable {s u : State}

/-- The state behind an expiry of lease timer or claim spacing: a changed share unit, and perhaps a request on the bus. -/
structure ShareMoved (s : State) (share : ShareUnit) (u : State) : Prop where
  loader : u.loader = s.loader
  table : u.table = s.table
  supply : u.supply = s.supply
  doors : u.doors = s.doors
  defrost : u.defrost = s.defrost
  overrides : u.overrides = s.overrides
  member : u.member = s.member
  zone : u.zone = s.zone
  flight : u.flight = s.flight
  ret : u.hasTx .ret = s.hasTx .ret
  own : u.share = share

theorem ShareMoved.running {share : ShareUnit} (moved : ShareMoved s share u) : u.running = s.running :=
  running_of_member (by rw [moved.member])

theorem ShareMoved.figures {share : ShareUnit} (moved : ShareMoved s share u) : SameFigures s u :=
  ⟨moved.loader, moved.table, moved.supply, moved.doors, moved.defrost, moved.overrides, by rw [moved.member],
    by rw [moved.zone]⟩

/-- An expiry of the share unit evaluates the shares and cuts the stages; no zone evaluation follows. -/
theorem ShareMoved.evaluated {share : ShareUnit} (moved : ShareMoved s share u) (running : s.running = true)
    (aside : share.aside = s.share.aside)
    (idle : s.isCab = false ∨ s.defrost.state ≠ .waiting ∨ s.safetyHeld < s.loader.vt.defrostUnits) :
    (finish { share := true } (nextMoment s) u).defrost = s.defrost ∧
      ∀ e : State, e = { s with share } →
        ShareEvaluated e (finish { share := true } (nextMoment s) u) ∧
          StagesOnlyCut e (finish { share := true } (nextMoment s) u) := by
  have runs : u.running = true := moved.running.trans running
  have unraised := unraised_of_table (ev := { share := true }) (r := nextMoment s) ⟨rfl, rfl⟩ moved.loader moved.table
  have defrost : (u.served { share := true } (nextMoment s)).defrost = u.defrost := by
    rw [served_of_unraised unraised, if_neg]
    rintro ⟨cab, waiting, enough⟩
    rw [moved.figures.isCab] at cab
    rw [moved.defrost] at waiting
    rw [moved.loader, moved.figures.safetyHeld] at enough
    obtain saloon | working | short := idle
    · simp [saloon] at cab
    · exact working waiting
    · omega
  rw [finish_of_running runs]
  have ended : (finishRunning { share := true } (nextMoment s) u).defrost = s.defrost :=
    (finishRunning_defrost_eq _ _ _).trans (defrost.trans moved.defrost)
  refine ⟨ended, fun e named => ?_⟩
  have stands : StandsFor e (u.served { share := true } (nextMoment s)) := by
    subst named
    exact standsFor_served moved.loader.symm moved.table.symm moved.supply.symm moved.doors.symm moved.overrides.symm
      (by rw [moved.member]) ended.symm moved.own.symm (by rw [moved.zone]) (Eq.trans rfl moved.flight.symm)
  have notZone := evaluates_eq_false (ev := { share := true }) (r := nextMoment s) (.trans (t := s) ⟨rfl, rfl, rfl, rfl, rfl, rfl, rfl, rfl⟩ moved.figures)
    defrost ⟨rfl, rfl, rfl, rfl⟩
  have called : evaluatesShare { share := true } (nextMoment s) (settle (u.served { share := true } (nextMoment s))) = true :=
    rfl
  have zoneE : e.zone = u.zone := by rw [named, moved.zone]
  have cut := stagesOnlyCut_of_share runs stands zoneE notZone called
    (fanInputChanged_of_same (by simp [moved.doors]) (by simp [moved.overrides]))
  refine ⟨shareEvaluated_of_called runs stands (.inr called) ?_ ?_ ?_ rfl rfl ⟨moved.loader.symm, moved.table.symm⟩ ?_, cut⟩
  · rw [cut.2]
  · rw [named]; rfl
  · rw [named]; exact aside.symm
  · rw [named]; exact moved.ret

theorem leaseRunsOut_eq {r : State} (runs : r.share.leaseTimer.isSome = true) :
    leaseRunsOut r =
      finish { share := true } r
        (if r.inStep then queueKind .lapse { r with share := { r.share with leaseTimer := none, leaseExpired := true } }
        else { r with share := { r.share with leaseTimer := none, leaseExpired := true } }) := by
  obtain ⟨n, timer⟩ := Option.isSome_iff_exists.mp runs
  unfold leaseRunsOut
  rw [timer]
  rfl

theorem spacingEnds_eq {r : State} (runs : r.share.spacingTimer.isSome = true) :
    spacingEnds r = finish { share := true } r { r with share := { r.share with spacingTimer := none } } := by
  obtain ⟨n, timer⟩ := Option.isSome_iff_exists.mp runs
  unfold spacingEnds
  rw [timer]

/-- What the expiry of the lease timer leaves before it evaluates. -/
def State.leaseOut (s : State) : State :=
  if s.inStep then
    queueKind .lapse { nextMoment s with share := { s.share with leaseTimer := none, leaseExpired := true } }
  else { nextMoment s with share := { s.share with leaseTimer := none, leaseExpired := true } }

theorem leaseOut_moved (s : State) :
    ShareMoved s { s.share with leaseTimer := none, leaseExpired := true } s.leaseOut := by
  unfold State.leaseOut
  split
  · exact ⟨by simp, by simp, by simp, by simp, by simp, by simp, by simp, by simp, (flight_queueKind _ _).trans rfl,
      (hasTx_queueKind_other (by decide) _).trans rfl, by simp⟩
  · exact ⟨rfl, rfl, rfl, rfl, rfl, rfl, rfl, rfl, rfl, rfl, rfl⟩

theorem spacingOut_moved (s : State) :
    ShareMoved s { s.share with spacingTimer := none }
      { nextMoment s with share := { s.share with spacingTimer := none } } :=
  ⟨rfl, rfl, rfl, rfl, rfl, rfl, rfl, rfl, rfl, rfl, rfl⟩

theorem exec_leaseTimerExpiry (running : s.running = true) (runs : s.share.leaseTimer.isSome = true) :
    exec .leaseTimerExpiry s = .next (finish { share := true } (nextMoment s) s.leaseOut) :=
  congrArg Host.Outcome.next
    ((whenRunning_of leaseRunsOut (nextMoment s) running).trans (leaseRunsOut_eq (r := nextMoment s) runs))

theorem exec_claimSpacingExpiry (running : s.running = true) (runs : s.share.spacingTimer.isSome = true) :
    exec .claimSpacingExpiry s =
      .next (finish { share := true } (nextMoment s) { nextMoment s with share := { s.share with spacingTimer := none } }) :=
  congrArg Host.Outcome.next
    ((whenRunning_of spacingEnds (nextMoment s) running).trans (spacingEnds_eq (r := nextMoment s) runs))

theorem leaseOut_sending_lapse (running : s.running = true) (inStep : s.member.state = .inStep) :
    (finish { share := true } (nextMoment s) s.leaseOut).sending .lapse := by
  refine finish_keeps _ _ .lapse _ (by decide) (by decide) (by decide) ?_
  unfold State.leaseOut
  rw [if_pos (by simp [State.inStep, inStep])]
  exact queueKind_sending _ _ (acceptsRequests_of _ .inStep inStep (by decide))

theorem spendable_of_expired {t : State} (expired : t.share.leaseExpired = true) : t.spendable = t.usable := by
  simp [State.spendable, State.borrowedCounts, expired]

/-- Whatever expiry calls for the share evaluation, wish and claim are decided at its end. -/
theorem wish_of_shareEvent (running : u.running = true) (r : State) :
    ((finish { share := true } r u).share.wishUnits, (finish { share := true } r u).share.wishRank) =
        (finish { share := true } r u).wish ∧ ClaimFollowsWish (finish { share := true } r u) := by
  rw [finish_of_running running]
  obtain ⟨w, at_⟩ := sharedAt_of_called (ev := { share := true }) (r := r) (u := u) (.inr rfl)
  refine ⟨?_, at_.claim⟩
  have share := at_.share_eq
  generalize finishRunning { share := true } r u = t at *
  rw [share]

end

/-- The return timer's expiry asks for a return of what is aside and touches nothing else. -/
theorem returnTimerExpiry_effect {s : State} {n : Nat} (running : s.running = true) (runs : s.share.returnTimer = .running n) :
    ∃ t, exec .returnTimerExpiry s = .next t ∧ t.share = { s.share with returnTimer := .expired } ∧
      (0 < s.share.aside → s.member.state ≠ .clash → t.sending .ret) ∧ (s.share.aside = 0 → t.bus = s.bus) ∧
      { t with moment := s.moment, share := s.share, bus := s.bus } = s := by
  have ran : exec .returnTimerExpiry s =
      .next (queueReturn { nextMoment s with share := { s.share with returnTimer := .expired } }) := by
    refine congrArg Host.Outcome.next ((whenRunning_of returnTimerEnds (nextMoment s) running).trans ?_)
    unfold returnTimerEnds
    rw [show (nextMoment s).share.returnTimer = .running n from runs]
    rfl
  refine ⟨_, ran, by simp, fun units noClash => ?_, fun none => ?_, state_eq (by simp)⟩
  · rw [queueReturn, if_pos units]
    exact queueKind_sending _ _ (acceptsRequests_of_running running noClash)
  · rw [queueReturn, if_neg (by simp [none])]; rfl

/-! ## The formulas -/

theorem spendable_eq (s : State) : s.spendable =
    if s.member.state = .inStep ∧ s.share.leaseExpired = false then
      s.usable + s.ownRow.borrowed - max s.ownRow.owed s.share.aside
    else s.usable := by
  simp [State.spendable, State.borrowedCounts, State.inStep]

theorem wish_eq (s : State) : s.wish =
    (if s.supply.state = .shed then 0
      else if 0 < s.claimFigure then min 63 s.claimFigure
      else if s.ownEntry.any (fun e => e.rank == .safety) = true then 0
      else if s.draftActive = false ∧ (s.overrides.economy.isSome = true ∨ s.zone.mode = .limp) then 0
      else min 63 (min s.capacity (s.zone.base + s.boost + s.spillFigure) + s.request - s.spendable - s.reclaimable),
      if s.supply.state ≠ .shed ∧ 0 < s.claimFigure then .safety
      else if s.draftActive = true then .draft else .normal) := by
  have entry : s.ownEntry.any (fun e => e.rank == .safety) = s.ownEntrySafety := by
    unfold State.ownEntrySafety; cases s.ownEntry <;> rfl
  have barred : (s.airRank = .normal ∧ s.normalBarred = true) ↔
      (s.draftActive = false ∧ (s.overrides.economy.isSome = true ∨ s.zone.mode = .limp)) := by
    unfold State.airRank State.normalBarred
    cases s.draftActive <;> simp
  have rank : s.airRank = if s.draftActive = true then Rank.draft else .normal := rfl
  unfold State.wish
  simp only [entry, barred, ← rank]
  by_cases shed : s.supply.state = .shed
  · simp [shed]
  · by_cases claim : 0 < s.claimFigure
    · simp [shed, claim]
    · simp only [shed, claim, if_false, ne_eq, not_false_eq_true, and_false]
      by_cases safety : s.ownEntrySafety = true
      · simp [safety]
      · by_cases normal : s.draftActive = false ∧ (s.overrides.economy.isSome = true ∨ s.zone.mode = .limp)
        · rw [if_pos (.inr normal), if_neg safety, if_pos normal]
        · rw [if_neg (fun h => h.elim safety normal), if_neg safety, if_neg normal]; rfl

theorem wishMatches_iff (s : State) : s.wishMatches = true ↔
    (s.ownEntry = none ∧ s.share.wishUnits = 0) ∨
      ∃ e, s.ownEntry = some e ∧ e.units = s.share.wishUnits ∧ e.rank = s.share.wishRank := by
  unfold State.wishMatches
  cases s.ownEntry <;> simp

theorem entryStands_iff (s : State) : s.entryStands = true ↔
    s.supply.state = .rideThrough ∧ s.defrost.state = .paused ∧ ∃ e, s.ownEntry = some e ∧ e.rank = .safety := by
  unfold State.entryStands State.gapPaused State.ownEntrySafety
  cases s.ownEntry <;> simp [and_assoc]

theorem applyBounds_rest (s : State) : { applyBounds s with share := s.share, bus := s.bus } = s := state_eq (by simp)

/-- How the bounds move the share unit. -/
theorem applyBounds_formulas (s : State) :
    (applyBounds s).share =
        { s.share with
          aside := (applyBounds s).share.aside, commit := (applyBounds s).share.commit
          returnTimer := (applyBounds s).share.returnTimer } ∧
      (applyBounds s).share.commit =
        (if s.supply.state = .shed then s.ownRow.borrowed else min s.share.commit s.ownRow.borrowed) ∧
      (applyBounds s).share.aside =
        (if s.supply.state = .shed ∨ s.member.state = .mismatched then s.ownRow.borrowed
        else
          max (min s.share.aside s.ownRow.borrowed)
            (max s.ownRow.owed
              (max (min s.share.commit s.ownRow.borrowed) (s.ownRow.safety - s.safetyKept)))) ∧
      (applyBounds s).share.returnTimer =
        (if s.share.aside = 0 ∧ 0 < (applyBounds s).share.aside then .running s.loader.vt.returnTimer
        else if 0 < s.share.aside ∧ (applyBounds s).share.aside = 0 then .stopped
        else s.share.returnTimer) := by
  have share : (applyBounds s).share = { s.share with
      aside := (applyBounds s).share.aside, commit := s.boundCommit
      returnTimer :=
        if s.share.aside = 0 ∧ 0 < (applyBounds s).share.aside then .running s.loader.vt.returnTimer
        else if 0 < s.share.aside ∧ (applyBounds s).share.aside = 0 then .stopped
        else s.share.returnTimer } := by
    rw [applyBounds_aside, applyBounds_share, setAside_share]; rfl
  have aside : (setCommit s.boundCommit s).boundAside =
      if s.supply.state = .shed ∨ s.member.state = .mismatched then s.ownRow.borrowed
      else max (min s.share.aside s.ownRow.borrowed) (max s.ownRow.owed (max s.boundCommit (s.ownRow.safety - s.safetyKept))) :=
    rfl
  refine ⟨?_, applyBounds_commit s, ?_, ?_⟩
  · rw [share]
  · rw [applyBounds_aside, aside]
    by_cases shed : s.supply.state = .shed ∨ s.member.state = .mismatched
    · rw [if_pos shed, if_pos shed]
    · rw [if_neg shed, if_neg shed, State.boundCommit, if_neg (fun h => shed (.inl h))]
  · exact congrArg ShareUnit.returnTimer share

theorem triggerReturn_rest (ev : Ev) (before s : State) : { triggerReturn ev before s with bus := s.bus } = s :=
  state_eq (by simp)

theorem triggerReturn_sending {ev : Ev} {before s : State} (triggered : returnTriggered ev before s = true)
    (units : 0 < s.share.aside) (running : s.running = true) (noClash : s.member.state ≠ .clash) :
    (triggerReturn ev before s).sending .ret := by
  rw [triggerReturn, if_pos triggered, queueReturn, if_pos units]
  exact queueKind_sending _ _ (acceptsRequests_of_running running noClash)

theorem triggerReturn_of_not {ev : Ev} {before s : State} (idle : returnTriggered ev before s = false ∨ s.share.aside = 0) :
    triggerReturn ev before s = s := by
  unfold triggerReturn queueReturn
  obtain quiet | none := idle
  · rw [if_neg (by simp [quiet])]
  · rw [if_neg (c := 0 < s.share.aside) (by omega)]; split <;> rfl

/-! ## A frame that raises the own owed or fills the claim queue -/

theorem filteredFrame_loader (own : Option OwnFrame) (address : Nat) (s : State) :
    (filteredFrame own address s).loader = s.loader := by
  unfold filteredFrame
  dsimp only
  split <;> simp

/-- A frame that recalls from the own row, or brings the first waiting claim, asks for a return. -/
theorem return_of_frame {c : Instr} {codes : Sensors} {address : BitVec 4} {b : Bulletin} {s : State}
    (frame : frameOf c = some (codes, address, b)) (running : s.running = true) (law : RowsLaw s.table) :
    ∃ t, exec c s = .next t ∧
      (s.ownRow.owed < t.ownRow.owed → t.member.state ≠ .clash → t.sending .ret) ∧
      (s.table.queue = [] → t.table.queue ≠ [] → 0 < t.share.aside → t.member.state ≠ .clash → t.sending .ret) := by
  refine ⟨_, exec_of_frameOf frame s, ?_⟩
  cases passes : s.passes address.toNat b with
  | false =>
    have table : (completeFrame codes address b s).table = s.table := by
      rw [completeFrame_of_filtered codes address b s running passes]; simp
    have loader : (completeFrame codes address b s).loader = s.loader := by
      rw [completeFrame_of_filtered codes address b s running passes]; simp [filteredFrame_loader]
    have row : (completeFrame codes address b s).ownRow = s.ownRow := by
      simp only [State.ownRow, State.me, loader, table]
    exact ⟨fun rises => absurd rises (by rw [row]; omega), fun empty filled => absurd (table ▸ empty) filled⟩
  | true =>
    rw [completeFrame_of_passes codes address b s running passes]
    have runs : (course address.toNat b (s.heardFrame codes)).state.running = true := running_course _ _ running
    have rows : RowsLaw (course address.toNat b (s.heardFrame codes)).state.table := by
      rw [course_table]; exact rowsLaw_tableAfter _ _ _ _ law _
    rw [finish_of_running runs]
    generalize (course address.toNat b (s.heardFrame codes)).ev = ev
    generalize (course address.toNat b (s.heardFrame codes)).state = u at *
    have settled := sameFigures_settled ev (s.heardFrame codes) u
    have ends := (running_finishRunning ev (s.heardFrame codes) u).trans runs
    have within := asideWithin_finishRunning ev (s.heardFrame codes) (s := u) rows
    have asks : ∀ (called : evaluates ev (s.heardFrame codes) (settle (u.served ev (s.heardFrame codes))) = true ∨
          evaluatesShare ev (s.heardFrame codes) (settle (u.served ev (s.heardFrame codes))) = true)
        (due : (0 < (finishRunning ev (s.heardFrame codes) u).ownRow.owed ∧
            s.ownRow.owed < (finishRunning ev (s.heardFrame codes) u).ownRow.owed) ∨
          ((finishRunning ev (s.heardFrame codes) u).table.queue ≠ [] ∧ s.table.queue = [])),
        0 < (finishRunning ev (s.heardFrame codes) u).share.aside →
        (finishRunning ev (s.heardFrame codes) u).member.state ≠ .clash →
        (finishRunning ev (s.heardFrame codes) u).sending .ret := by
      intro called due units noClash
      obtain ⟨w, at_⟩ := sharedAt_of_called called
      refine at_.ret ?_ units (acceptsRequests_of_running ends noClash)
      have same : SameFigures (claimDecision (setWish (adjustAside (s.heardFrame codes) (applyBounds w)))) w := by
        refine ⟨?_, ?_, ?_, ?_, ?_, ?_, ?_, ?_⟩ <;> simp
      have figures := same.trans at_.after
      rw [returnTriggered_iff, ← figures.ownRow, ← figures.table]
      obtain ⟨owed, rises⟩ | ⟨filled, empty⟩ := due
      · exact .inr (.inr (.inr (.inl ⟨owed, .inr (.inr rises)⟩)))
      · exact .inr (.inr (.inr (.inr ⟨filled, .inr (.inl empty)⟩)))
    refine ⟨fun rises noClash => ?_, fun empty filled units noClash => ?_⟩
    · refine asks (.inl ((evaluates_iff _ _ _).mpr (.inr (.inr (.inr (.inr (.inl ?_))))))) (.inl ⟨by omega, rises⟩) ?_ noClash
      · rw [← settled.ownRow]; exact rises
      · have floor := within.1; omega
    · refine asks (.inr (evaluatesShare_of_called (.inr (.inr (.inr (.inl ?_)))) ev)) (.inr ⟨filled, empty⟩) units noClash
      rw [← settled.table]
      have before : (s.heardFrame codes).table.congested = false := by
        rw [← Bool.not_eq_true, congested_iff]; exact fun h => h empty
      rw [before, (congested_iff _).mpr filled]; simp

/-! ## Units set aside and reclaimed -/

theorem adjusts_iff (before s : State) :
    (s.borrowedCounts && !gapBegins before s) = true ↔ s.member.state = .inStep ∧ s.share.leaseExpired = false ∧
      ¬(before.supply.state = .live ∧ s.supply.state = .rideThrough) := by
  simp only [State.borrowedCounts, State.inStep, gapBegins, Bool.and_eq_true, Bool.not_eq_true', Bool.and_eq_false_iff,
    beq_iff_eq, beq_eq_false_iff_ne, Classical.not_and_iff_not_or_not, and_assoc, ne_eq]

theorem adjustAside_of_barred {before s : State} (barred : s.member.state ≠ .inStep ∨ s.share.leaseExpired = true ∨
    (before.supply.state = .live ∧ s.supply.state = .rideThrough)) : adjustAside before s = s := by
  unfold adjustAside
  rw [if_neg]
  rw [adjusts_iff]
  rintro ⟨inStep, current, noGap⟩
  obtain out | expired | gap := barred
  · exact out inStep
  · simp [current] at expired
  · exact noGap gap

/-- Units aside behind reclaiming or setting aside. -/
def State.asideNow (s : State) : Nat :=
  if s.spendable < s.wanted then s.share.aside - min (s.wanted - s.spendable) s.reclaimable
  else s.share.aside + min (s.spendable - max (s.wanted + s.keptInGap) s.stationLoad)
    (s.ownRow.borrowed - s.share.aside - s.keptInGap)

theorem adjustAside_of_counts {before s : State} (inStep : s.member.state = .inStep)
    (current : s.share.leaseExpired = false) (noGap : ¬(before.supply.state = .live ∧ s.supply.state = .rideThrough)) :
    adjustAside before s = setAside s.asideNow s := by
  unfold adjustAside State.asideNow
  rw [if_pos ((adjusts_iff before s).mpr ⟨inStep, current, noGap⟩)]
  split <;> rfl

theorem adjustAside_rest (before s : State) : { adjustAside before s with share := s.share, bus := s.bus } = s :=
  state_eq (by simp)

theorem adjustAside_share_rest (before s : State) :
    (adjustAside before s).share =
      { s.share with
        aside := (adjustAside before s).share.aside, returnTimer := (adjustAside before s).share.returnTimer } := by
  unfold adjustAside
  (repeat' split)
  · rw [setAside_share]
  · rw [setAside_share]
  · rfl

theorem setAside_none_withdraws {s : State} (some : 0 < s.share.aside) (grounded : s.flying .ret = false) :
    (setAside 0 s).hasTx .ret = false := by
  unfold setAside
  rw [if_neg (by omega), if_pos ⟨some, rfl⟩]
  exact withdrawKind_gone .ret _ grounded

theorem keptInGap_eq (s : State) : s.keptInGap =
    if s.supply.state = .rideThrough ∧ s.defrost.state = .paused then
      min s.safetyKept (min s.safetyHeld (s.ownRow.borrowed - s.share.aside))
    else 0 := by
  simp [State.keptInGap, State.gapPaused]

/-- Settles O36. -/
theorem shareUnitTimers : Obligations.ShareUnitTimers := by
  refine ⟨fun s running => ⟨fun runs => ?_, fun runs => ?_, fun n runs => returnTimerExpiry_effect running runs⟩,
    spendable_eq, wish_eq, wishMatches_iff, entryStands_iff, fun s => ⟨claimDecision_rest s, claimDecision_follows s⟩,
    fun s => ⟨applyBounds_rest s, applyBounds_formulas s⟩,
    fun ev before s => ⟨returnTriggered_iff ev before s, triggerReturn_rest ev before s, triggerReturn_sending,
      triggerReturn_of_not⟩,
    fun c codes address b s => return_of_frame, fun before s => ?_⟩
  · have moved := leaseOut_moved s
    refine ⟨_, exec_leaseTimerExpiry running runs, ?_, ?_, ?_, leaseOut_sending_lapse running,
      moved.evaluated running rfl, by simp [moved.table], by simp [moved.doors], by simp [moved.overrides],
      by simp [moved.supply]⟩
    · simp [moved.own]
    · simp [moved.own]
    · exact spendable_of_expired (by simp [moved.own])
  · obtain ⟨wish, claim⟩ := wish_of_shareEvent (u := { nextMoment s with share := { s.share with spacingTimer := none } })
      running (nextMoment s)
    exact ⟨_, exec_claimSpacingExpiry running runs, by simp, by simp, wish, claim,
      (spacingOut_moved s).evaluated running rfl, by simp, by simp, by simp⟩
  · refine ⟨rfl, rfl, adjustAside_of_barred, adjustAside_rest before s, adjustAside_share_rest before s, keptInGap_eq s,
      fun inStep current noGap => ?_⟩
    rw [adjustAside_of_counts inStep current noGap, setAside_aside]
    refine ⟨fun short => if_pos short, fun enough none => ?_, fun enough kept => if_neg (by omega), fun empty units => ?_,
      fun some units => ⟨?_, fun grounded => ?_⟩, fun some units => ?_⟩
    · rw [State.asideNow, if_neg (by omega), none, Nat.add_zero, Nat.sub_zero]
    · rw [setAside_share, if_pos ⟨empty, units⟩]
    · rw [setAside_share, if_neg (by omega), if_pos ⟨some, units⟩]
    · rw [units]; exact setAside_none_withdraws some grounded
    · rw [setAside_share, if_neg (by omega), if_neg (by omega)]

end Sys2Proof.Machine
end

section
/-! The defrost unit's check and the cab's sensors: the periodic evaluation and the expiry of a stage's minimum time. -/

namespace Sys2Proof.Machine

/-! ## The defrost unit's check, wherever the figures are the same -/

namespace SameFigures
variable {s t : State} (same : SameFigures s t)
include same

theorem defrostWanted : t.defrostWanted = s.defrostWanted := by
  simp only [State.defrostWanted, State.defrostMode, State.coldOutside, same.overrides, same.defrost, same.doors,
    same.loader]

theorem rampedDefrost : t.rampedDefrost = s.rampedDefrost := rampedDefrost_congr same.loader same.defrost

theorem enterWaiting_defrost : (enterWaiting t).defrost = (enterWaiting s).defrost := by
  rw [enterWaiting_eq, enterWaiting_eq, same.loader, same.safetyHeld, same.rampedDefrost, same.defrost]

theorem checkDefrost_defrost : (checkDefrost t).defrost = (checkDefrost s).defrost := by
  rw [checkDefrost_eq, checkDefrost_eq, same.isCab, same.defrost, same.defrostWanted, same.live, same.member,
    same.enterWaiting_defrost]

theorem compareScreen_defrost : (compareScreen t).defrost = (compareScreen s).defrost := by
  have clear : t.screenClear = s.screenClear := by
    simp only [State.screenClear, same.defrost, same.loader]
  rw [compareScreen_eq, compareScreen_eq, same.defrost, clear, same.loader]

end SameFigures

/-- The check on a cab whose defrost is off, as the statements say it. -/
theorem defrostChecked_of_eq {s t : State} (cab : s.isCab = true) (off : s.defrost.state = .off)
    (checked : t.defrost = (checkDefrost s).defrost) : DefrostChecked s t := by
  rw [checkDefrost_eq] at checked
  unfold DefrostChecked
  rw [← defrostWanted_iff, defrostRamps_iff, checked]
  refine ⟨fun unwanted => if_neg (fun h => unwanted h.2.2), fun wanted => ?_⟩
  rw [if_pos ⟨cab, off, wanted⟩]
  refine ⟨fun live noClash => ?_, fun barred => if_neg ?_⟩
  · rw [if_pos ⟨live, noClash⟩, enterWaiting_eq]
    exact ⟨fun short => if_neg (by omega), fun enough => if_pos enough⟩
  · rintro ⟨live, noClash⟩
    obtain dead | clash := barred
    · simp [dead] at live
    · exact noClash clash

theorem rampedDefrost_state (s : State) :
    s.rampedDefrost.state ≠ .waiting ∧ s.rampedDefrost.state ≠ .off ∧
      (s.rampedDefrost.state = .ramp → s.screenClear = false) := by
  simp only [State.rampedDefrost]
  by_cases clear : s.screenClear = true
  · simp [clear]
  · simp [clear]

/-- A check leads to waiting only while units are missing, and to ramp only while the screen is not clear. -/
theorem checkDefrost_off_settled {s : State} (off : s.defrost.state = .off) :
    ((checkDefrost s).defrost.state = .waiting → s.safetyHeld < s.loader.vt.defrostUnits) ∧
      ((checkDefrost s).defrost.state = .ramp → s.screenClear = false) := by
  obtain ⟨notWaiting, _, blurred⟩ := rampedDefrost_state s
  rw [checkDefrost_eq, enterWaiting_eq]
  (repeat' split)
  · exact ⟨fun h => absurd h notWaiting, blurred⟩
  · exact ⟨fun _ => by omega, nofun⟩
  · exact ⟨nofun, nofun⟩
  · rw [off]; exact ⟨nofun, nofun⟩

theorem checkDefrost_screenClear (s : State) : (checkDefrost s).screenClear = s.screenClear := by
  have screen : (checkDefrost s).defrost.screen = s.defrost.screen := by
    rw [checkDefrost_eq, enterWaiting_eq]
    (repeat' split) <;> rfl
  simp only [State.screenClear, screen, checkDefrost_frame]

/-! ## The cab's sensors are read -/

/-- The state with the cab's sensors taken over. -/
def State.cabRead (s : State) (codes : Sensors) : State :=
  { s with
    doors := { s.doors with outdoor := readingOf codes.outdoor }
    defrost := { s.defrost with screen := readingOf codes.screen } }

theorem readCabSensors_of_cab {s : State} (cab : s.isCab = true) :
    readCabSensors s = compareScreen (if readingOf s.pins.sensors.outdoor = s.doors.outdoor then s.cabRead s.pins.sensors
      else checkDefrost (s.cabRead s.pins.sensors)) := by
  unfold readCabSensors
  rw [if_pos cab]
  rfl

theorem readCabSensors_of_saloon {s : State} (saloon : s.isCab = false) : readCabSensors s = s := by
  unfold readCabSensors
  rw [if_neg (by simp [saloon])]

theorem readCabSensors_doors (s : State) :
    (readCabSensors s).doors =
      if s.isCab = true then { s.doors with outdoor := readingOf s.pins.sensors.outdoor } else s.doors := by
  cases cab : s.isCab with
  | false => rw [readCabSensors_of_saloon cab]; rfl
  | true =>
    rw [readCabSensors_of_cab cab]
    split <;> simp [State.cabRead]

theorem readingOf_eq (code : Byte) :
    readingOf code = if -80 ≤ code.toInt ∧ code.toInt ≤ 120 then some code.toInt else none := by
  unfold readingOf tempOf
  by_cases unknown : code = Byte.unknown
  · subst unknown; decide
  · rw [if_neg unknown]

section
variable {codes : Sensors} {s x : State} {t : State}

/-- The defrost block behind the reading of the cab's sensors. -/
theorem readCabSensors_block (same : SameFigures (s.cabRead codes) (x.cabRead codes)) (sensors : x.pins.sensors = codes)
    (outdoor : x.doors.outdoor = s.doors.outdoor) (cab : x.isCab = true) :
    (readCabSensors x).defrost =
      if s.defrost.state = .off then
        if readingOf codes.outdoor = s.doors.outdoor then (s.cabRead codes).defrost
        else (checkDefrost (s.cabRead codes)).defrost
      else (compareScreen (s.cabRead codes)).defrost := by
  have stateRead : (x.cabRead codes).defrost.state = s.defrost.state :=
    (congrArg Defrost.state same.defrost :)
  rw [readCabSensors_of_cab cab, sensors, outdoor, ← same.checkDefrost_defrost, ← same.compareScreen_defrost, ← same.defrost]
  by_cases still : readingOf codes.outdoor = s.doors.outdoor
  · rw [if_pos still, if_pos still]
    by_cases off : s.defrost.state = .off
    · rw [if_pos off, compareScreen_eq, if_neg (by rw [stateRead, off]; simp)]
    · rw [if_neg off]
  · rw [if_neg still, if_neg still]
    by_cases off : s.defrost.state = .off
    · obtain ⟨_, blurred⟩ := checkDefrost_off_settled (stateRead.trans off)
      rw [if_pos off, compareScreen_eq, if_neg]
      rintro ⟨ramp, clear⟩
      rw [checkDefrost_screenClear, blurred ramp] at clear
      cases clear
    · have unmoved : (checkDefrost (x.cabRead codes)).defrost = (x.cabRead codes).defrost := by
        rw [checkDefrost_eq, if_neg (fun h => off (stateRead ▸ h.2.1))]
      have figures : SameFigures (x.cabRead codes) (checkDefrost (x.cabRead codes)) :=
        ⟨by simp, by simp, by simp, by simp, unmoved, by simp, by simp, by simp⟩
      rw [if_neg off, figures.compareScreen_defrost]

/-- What the reading of the cab's sensors makes of the defrost block, the look at the event included. -/
theorem defrostReads_of_served (same : SameFigures (s.cabRead codes) (x.cabRead codes)) (sensors : x.pins.sensors = codes)
    (outdoor : x.doors.outdoor = s.doors.outdoor) (isCab : x.isCab = s.isCab)
    (saloon : s.isCab = false → x.defrost = s.defrost)
    (ended : t.defrost =
      if (readCabSensors x).isCab = true ∧ (readCabSensors x).defrost.state = .waiting ∧
          (readCabSensors x).loader.vt.defrostUnits ≤ (readCabSensors x).safetyHeld then
        (readCabSensors x).rampedDefrost
      else (readCabSensors x).defrost) :
    (s.isCab = false → t.defrost = s.defrost) ∧
      (s.isCab = true →
        (s.defrost.state = .off →
          (readingOf codes.outdoor = s.doors.outdoor → t.defrost = (s.cabRead codes).defrost) ∧
            (readingOf codes.outdoor ≠ s.doors.outdoor → DefrostChecked (s.cabRead codes) t)) ∧
          (s.defrost.state = .waiting →
            (s.safetyHeld < s.loader.vt.defrostUnits → t.defrost = (s.cabRead codes).defrost) ∧
              (s.loader.vt.defrostUnits ≤ s.safetyHeld → DefrostRamps (s.cabRead codes) t)) ∧
          (s.defrost.state = .ramp →
            ((∃ y, (s.cabRead codes).defrost.screen = some y ∧ s.loader.vt.clearTemp ≤ y) →
                t.defrost = { (s.cabRead codes).defrost with state := .hold, phase := some s.loader.vt.holdTime }) ∧
              (¬(∃ y, (s.cabRead codes).defrost.screen = some y ∧ s.loader.vt.clearTemp ≤ y) →
                t.defrost = (s.cabRead codes).defrost)) ∧
          (s.defrost.state = .hold ∨ s.defrost.state = .trim ∨ s.defrost.state = .paused →
            t.defrost = (s.cabRead codes).defrost)) := by
  have loader : (readCabSensors x).loader = x.loader := by simp
  have held : (readCabSensors x).safetyHeld = s.safetyHeld :=
    (show (readCabSensors x).safetyHeld = x.safetyHeld by
      simp only [State.safetyHeld, State.ownRow, State.me, readCabSensors_frame]).trans same.safetyHeld
  have cabT : (readCabSensors x).isCab = s.isCab := by
    rw [← isCab]; simp only [State.isCab, State.entry, State.me, loader]
  have vt : x.loader = s.loader := same.loader
  rw [cabT, loader, held, vt] at ended
  refine ⟨fun isSaloon => ?_, fun cab => ?_⟩
  · rw [ended, if_neg (by simp [isSaloon]), readCabSensors_of_saloon (isCab.trans isSaloon)]
    exact saloon isSaloon
  have clear : (s.cabRead codes).screenClear = true ↔
      ∃ y, (s.cabRead codes).defrost.screen = some y ∧ s.loader.vt.clearTemp ≤ y := screenClear_iff _
  have stateRead : (s.cabRead codes).defrost.state = s.defrost.state := rfl
  have block := readCabSensors_block same sensors outdoor (isCab.trans cab)
  have stays : s.defrost.state ≠ .off → s.defrost.state ≠ .ramp →
      (readCabSensors x).defrost = (s.cabRead codes).defrost := by
    intro notOff notRamp
    rw [block, if_neg notOff, compareScreen_eq, if_neg (fun h => notRamp h.1)]
  refine ⟨fun off => ?_, fun waiting => ?_, fun ramp => ?_, fun other => ?_⟩
  · have settled := checkDefrost_off_settled (s := s.cabRead codes) off
    rw [if_pos off] at block
    refine ⟨fun still => ?_, fun moved => defrostChecked_of_eq cab off ?_⟩
    · rw [if_pos still] at block
      rw [ended, block, if_neg (by rw [stateRead, off]; simp)]
    · rw [if_neg moved] at block
      have short : (readCabSensors x).defrost.state = .waiting → s.safetyHeld < s.loader.vt.defrostUnits := by
        rw [block]; exact settled.1
      rw [ended, if_neg (fun h => by have := short h.2.1; omega), block]
  · have same := stays (by simp [waiting]) (by simp [waiting])
    rw [ended, same, stateRead]
    refine ⟨fun short => if_neg (fun h => by omega), fun enough => defrostRamps_of_ramped ?_⟩
    rw [ended, same, stateRead, if_pos ⟨cab, waiting, enough⟩]
    exact rampedDefrost_congr (s := s.cabRead codes) (loader.trans vt) same
  · rw [if_neg (by simp [ramp]), compareScreen_eq, stateRead] at block
    rw [← clear]
    refine ⟨fun isClear => ?_, fun blurred => ?_⟩
    · rw [if_pos ⟨ramp, isClear⟩] at block
      rw [ended, block, if_neg (by simp)]; rfl
    · rw [if_neg (fun h => blurred h.2)] at block
      rw [ended, block, if_neg (by rw [stateRead, ramp]; simp)]
  · have same := stays (by obtain h | h | h := other <;> simp [h]) (by obtain h | h | h := other <;> simp [h])
    rw [ended, same, if_neg (by rw [stateRead]; obtain h | h | h := other <;> simp [h])]

end

end Sys2Proof.Machine
end

section
/-! Settles O40: the periodic evaluation. -/

namespace Sys2Proof.Machine

/-! ## Sensors, median and demand -/

theorem updated_of_unread {code : Byte} (unread : ¬(-80 ≤ code.toInt ∧ code.toInt ≤ 120)) (a : AirSensor) (periodic : Bool) :
    a.updated periodic code = { validity := .invalid, recovery := 0 } ∧ a.value code = none := by
  have none : readingOf code = none := (readingOf_eq code).trans (if_neg unread)
  unfold AirSensor.updated AirSensor.value
  rw [none]
  exact ⟨rfl, by cases a.validity <;> rfl⟩

theorem updated_of_read {code : Byte} (read : -80 ≤ code.toInt ∧ code.toInt ≤ 120) (a : AirSensor) (periodic : Bool) :
    a.updated periodic code =
        (if a.validity = .invalid then
          if periodic = true then
            if a.recovery < 2 then { validity := .invalid, recovery := a.recovery + 1 }
            else { validity := .valid, recovery := 0 }
          else a
        else { validity := .valid, recovery := 0 }) ∧
      a.value code = if a.validity = .valid then some code.toInt else none := by
  have some : readingOf code = some code.toInt := (readingOf_eq code).trans (if_pos read)
  unfold AirSensor.updated AirSensor.value
  rw [some]
  cases a.validity <;> exact ⟨rfl, rfl⟩

theorem updated_periodic {code : Byte} (read : -80 ≤ code.toInt ∧ code.toInt ≤ 120) (a : AirSensor) :
    a.updated true code =
      if a.validity = .invalid ∧ a.recovery < 2 then { validity := .invalid, recovery := a.recovery + 1 }
      else { validity := .valid, recovery := 0 } := by
  rw [(updated_of_read read a true).1]
  by_cases invalid : a.validity = .invalid
  · by_cases few : a.recovery < 2 <;> simp [invalid, few]
  · simp [invalid]

/-- An invalid sensor counts as valid again with the third reading in turn. -/
theorem recovers_with_third {a : AirSensor} {c1 c2 c3 : Byte} (invalid : a.validity = .invalid) (fresh : a.recovery = 0)
    (r1 : -80 ≤ c1.toInt ∧ c1.toInt ≤ 120) (r2 : -80 ≤ c2.toInt ∧ c2.toInt ≤ 120) (r3 : -80 ≤ c3.toInt ∧ c3.toInt ≤ 120) :
    (a.updated true c1).validity = .invalid ∧ ((a.updated true c1).updated true c2).validity = .invalid ∧
      (((a.updated true c1).updated true c2).updated true c3).validity = .valid := by
  have first : a.updated true c1 = { validity := .invalid, recovery := 1 } := by
    rw [updated_periodic r1, invalid, fresh]; rfl
  have second : (a.updated true c1).updated true c2 = { validity := .invalid, recovery := 2 } := by
    rw [first, updated_periodic r2]; rfl
  exact ⟨by rw [first], by rw [second], by rw [second, updated_periodic r3]; rfl⟩

theorem median_is_middle (x y z : Int) :
    median x y z ∈ [x, y, z] ∧ 2 ≤ ([x, y, z].filter (fun v => decide (v ≤ median x y z))).length ∧
      2 ≤ ([x, y, z].filter (fun v => decide (median x y z ≤ v))).length := by
  have cases : (median x y z = x ∧ ((y ≤ x ∧ x ≤ z) ∨ (z ≤ x ∧ x ≤ y))) ∨
      (median x y z = y ∧ ((x ≤ y ∧ y ≤ z) ∨ (z ≤ y ∧ y ≤ x))) ∨
      (median x y z = z ∧ ((x ≤ z ∧ z ≤ y) ∨ (y ≤ z ∧ z ≤ x))) := by
    unfold median; omega
  obtain ⟨eq, ⟨low, high⟩ | ⟨low, high⟩⟩ | ⟨eq, ⟨low, high⟩ | ⟨low, high⟩⟩ | ⟨eq, ⟨low, high⟩ | ⟨low, high⟩⟩ := cases
  all_goals
    rw [eq]
    simp only [List.filter_cons, low, high, Int.le_refl]
    refine ⟨by simp, ?_, ?_⟩ <;> simp <;> split <;> simp

theorem activeDemand_eq (capacity gain : Nat) (p x : Int) :
    activeDemand capacity gain (some p) (some x) = if p - x ≤ 0 then 0 else min capacity ((p - x).toNat * gain) := by
  show min capacity ((p - x).toNat * gain) = _
  by_cases below : p - x ≤ 0
  · have none : (p - x).toNat = 0 := by omega
    simp [none, below]
  · exact (if_neg below).symm

/-! ## Events that leave the table and the own row -/

/-- An event that hands the defrost unit no loss: its block is `s`'s, but for leaving waiting when the units are held. -/
theorem finishRunning_defrost_unraised {ev : Ev} {r u s : State} (same : SameFigures s u)
    (raised : (owedRaised ev r u || ev.cleared) = false) :
    (finishRunning ev r u).defrost =
      if s.isCab = true ∧ s.defrost.state = .waiting ∧ s.loader.vt.defrostUnits ≤ s.safetyHeld then s.rampedDefrost
      else s.defrost := by
  rw [finishRunning_defrost_eq, served_of_unraised raised, same.isCab, same.defrost, same.loader, same.safetyHeld,
    same.rampedDefrost]

theorem defrostSees_of_unraised {s t : State} (row : t.ownRow = s.ownRow)
    (ended : t.defrost =
      if s.isCab = true ∧ s.defrost.state = .waiting ∧ s.loader.vt.defrostUnits ≤ s.safetyHeld then s.rampedDefrost
      else s.defrost) : DefrostSees False s t := by
  have held : t.safetyHeld = s.safetyHeld := by simp only [State.safetyHeld, row]
  unfold DefrostSees
  rw [defrostRamps_iff, ended, row, held]
  refine ⟨fun quiet => if_neg ?_, fun cab waiting => ⟨fun enough => if_pos ⟨cab, waiting, enough⟩, fun short => if_neg ?_⟩,
    fun cab under => ⟨fun lost => ?_, fun _ => if_neg ?_⟩⟩
  · rintro ⟨cab, waiting, _⟩
    obtain h | h | h := quiet
    · simp [h] at cab
    · simp [h] at waiting
    · simp [h] at waiting
  · omega
  · exact absurd lost.1 (by simp)
  · rintro ⟨_, waiting, _⟩
    simp [waiting] at under

/-! ## The periodic evaluation -/

theorem periodEnds_eq {r : State} (runs : r.zone.period.isSome = true) :
    periodEnds r =
      finish { periodic := true } r (readCabSensors { r with zone := { r.zone with period := some evaluationPeriod } }) := by
  obtain ⟨n, timer⟩ := Option.isSome_iff_exists.mp runs
  unfold periodEnds
  rw [timer]

/-- The state of a periodic evaluation before the sensors of the cab are read. -/
def State.periodBegun (s : State) (codes : Sensors) : State :=
  { begin codes s with zone := { s.zone with period := some evaluationPeriod } }

theorem exec_periodicEvaluation {s : State} {codes : Sensors} (running : s.running = true)
    (runs : s.zone.period.isSome = true) :
    exec (.periodicEvaluation codes) s =
      .next (finishRunning { periodic := true } (begin codes s) (readCabSensors (s.periodBegun codes))) := by
  have runsU : (readCabSensors (s.periodBegun codes)).running = true := (running_of_member (by simp; rfl)).trans running
  refine congrArg Host.Outcome.next ((whenRunning_of periodEnds (begin codes s) running).trans ?_)
  exact (periodEnds_eq (r := begin codes s) runs).trans (finish_of_running runsU _ _)

section
variable {codes : Sensors} {s t : State}

theorem called_of_periodic (r u : State) : evaluates { periodic := true } r (settle (u.served { periodic := true } r)) = true :=
  (evaluates_iff _ _ _).mpr (.inl rfl)

theorem called_of_evaluate (r u : State) : evaluates { evaluate := true } r (settle (u.served { evaluate := true } r)) = true :=
  (evaluates_iff _ _ _).mpr (.inr (.inl rfl))

theorem shareEvaluated_of_ended {ev : Ev} {r u e : State} (ended : finishRunning ev r u = t) (running : u.running = true)
    (stands : StandsFor e (u.served ev r))
    (called : evaluates ev r (settle (u.served ev r)) = true ∨ evaluatesShare ev r (settle (u.served ev r)) = true)
    (base : e.zone.base = t.zone.base) (gap : gapBegins r u = gapBegins e u) (aside : r.share.aside = e.share.aside)
    (notRecalled : ev.recalled = false) (notReturned : ev.returnDone = false)
    (figures : r.loader = u.loader ∧ r.table = u.table) (queued : u.hasTx .ret = e.hasTx .ret) : ShareEvaluated e t := by
  subst ended
  exact shareEvaluated_of_called running stands called base gap aside notRecalled notReturned figures queued

theorem stagesRegulated_of_ended {ev : Ev} {r u e : State} (ended : finishRunning ev r u = t) (running : u.running = true)
    (stands : StandsFor e (u.served ev r)) (called : evaluates ev r (settle (u.served ev r)) = true) :
    StagesRegulated e t := by
  subst ended
  exact stagesRegulated_of_called running stands called

/-- The periodic evaluation reads, measures, decides the shares and regulates the stages. -/
theorem periodicEvaluation_effect (running : s.running = true)
    (ended : finishRunning { periodic := true } (begin codes s) (readCabSensors (s.periodBegun codes)) = t) :
    t.zone.period = some 1000 ∧ t.zone.pendingFlag = false ∧ SensorsRead true codes s t ∧ ZoneMeasured codes t ∧
      t.doors = (if s.isCab = true then { s.doors with outdoor := readingOf codes.outdoor } else s.doors) ∧
      DefrostReads s { s with doors := t.doors, defrost := { s.defrost with screen := readingOf codes.screen } } t ∧
      ShareEvaluated { s with doors := t.doors, defrost := t.defrost, zone := { s.zone with base := t.zone.base } } t ∧
      StagesRegulated { s with doors := t.doors, defrost := t.defrost } t := by
  have called := called_of_periodic (begin codes s) (readCabSensors (s.periodBegun codes))
  have isCab : (s.periodBegun codes).isCab = s.isCab := rfl
  have doors : t.doors = (readCabSensors (s.periodBegun codes)).doors := by rw [← ended]; simp
  have doorsT : t.doors = if s.isCab = true then { s.doors with outdoor := readingOf codes.outdoor } else s.doors := by
    rw [doors, readCabSensors_doors, isCab]; rfl
  have runsU : (readCabSensors (s.periodBegun codes)).running = true := (running_of_member (by simp; rfl)).trans running
  have stands : ∀ e : State, e.loader = s.loader → e.table = s.table → e.supply = s.supply → e.doors = t.doors →
      e.overrides = s.overrides → e.member = s.member → e.defrost = t.defrost → e.share = s.share →
      e.zone.stages = s.zone.stages → e.bus = s.bus →
      StandsFor e ((readCabSensors (s.periodBegun codes)).served { periodic := true } (begin codes s)) := by
    intro e loader table supply doorsE overrides member defrost share stages bus
    exact standsFor_served (loader.trans (by simp; rfl)) (table.trans (by simp; rfl)) (supply.trans (by simp; rfl)) (doorsE.trans doors)
      (overrides.trans (by simp; rfl)) (by rw [member]; simp; rfl) (by rw [defrost, ended]) (share.trans (by simp; rfl))
      (by rw [stages]; simp; rfl) (flight_of_bus (by rw [bus]; simp; rfl))
  refine ⟨?_, ?_, ?_, ?_, doorsT, ?_, ?_, ?_⟩
  · rw [← ended]; simp; rfl
  · rw [← ended, evaluated_pendingFlag called]; simp
  · have read := evaluated_sensors called
    rw [ended] at read
    simp only [readCabSensors_frame] at read
    exact read
  · rw [← ended]; exact zoneMeasured_of_called (by simp; rfl) called
  · have raised := unraised_of_table (ev := { periodic := true }) (r := begin codes s)
      (u := readCabSensors (s.periodBegun codes)) ⟨rfl, rfl⟩ (by simp; rfl) (by simp; rfl)
    obtain ⟨saloon, cab⟩ := defrostReads_of_served (s := s) (codes := codes) (x := s.periodBegun codes) (t := t)
      ⟨rfl, rfl, rfl, rfl, rfl, rfl, rfl, rfl⟩ rfl rfl rfl (fun _ => rfl) (by rw [← ended, finishRunning_defrost_eq, served_of_unraised raised])
    refine ⟨saloon, fun isCab => ?_⟩
    have named : ({ s with doors := t.doors, defrost := { s.defrost with screen := readingOf codes.screen } } : State) =
        s.cabRead codes := by rw [doorsT, if_pos isCab]; rfl
    rw [named]
    exact cab isCab
  · have standing := stands { s with doors := t.doors, defrost := t.defrost, zone := { s.zone with base := t.zone.base } }
      rfl rfl rfl rfl rfl rfl rfl rfl rfl rfl
    exact shareEvaluated_of_ended ended runsU standing (.inl called) rfl
      (by simp [gapBegins]) rfl rfl rfl ⟨by simp; rfl, by simp; rfl⟩ (hasTx_of_queue (by simp; rfl) _)
  · have standing := stands { s with doors := t.doors, defrost := t.defrost } rfl rfl rfl rfl rfl rfl rfl rfl rfl rfl
    exact stagesRegulated_of_ended ended runsU standing called

end

/-- The zone's temperature from one, two or three valid sensors. -/
theorem zoneTempOf_cases (x y z : Int) :
    (∃ m, zoneTempOf (some x) (some y) (some z) = some m ∧ m ∈ [x, y, z] ∧
        2 ≤ ([x, y, z].filter (fun v => decide (v ≤ m))).length ∧
        2 ≤ ([x, y, z].filter (fun v => decide (m ≤ v))).length) ∧
      zoneTempOf (some x) (some y) none = some (min x y) ∧ zoneTempOf (some x) none (some y) = some (min x y) ∧
      zoneTempOf none (some x) (some y) = some (min x y) ∧ zoneTempOf (some x) none none = some x ∧
      zoneTempOf none (some x) none = some x ∧ zoneTempOf none none (some x) = some x ∧
      zoneTempOf none none none = none :=
  ⟨⟨median x y z, rfl, median_is_middle x y z⟩, rfl, rfl, rfl, rfl, rfl, rfl, rfl⟩

/-- Settles O40: the periodic evaluation measures, decides and regulates. -/
theorem periodicEvaluationMeasures : Obligations.PeriodicEvaluationMeasures := by
  refine ⟨fun a code => ⟨fun unread => ⟨fun p => (updated_of_unread unread a p).1, (updated_of_unread unread a true).2⟩,
    fun low high => ⟨updated_periodic ⟨low, high⟩ a, (updated_of_read ⟨low, high⟩ a true).2⟩⟩,
    fun a _ _ _ invalid fresh => recovers_with_third invalid fresh, zoneTempOf_cases, activeDemand_eq, ?_⟩
  intro codes s running runs
  generalize ended : finishRunning { periodic := true } (begin codes s) (readCabSensors (s.periodBegun codes)) = t
  have next := exec_periodicEvaluation (codes := codes) running runs
  rw [ended] at next
  obtain ⟨period, flag, sensors, measured, doors, defrost, share, stages⟩ := periodicEvaluation_effect running ended
  exact ⟨t, next, period, flag, sensors, measured, doors, readingOf_eq, defrost, share, stages,
    by rw [← ended]; simp; rfl, by rw [← ended]; simp; rfl, by rw [← ended]; simp; rfl, by rw [← ended]; simp; rfl⟩

end Sys2Proof.Machine
end

section
/-! Settles O41: the expiry of a stage's minimum time. -/

namespace Sys2Proof.Machine

/-! ## One stage in the regulation -/

theorem forced_get (minimum limit : Nat) {stages : List Stage} {i : Nat} {g : Stage} (found : stages[i]? = some g) :
    ∃ h, (forced minimum limit stages)[i]? = some h ∧ (h = g ∨ h = g.switchedOff minimum) := by
  obtain ⟨kept, eq, _⟩ := forced_eq minimum limit stages
  have inside : i < stages.length := (List.getElem?_eq_some_iff.mp found).1
  rw [eq]
  by_cases before : i < kept
  · refine ⟨g, ?_, .inl rfl⟩
    rw [List.getElem?_append_left (by rw [List.length_take]; omega), List.getElem?_take_of_lt before, found]
  · refine ⟨g.switchedOff minimum, ?_, .inr rfl⟩
    have length : (stages.take kept).length = kept := by rw [List.length_take]; omega
    rw [List.getElem?_append_right (by omega), List.getElem?_map, List.getElem?_drop, length,
      show kept + (i - kept) = i by omega, found]
    rfl

theorem switchedOff_again {minimum : Nat} (g : Stage) : (g.switchedOff minimum).switchedOff minimum = g.switchedOff minimum :=
  switchedOff_of_off (switchedOff_on minimum g)

theorem stagesCut_get {e : State} {i : Nat} {g : Stage} (found : e.zone.stages[i]? = some g) :
    ∃ h, e.stagesCut[i]? = some h ∧ (h = g ∨ h = g.switchedOff e.loader.vt.stageMinimum) := by
  rw [stagesCut_eq]
  split
  · exact forced_get _ _ found
  · exact ⟨_, by rw [List.getElem?_map, found]; rfl, .inr rfl⟩

/-- A stage switched with minimum time `minimum`, or left as it is with its timer clear. -/
def Stage.switchedFrom (minimum : Nat) (g h : Stage) : Prop :=
  h.size = g.size ∧
    h.timer = if h.on = g.on then .clear else if h.on = true then .afterOn minimum else .afterOff minimum

theorem switchedFrom_self {minimum : Nat} {g : Stage} (clear : g.timer = .clear) : g.switchedFrom minimum g := by
  simp [Stage.switchedFrom, clear]

theorem switchedFrom_off {minimum : Nat} {g : Stage} (clear : g.timer = .clear) :
    g.switchedFrom minimum (g.switchedOff minimum) := by
  unfold Stage.switchedFrom Stage.switchedOff
  by_cases on : g.on = true <;> simp [on, clear]

theorem switchedFrom_regulated {minimum : Nat} {g : Stage} {w room : Bool} (clear : g.timer = .clear) :
    g.switchedFrom minimum (g.regulated minimum w room) := by
  unfold Stage.regulated
  split
  · split
    · exact switchedFrom_off clear
    · exact switchedFrom_self clear
  · rename_i off
    split
    · simp [Stage.switchedFrom, Stage.switchedOn, off]
    · exact switchedFrom_self clear

/-- A stage that was cut runs its minimum time: it is not switched again. -/
theorem regulated_of_cut {minimum : Nat} {g : Stage} {w room : Bool} (on : g.on = true) :
    (g.switchedOff minimum).regulated minimum w room = g.switchedOff minimum := by
  simp [Stage.regulated, Stage.switchedOff, on, MinTimer.isClear]

theorem switchedFrom_of_regulated {minimum : Nat} {g h : Stage} {w room : Bool} (clear : g.timer = .clear)
    (cut : h = g ∨ h = g.switchedOff minimum) : g.switchedFrom minimum (h.regulated minimum w room) := by
  obtain rfl | rfl := cut
  · exact switchedFrom_regulated clear
  · by_cases on : g.on = true
    · rw [regulated_of_cut on]; exact switchedFrom_off clear
    · rw [switchedOff_of_off (by simpa using on)]; exact switchedFrom_regulated clear

/-- The stage whose minimum time has passed, after the regulation: switched, or its timer clear. -/
theorem regulated_get {e t : State} {i : Nat} {g : Stage} (regulated : StagesRegulated e t)
    (found : e.zone.stages[i]? = some g) (clear : g.timer = .clear) :
    ∃ h, t.zone.stages[i]? = some h ∧ g.switchedFrom e.loader.vt.stageMinimum h := by
  obtain ⟨_, loads, none⟩ := regulated
  obtain ⟨h, cut, origin⟩ := stagesCut_get found
  by_cases allowed : e.live = true ∧ e.member.state ≠ .clash
  · obtain ⟨k, kept, forcedFrom⟩ := forced_get e.loader.vt.stageMinimum t.airLimit cut
    have cutFrom : k = g ∨ k = g.switchedOff e.loader.vt.stageMinimum := by
      obtain rfl | rfl := origin
      · exact forcedFrom
      · obtain rfl | rfl := forcedFrom
        · exact .inr rfl
        · exact .inr (switchedOff_again g)
    have inside := (List.getElem?_eq_some_iff.mp kept).1
    obtain ⟨w, wanted⟩ : ∃ w, (wantedFrom (min t.zone.total t.airLimit) 0
        (forced e.loader.vt.stageMinimum t.airLimit e.stagesCut))[i]? = some w :=
      ⟨_, List.getElem?_eq_getElem (by rw [wantedFrom_length]; exact inside)⟩
    exact ⟨_, (congrArg (·[i]?) (loads allowed.1 allowed.2)).trans (switched_get kept wanted),
      switchedFrom_of_regulated clear cutFrom⟩
  · have barred : e.live = false ∨ e.member.state = .clash := by
      by_cases live : e.live = true
      · exact .inr (by simpa using fun h => allowed ⟨live, h⟩)
      · exact .inl (by simpa using live)
    refine ⟨h, by rw [none barred]; exact cut, ?_⟩
    obtain rfl | rfl := origin
    · exact switchedFrom_self clear
    · exact switchedFrom_off clear

/-! ## The event -/

/-- The state in which a stage's minimum time has passed. -/
def State.stageCleared (s : State) (codes : Sensors) (stage : Nat) : State :=
  { begin codes s with zone := { s.zone with stages := s.zone.stages.modify stage Stage.timerClear } }

theorem exec_stageMinimumTimerExpiry {codes : Sensors} {stage : Fin 4} {s : State} {g : Stage}
    (running : s.running = true) (found : s.zone.stages[stage.val]? = some g) (timed : g.timer ≠ .clear) :
    exec (.stageMinimumTimerExpiry codes stage) s =
      .next (finishRunning { evaluate := true } (begin codes s) (s.stageCleared codes stage)) := by
  have due : (begin codes s).stageTimed stage = true := by
    show (match s.zone.stages[stage.val]? with | some g => !g.timer.isClear | none => false) = true
    rw [found]
    simpa using fun clear => timed ((isClear_iff _).mp clear)
  have runsU : (s.stageCleared codes stage).running = true := running
  refine congrArg Host.Outcome.next ((whenRunning_of (stageTimerEnds stage) (begin codes s) running).trans ?_)
  refine (if_pos due : stageTimerEnds stage.val (begin codes s) = _).trans ?_
  exact finish_of_running runsU _ _

theorem updated_between (a : AirSensor) (code : Byte) :
    a.updated false code =
      if -80 ≤ code.toInt ∧ code.toInt ≤ 120 then
        (if a.validity = .invalid then a else { validity := .valid, recovery := 0 })
      else { validity := .invalid, recovery := 0 } := by
  by_cases read : -80 ≤ code.toInt ∧ code.toInt ≤ 120
  · rw [if_pos read, (updated_of_read read a false).1]; rfl
  · rw [if_neg read, (updated_of_unread read a false).1]

theorem sizes_timerClear (i : Nat) (stages : List Stage) :
    (stages.modify i Stage.timerClear).map (·.size) = stages.map (·.size) := by
  refine List.ext_getElem? fun j => ?_
  rw [List.getElem?_map, List.getElem?_map, List.getElem?_modify]
  cases stages[j]? with
  | none => rfl
  | some g => by_cases same : i = j <;> simp [same, Stage.timerClear]

section
variable {codes : Sensors} {stage : Nat} {s t : State}

theorem called_of_stageCleared (codes : Sensors) (stage : Nat) (s : State) :
    evaluates { evaluate := true } (begin codes s)
      (settle ((s.stageCleared codes stage).served { evaluate := true } (begin codes s))) = true :=
  called_of_evaluate _ _

theorem stageCleared_zone
    (ended : finishRunning { evaluate := true } (begin codes s) (s.stageCleared codes stage) = t) :
    t.zone.period = s.zone.period ∧ t.zone.pendingFlag = s.zone.pendingFlag ∧ t.zone.setpoint = s.zone.setpoint ∧
      SensorsRead false codes s t ∧ ZoneMeasured codes t := by
  have called := called_of_stageCleared codes stage s
  have read := evaluated_sensors called
  have flag := evaluated_pendingFlag called
  have measured : ZoneMeasured codes _ := zoneMeasured_of_called rfl called
  rw [ended] at read flag measured
  refine ⟨?_, flag.trans (Bool.and_true _), ?_, read, measured⟩
  · rw [← ended]; simp; rfl
  · rw [← ended]; simp; rfl

theorem stageCleared_defrost
    (ended : finishRunning { evaluate := true } (begin codes s) (s.stageCleared codes stage) = t) :
    DefrostSees False s t := by
  have same : SameFigures s (s.stageCleared codes stage) := ⟨rfl, rfl, rfl, rfl, rfl, rfl, rfl, sizes_timerClear _ _⟩
  have raised := unraised_of_table (ev := { evaluate := true }) (r := begin codes s) (u := s.stageCleared codes stage)
    ⟨rfl, rfl⟩ rfl rfl
  have table : t.table = s.table := by rw [← ended]; simp; rfl
  have loader : t.loader = s.loader := by rw [← ended]; simp; rfl
  refine defrostSees_of_unraised ?_ ?_
  · simp only [State.ownRow, State.me, table, loader]
  · rw [← ended]; exact finishRunning_defrost_unraised same raised

theorem stageCleared_stands {e : State}
    (ended : finishRunning { evaluate := true } (begin codes s) (s.stageCleared codes stage) = t)
    (eq : e = { s with
      defrost := t.defrost
      zone := { s.zone with base := t.zone.base, stages := s.zone.stages.modify stage Stage.timerClear } }) :
    StandsFor e ((s.stageCleared codes stage).served { evaluate := true } (begin codes s)) := by
  subst eq
  exact standsFor_served rfl rfl rfl rfl rfl rfl (by rw [ended]) rfl rfl rfl

theorem stageCleared_evaluated {e : State} (running : s.running = true)
    (ended : finishRunning { evaluate := true } (begin codes s) (s.stageCleared codes stage) = t)
    (eq : e = { s with
      defrost := t.defrost
      zone := { s.zone with base := t.zone.base, stages := s.zone.stages.modify stage Stage.timerClear } }) :
    ShareEvaluated e t ∧ StagesRegulated e t := by
  have called := called_of_stageCleared codes stage s
  have stands := stageCleared_stands ended eq
  have runsU : (s.stageCleared codes stage).running = true := running
  refine ⟨?_, stagesRegulated_of_ended ended runsU stands called⟩
  subst eq
  exact shareEvaluated_of_ended ended runsU stands (.inl called) rfl rfl rfl rfl rfl ⟨rfl, rfl⟩ rfl

end

/-- Settles O41: the stage whose minimum time has passed may switch, and the unit is evaluated. -/
theorem stageTimerClears : Obligations.StageTimerClears := by
  intro codes stage s g running found timed
  generalize ended : finishRunning { evaluate := true } (begin codes s) (s.stageCleared codes stage) = t
  have next := exec_stageMinimumTimerExpiry (codes := codes) running found timed
  rw [ended] at next
  obtain ⟨period, flag, setpoint, sensors, measured⟩ := stageCleared_zone ended
  have evaluated := fun e => stageCleared_evaluated (e := e) running ended
  have cleared : (s.zone.stages.modify stage.val Stage.timerClear)[stage.val]? = some g.timerClear := by
    rw [List.getElem?_modify_eq, found]; rfl
  obtain ⟨h, there, size, timer⟩ := regulated_get (evaluated _ rfl).2 cleared rfl
  exact ⟨t, next, ⟨h, there, size, timer⟩, period, flag, setpoint, sensors, measured, stageCleared_defrost ended,
    evaluated, updated_between,
    by rw [← ended]; simp; rfl, by rw [← ended]; simp; rfl, by rw [← ended]; simp; rfl, by rw [← ended]; simp; rfl⟩

end Sys2Proof.Machine
end

section
/-! Settles O43: the doors and the one-shot boost. -/

namespace Sys2Proof.Machine

/-! ## DRAFT and the one-shot -/

theorem boostActive_iff (s : State) : s.boostActive = true ↔ s.doors.oneShot ≠ .idle := by
  simp [State.boostActive]

theorem setOneShot_doors (o : OneShot) (tail : Timer) (s : State) :
    (setOneShot o tail s).doors = { s.doors with oneShot := o, tail } := by
  unfold setOneShot
  dsimp only
  split <;> simp

/-- DRAFT is asked for when the activity last stated is no longer the case, and withdrawn otherwise. -/
theorem draftFollows_setOneShot (o : OneShot) (tail : Timer) {s : State} (running : s.running = true) :
    DraftFollowsOneShot s (setOneShot o tail s) := by
  unfold DraftFollowsOneShot
  rw [setOneShot_doors]
  unfold setOneShot
  by_cases same : s.doors.oneShot = .idle ↔ o = .idle
  · have kept : ({ s with doors := { s.doors with oneShot := o, tail } } : State).boostActive = s.boostActive := by
      rw [Bool.eq_iff_iff, boostActive_iff, boostActive_iff]; exact not_congr same.symm
    exact ⟨fun _ => by rw [if_pos kept]; rfl, fun moved => absurd same moved⟩
  · have moved : ({ s with doors := { s.doors with oneShot := o, tail } } : State).boostActive ≠ s.boostActive := by
      rw [Ne, Bool.eq_iff_iff, boostActive_iff, boostActive_iff]; exact fun h => same (Decidable.not_iff_not.mp h).symm
    refine ⟨fun kept => absurd kept same, fun _ => ?_⟩
    rw [if_neg moved]
    unfold stateActivity
    have stated : (({ s with doors := { s.doors with oneShot := o, tail } } : State).boostActive !=
        s.doors.lastStated) = true ↔ (s.doors.lastStated = true ↔ o = .idle) := by
      rw [bne_iff_ne, Ne, Bool.eq_iff_iff, boostActive_iff]
      grind
    refine ⟨fun owed noClash => ?_, fun settled unsent => ?_⟩
    · rw [if_pos (stated.mpr owed)]
      exact queueKind_sending _ _ (acceptsRequests_of_running running noClash)
    · rw [if_neg (mt stated.mp settled)]
      exact withdrawKind_gone _ _ unsent

/-- The states agree in what DRAFT depends on. -/
structure SameDraft (s t : State) : Prop where
  oneShot : t.doors.oneShot = s.doors.oneShot
  lastStated : t.doors.lastStated = s.doors.lastStated
  member : t.member.state = s.member.state
  queued : t.hasTx .draft = s.hasTx .draft
  flight : t.flight = s.flight

theorem draftFollows_self {s t : State} (same : SameDraft s t) : DraftFollowsOneShot s t :=
  ⟨fun _ => same.queued, fun moved => absurd (by rw [same.oneShot]) moved⟩

theorem draftFollows_before {s x t : State} (same : SameDraft s x) (follows : DraftFollowsOneShot x t) :
    DraftFollowsOneShot s t := by
  unfold DraftFollowsOneShot at follows ⊢
  rwa [same.oneShot, same.lastStated, same.member, same.queued, flying_of_flight same.flight] at follows

theorem draftFollows_after {s x t : State} (oneShot : t.doors.oneShot = x.doors.oneShot)
    (queued : t.hasTx .draft = x.hasTx .draft) (flight : t.flight = x.flight) (follows : DraftFollowsOneShot s x) :
    DraftFollowsOneShot s t := by
  unfold DraftFollowsOneShot at follows ⊢
  rwa [oneShot, queued, sending_iff_of_queue queued flight]

theorem draftFollows_finish {ev : Ev} {r s x : State} (follows : DraftFollowsOneShot s x) :
    DraftFollowsOneShot s (finish ev r x) :=
  draftFollows_after (by simp) (hasTx_finish (by decide) ev r x) (by simp) follows

/-! ## The doors -/


def otherDoor (door : Fin 2) : Fin 2 := if door = 0 then 1 else 0

@[simp] theorem setDoor_door (door : Fin 2) (d : Door) (s : State) : (setDoor door d s).door door = d := by
  unfold setDoor State.door
  split <;> rfl

@[simp] theorem setDoor_otherDoor (door : Fin 2) (d : Door) (s : State) :
    (setDoor door d s).door (otherDoor door) = s.door (otherDoor door) := by
  unfold setDoor State.door otherDoor
  split <;> simp

theorem anyOpen_iff (door : Fin 2) (s : State) :
    s.anyOpen = ((s.door door).isOpen || (s.door (otherDoor door)).isOpen) := by
  unfold State.anyOpen State.door otherDoor
  split
  · simp
  · simp [Bool.or_comm]

theorem layover_iff (door : Fin 2) (s : State) :
    s.layover = (s.anyOpen && (s.door door).state != .opened && (s.door (otherDoor door)).state != .opened) := by
  unfold State.layover State.door otherDoor
  split
  · simp
  · simp only [Bool.and_assoc, if_true]
    rw [Bool.and_comm (s.doors.door0.state != .opened)]

theorem setDoor_sameDraft (door : Fin 2) (d : Door) (s : State) : SameDraft s (setDoor door d s) := by
  unfold setDoor
  split <;> exact ⟨rfl, rfl, rfl, rfl, rfl⟩

theorem setOneShot_door (o : OneShot) (tail : Timer) (s : State) (door : Fin 2) :
    (setOneShot o tail s).door door = s.door door := by
  unfold State.door
  rw [setOneShot_doors]

theorem checkLayover_door (s : State) (door : Fin 2) : (checkLayover s).door door = s.door door := by
  unfold checkLayover
  split
  · exact setOneShot_door _ _ _ _
  · rfl

theorem closingEdge_door (s : State) (door : Fin 2) : (closingEdge s).door door = s.door door := by
  unfold closingEdge
  (repeat' split)
  · exact checkLayover_door _ _
  · rfl
  · exact setOneShot_door _ _ _ _

theorem openingEdge_door (s : State) (door : Fin 2) : (openingEdge s).door door = s.door door := by
  unfold openingEdge
  split
  · rfl
  · exact setOneShot_door _ _ _ _

theorem draftFollows_checkLayover {s : State} (running : s.running = true) : DraftFollowsOneShot s (checkLayover s) := by
  unfold checkLayover
  split
  · exact draftFollows_setOneShot _ _ running
  · exact draftFollows_self ⟨rfl, rfl, rfl, rfl, rfl⟩

theorem draftFollows_closingEdge {s : State} (running : s.running = true) : DraftFollowsOneShot s (closingEdge s) := by
  unfold closingEdge
  (repeat' split)
  · exact draftFollows_checkLayover running
  · exact draftFollows_self ⟨rfl, rfl, rfl, rfl, rfl⟩
  · exact draftFollows_setOneShot _ _ running

theorem draftFollows_openingEdge {s : State} (running : s.running = true) : DraftFollowsOneShot s (openingEdge s) := by
  unfold openingEdge
  split
  · exact draftFollows_self ⟨rfl, rfl, rfl, rfl, rfl⟩
  · exact draftFollows_setOneShot _ _ running

theorem checkLayover_oneShot (s : State) :
    (checkLayover s).doors.oneShot =
      if s.layover = true ∧ s.doors.oneShot = .held then .idle else s.doors.oneShot := by
  unfold checkLayover
  split
  · rw [setOneShot_doors]
  · rfl

/-- The one-shot after the last edge of a door that has closed. -/
theorem closingEdge_oneShot {door : Fin 2} {s : State} (closed : (s.door door).state = .closed) :
    ((s.door (otherDoor door)).isOpen = false →
      (s.overrides.boostInhibit = none →
        (closingEdge s).doors.oneShot = .tail ∧
          (closingEdge s).doors.tail = some (s.loader.vt.tailBase * s.factor)) ∧
        (s.overrides.boostInhibit.isSome = true → (closingEdge s).doors.oneShot = s.doors.oneShot)) ∧
      ((s.door (otherDoor door)).state = .opened → (closingEdge s).doors.oneShot = s.doors.oneShot) ∧
      ((s.door (otherDoor door)).state = .longOpen →
        (closingEdge s).doors.oneShot = if s.doors.oneShot = .held then .idle else s.doors.oneShot) := by
  have any : s.anyOpen = (s.door (otherDoor door)).isOpen := by rw [anyOpen_iff door]; simp [Door.isOpen, closed]
  have layover := layover_iff door s
  rw [any, closed] at layover
  unfold closingEdge State.inhibited
  rw [any]
  refine ⟨fun shut => ?_, fun opened => ?_, fun long => ?_⟩
  · rw [shut]
    refine ⟨fun free => ?_, fun barred => by simp [barred]⟩
    simp [free, setOneShot_doors]
  · have isOpen : (s.door (otherDoor door)).isOpen = true := by simp [Door.isOpen, opened]
    have noLayover : s.layover = false := by rw [layover, opened]; simp
    rw [if_pos isOpen, checkLayover_oneShot, noLayover]; simp
  · have isOpen : (s.door (otherDoor door)).isOpen = true := by simp [Door.isOpen, long]
    have isLayover : s.layover = true := by rw [layover, isOpen, long]; rfl
    rw [if_pos isOpen, checkLayover_oneShot, isLayover]; simp

theorem openingEdge_oneShot (s : State) :
    (s.overrides.boostInhibit = none →
      (openingEdge s).doors.oneShot = .held ∧ (openingEdge s).doors.tail = none) ∧
      (s.overrides.boostInhibit.isSome = true → (openingEdge s).doors.oneShot = s.doors.oneShot) := by
  unfold openingEdge State.inhibited
  refine ⟨fun free => by simp [free, setOneShot_doors], fun barred => by simp [barred]⟩

/-! ## A door takes its level -/

/-- What a door becomes when its level is taken. -/
def Door.taking (limit : Nat) (level : DoorLevel) (d : Door) : Door :=
  match d.state, level with
  | .unsampled, .shut => { d with level := some level, debounce := none, state := .closed }
  | .unsampled, .apart | .closed, .apart =>
    { d with level := some level, debounce := none, state := .opened, longOpen := some limit }
  | .opened, .shut | .longOpen, .shut =>
    { d with level := some level, debounce := none, state := .closed, longOpen := none }
  | .closed, .shut | .opened, .apart | .longOpen, .apart => { d with level := some level, debounce := none }

/-- The edge a door's new level makes. -/
def Door.edge (door : Fin 2) (level : DoorLevel) (d : Door) (s : State) : State :=
  match d.state, level with
  | .closed, .apart => openingEdge (count (opensCounter door) 1 s)
  | .opened, .shut | .longOpen, .shut => closingEdge s
  | .unsampled, _ | .closed, .shut | .opened, .apart | .longOpen, .apart => s

theorem doorTakesLevel_eq (door : Fin 2) (level : DoorLevel) (s : State) :
    doorTakesLevel door level s =
      (s.door door).edge door level (setDoor door ((s.door door).taking s.loader.vt.longOpen level) s) := by
  unfold doorTakesLevel Door.taking Door.edge
  obtain ⟨state, stated, debounce, longOpen⟩ := s.door door
  cases state <;> cases level <;> rfl

theorem edge_door (d : Door) (door : Fin 2) (level : DoorLevel) (s : State) (any : Fin 2) :
    (d.edge door level s).door any = s.door any := by
  unfold Door.edge
  split
  · exact openingEdge_door _ _
  · exact closingEdge_door _ _
  · exact closingEdge_door _ _
  · rfl
  · rfl
  · rfl
  · rfl

theorem draftFollows_edge {d : Door} {door : Fin 2} {level : DoorLevel} {s : State} (running : s.running = true) :
    DraftFollowsOneShot s (d.edge door level s) := by
  have self : SameDraft s s := ⟨rfl, rfl, rfl, rfl, rfl⟩
  unfold Door.edge
  split
  · exact draftFollows_before ⟨rfl, rfl, rfl, rfl, rfl⟩
      (draftFollows_openingEdge (s := count (opensCounter door) 1 s) running)
  · exact draftFollows_closingEdge running
  · exact draftFollows_closingEdge running
  · exact draftFollows_self self
  · exact draftFollows_self self
  · exact draftFollows_self self
  · exact draftFollows_self self

theorem draftFollows_doorTakesLevel {door : Fin 2} {level : DoorLevel} {s : State} (running : s.running = true) :
    DraftFollowsOneShot s (doorTakesLevel door level s) := by
  rw [doorTakesLevel_eq]
  refine draftFollows_before (setDoor_sameDraft _ _ _) (draftFollows_edge ?_)
  exact (running_of_member (by simp)).trans running

theorem doorTakesLevel_door (door : Fin 2) (level : DoorLevel) (s : State) :
    (doorTakesLevel door level s).door door = (s.door door).taking s.loader.vt.longOpen level ∧
      (doorTakesLevel door level s).door (otherDoor door) = s.door (otherDoor door) := by
  rw [doorTakesLevel_eq, edge_door, edge_door, setDoor_door, setDoor_otherDoor]
  exact ⟨rfl, rfl⟩

/-- The first level of a door makes no edge. -/
theorem doorTakesLevel_first {door : Fin 2} {s : State} (level : DoorLevel) (first : (s.door door).state = .unsampled) :
    (doorTakesLevel door level s).doors.oneShot = s.doors.oneShot ∧
      (doorTakesLevel door level s).stats = s.stats := by
  rw [doorTakesLevel_eq]
  simp [Door.edge, first]

/-- An opening edge counts, and begins the one-shot boost. -/
theorem doorTakesLevel_opening {door : Fin 2} {s : State} (closed : (s.door door).state = .closed) :
    (doorTakesLevel door .apart s).stats.counters =
        s.stats.counters.raised s.loader.vt.counterFreeze (opensCounter door) 1 ∧
      (s.overrides.boostInhibit = none →
        (doorTakesLevel door .apart s).doors.oneShot = .held ∧ (doorTakesLevel door .apart s).doors.tail = none) ∧
      (s.overrides.boostInhibit.isSome = true →
        (doorTakesLevel door .apart s).doors.oneShot = s.doors.oneShot) := by
  rw [doorTakesLevel_eq]
  simp only [Door.edge, closed]
  generalize taken : setDoor door ((s.door door).taking s.loader.vt.longOpen .apart) s = x
  have overrides : x.overrides = s.overrides := by rw [← taken]; simp
  have loader : x.loader = s.loader := by rw [← taken]; simp
  have stats : x.stats = s.stats := by rw [← taken]; simp
  have oneShot : x.doors.oneShot = s.doors.oneShot := by rw [← taken]; simp
  obtain ⟨free, barred⟩ := openingEdge_oneShot (count (opensCounter door) 1 x)
  refine ⟨?_, fun none => free ((congrArg Overrides.boostInhibit overrides).trans none), fun some => ?_⟩
  · simp only [openingEdge_frame, count_counters, stats, loader]
  · exact (barred ((congrArg (fun o => o.boostInhibit.isSome) overrides).trans some)).trans oneShot

/-- A closing edge. -/
theorem doorTakesLevel_closing {door : Fin 2} {s : State}
    (isOpen : (s.door door).state = .opened ∨ (s.door door).state = .longOpen) :
    ((s.door (otherDoor door)).isOpen = false →
      (s.overrides.boostInhibit = none →
        (doorTakesLevel door .shut s).doors.oneShot = .tail ∧
          (doorTakesLevel door .shut s).doors.tail = some (s.loader.vt.tailBase * s.factor)) ∧
        (s.overrides.boostInhibit.isSome = true →
          (doorTakesLevel door .shut s).doors.oneShot = s.doors.oneShot)) ∧
      ((s.door (otherDoor door)).state = .opened → (doorTakesLevel door .shut s).doors.oneShot = s.doors.oneShot) ∧
      ((s.door (otherDoor door)).state = .longOpen →
        (doorTakesLevel door .shut s).doors.oneShot =
          if s.doors.oneShot = .held then .idle else s.doors.oneShot) := by
  have edge : ∀ x, (s.door door).edge door .shut x = closingEdge x := by
    intro x
    obtain open_ | long := isOpen
    · simp only [Door.edge, open_]
    · simp only [Door.edge, long]
  have closed : ((s.door door).taking s.loader.vt.longOpen .shut).state = .closed := by
    obtain open_ | long := isOpen
    · simp only [Door.taking, open_]
    · simp only [Door.taking, long]
  rw [doorTakesLevel_eq, edge]
  have closing := closingEdge_oneShot (door := door)
    (s := setDoor door ((s.door door).taking s.loader.vt.longOpen .shut) s) (by rw [setDoor_door]; exact closed)
  have factor : (setDoor door ((s.door door).taking s.loader.vt.longOpen .shut) s).factor = s.factor := by
    unfold setDoor; split <;> rfl
  simpa only [setDoor_otherDoor, setDoor_oneShot, setDoor_frame, factor] using closing

theorem taking_level (limit : Nat) (level : DoorLevel) (d : Door) :
    (d.taking limit level).level = some level ∧ (d.taking limit level).debounce = none := by
  unfold Door.taking
  split <;> exact ⟨rfl, rfl⟩

theorem taking_apart {limit : Nat} {d : Door} (shut : d.state = .unsampled ∨ d.state = .closed) :
    (d.taking limit .apart).state = .opened ∧ (d.taking limit .apart).longOpen = some limit := by
  obtain first | closed := shut
  · simp [Door.taking, first]
  · simp [Door.taking, closed]

theorem taking_shut {limit : Nat} {d : Door} (notClosed : d.state ≠ .closed) : (d.taking limit .shut).state = .closed := by
  unfold Door.taking
  cases state : d.state with
  | closed => exact absurd state notClosed
  | unsampled => rfl
  | opened => rfl
  | longOpen => rfl

theorem taking_shut_longOpen {limit : Nat} {d : Door} (isOpen : d.state = .opened ∨ d.state = .longOpen) :
    (d.taking limit .shut).longOpen = none := by
  obtain opened | long := isOpen
  · simp [Door.taking, opened]
  · simp [Door.taking, long]

theorem raised_opens (door : Fin 2) (freeze : Bool) (c : Counters) :
    c.raised freeze (opensCounter door) 1 =
      if door = 0 then { c with door0Opens := bumped freeze 1 c.door0Opens }
      else { c with door1Opens := bumped freeze 1 c.door1Opens } := by
  unfold opensCounter
  split <;> rfl

theorem exec_doorLevelChange {codes : Sensors} {door : Fin 2} {s : State} (running : s.running = true)
    (due : (s.door door).debounce.isSome = true) :
    exec (.doorLevelChange codes door) s =
      .next (finish {} (begin codes s) (doorTakesLevel door (s.rawDoor door) (begin codes s))) := by
  obtain ⟨n, timer⟩ := Option.isSome_iff_exists.mp due
  refine congrArg Host.Outcome.next ((whenRunning_of (doorLevel door) (begin codes s) running).trans ?_)
  have timerR : ((begin codes s).door door).debounce = some n := timer
  unfold doorLevel
  rw [timerR]
  rfl

/-- Settles O43: the doors' levels, the opens they count, and the one-shot boost. -/
theorem doorLevelMovesDoorAndOneShot : Obligations.DoorLevelMovesDoorAndOneShot := by
  intro codes door s running due
  have next := exec_doorLevelChange (codes := codes) running due
  generalize r_eq : begin codes s = r at next
  have doorR : r.door = s.door := by rw [← r_eq]; rfl
  have runningR : r.running = true := by rw [← r_eq]; exact running
  have sameR : SameDraft s r := by rw [← r_eq]; exact ⟨rfl, rfl, rfl, rfl, rfl⟩
  have factorR : r.factor = s.factor := by rw [← r_eq]; rfl
  obtain ⟨loader, overrides, stats⟩ : r.loader = s.loader ∧ r.overrides = s.overrides ∧ r.stats = s.stats := by
    rw [← r_eq]; exact ⟨rfl, rfl, rfl⟩
  obtain ⟨table, supply⟩ : r.table = s.table ∧ r.supply = s.supply := by rw [← r_eq]; exact ⟨rfl, rfl⟩
  generalize level : s.rawDoor door = raw at next ⊢
  obtain ⟨same, other⟩ := doorTakesLevel_door door raw r
  have first := doorTakesLevel_first (door := door) (s := r) raw
  have opening := doorTakesLevel_opening (door := door) (s := r)
  have closing := doorTakesLevel_closing (door := door) (s := r)
  have follows : DraftFollowsOneShot s (finish {} r (doorTakesLevel door raw r)) :=
    draftFollows_finish (draftFollows_before sameR (draftFollows_doorTakesLevel runningR))
  rw [doorR, sameR.oneShot, overrides, loader, factorR] at closing
  rw [doorR, sameR.oneShot, overrides, loader, stats, raised_opens] at opening
  rw [doorR, sameR.oneShot, stats] at first
  rw [doorR, loader] at same
  rw [doorR] at other
  generalize ended : finish {} r (doorTakesLevel door raw r) = t at next follows
  have doors : t.doors = (doorTakesLevel door raw r).doors := by rw [← ended]; simp
  have doorT : ∀ d, t.door d = (doorTakesLevel door raw r).door d := fun d => by unfold State.door; rw [doors]
  have statsT : t.stats = (doorTakesLevel door raw r).stats := by rw [← ended]; simp
  have idleOr : t.doors.oneShot = .held → s.doors.oneShot = .idle → ¬(s.doors.oneShot = .idle ↔ t.doors.oneShot = .idle) :=
    fun held idle same => by rw [held] at same; exact absurd (same.mp idle) (by decide)
  refine ⟨t, next, ?_, ?_, ?_, ?_, ?_, ?_, ?_, ?_, ?_, ?_, follows, ?_, ?_, ?_⟩
  · rw [doorT, same]; exact (taking_level _ _ _).1
  · rw [doorT, same]; exact (taking_level _ _ _).2
  · exact (doorT _).trans other
  · intro unsampled
    rw [doors, statsT, (first unsampled).2]
    exact ⟨(first unsampled).1, rfl⟩
  · rintro shut rfl
    rw [doorT, same]; exact taking_apart shut
  · rintro notClosed rfl
    rw [doorT, same]; exact taking_shut notClosed
  · rintro closed rfl
    obtain ⟨counters, free, barred⟩ := opening closed
    rw [← doors] at free barred
    refine ⟨statsT ▸ counters, free, barred, fun none idle => ⟨fun unstated noClash => ?_, fun stated unsent => ?_⟩⟩
    · refine (follows.2 (idleOr (free none).1 idle)).1 ?_ noClash
      simp [unstated, (free none).1]
    · refine (follows.2 (idleOr (free none).1 idle)).2 ?_ unsent
      simp [stated, (free none).1]
  · rintro isOpen rfl
    rw [doorT, same]; exact .inl (taking_shut_longOpen isOpen)
  · rintro isOpen rfl shut
    obtain ⟨tail, _⟩ := closing isOpen
    rw [← doors] at tail
    exact tail shut
  · rintro isOpen rfl
    obtain ⟨_, opened, long⟩ := closing isOpen
    rw [← doors] at opened long
    refine ⟨opened, fun longOpen => ⟨fun held => ?_, fun notHeld => (long longOpen).trans (if_neg notHeld)⟩⟩
    have idle : t.doors.oneShot = .idle := (long longOpen).trans (if_pos held)
    refine ⟨idle, fun stated noClash => (follows.2 ?_).1 (by simp [stated, idle]) noClash⟩
    rw [held, idle]; simp
  · rw [← ended]; simp [table]
  · rw [← ended]; simp [overrides]
  · rw [← ended]; simp [supply]

end Sys2Proof.Machine
end

section
/-! Settles O44: the door unit's timers. -/

namespace Sys2Proof.Machine

theorem factor_eq (s : State) :
    s.factor =
      match s.doors.outdoor with
      | some x => if 10 ≤ x then 1 else if -20 ≤ x then 2 else 3
      | none => 3 := by
  unfold State.factor factorOf
  cases s.doors.outdoor <;> rfl

theorem boost_eq (s : State) :
    s.boost =
      if s.doors.oneShot = .idle then 0
      else min (s.zone.stages.map (·.size)).sum (s.entry.doorBoost * s.factor) := by
  unfold State.boost
  by_cases idle : s.doors.oneShot = .idle
  · have quiet : s.boostActive = false := by simp [State.boostActive, idle]
    simp [idle, quiet]
  · rw [if_pos ((boostActive_iff s).mpr idle), if_neg idle]; rfl

theorem spillFigure_eq (s : State) :
    s.spillFigure = if s.doors.spill = [] then 0 else (s.entry.doorBoost * s.factor + 1) / 2 := by
  unfold State.spillFigure
  simp only [List.isEmpty_iff]

section
variable {codes : Sensors} {s : State}

theorem exec_longOpenExpiry {door : Fin 2} (running : s.running = true) (due : (s.door door).longOpen.isSome = true) :
    exec (.longOpenExpiry codes door) s =
      .next (finish {} (begin codes s)
        (checkLayover (setDoor door { s.door door with state := .longOpen, longOpen := none } (begin codes s)))) := by
  obtain ⟨n, timer⟩ := Option.isSome_iff_exists.mp due
  refine congrArg Host.Outcome.next ((whenRunning_of (longOpenEnds door) (begin codes s) running).trans ?_)
  have timerR : ((begin codes s).door door).longOpen = some n := timer
  unfold longOpenEnds
  rw [timerR]
  rfl

theorem exec_tailTimerExpiry (running : s.running = true) (due : s.doors.tail.isSome = true) :
    exec (.tailTimerExpiry codes) s = .next (finish {} (begin codes s) (setOneShot .idle none (begin codes s))) := by
  obtain ⟨n, timer⟩ := Option.isSome_iff_exists.mp due
  refine congrArg Host.Outcome.next ((whenRunning_of tailEnds (begin codes s) running).trans ?_)
  have timerR : (begin codes s).doors.tail = some n := timer
  unfold tailEnds
  rw [timerR]

theorem exec_spillTimerExpiry {station : Fin 8} (running : s.running = true)
    (due : ∃ e ∈ s.doors.spill, e.station = station.val) :
    exec (.spillTimerExpiry codes station) s =
      .next (finish {} (begin codes s) (dropSpill station (begin codes s))) := by
  refine congrArg Host.Outcome.next ((whenRunning_of (spillEnds station) (begin codes s) running).trans ?_)
  have dueR : (begin codes s).doors.spill.any (fun e => e.station == station.val) = true := by
    obtain ⟨e, mem, eq⟩ := due
    exact List.any_eq_true.mpr ⟨e, mem, by simpa using eq⟩
  unfold spillEnds
  rw [if_pos dueR]

theorem exec_outdoorAgeExpiry (running : s.running = true) (due : s.doors.outdoorAge.isSome = true) :
    exec (.outdoorAgeExpiry codes) s = .next (finish {} (begin codes s) (setOutdoor none none (begin codes s))) := by
  obtain ⟨n, timer⟩ := Option.isSome_iff_exists.mp due
  refine congrArg Host.Outcome.next ((whenRunning_of outdoorAgeEnds (begin codes s) running).trans ?_)
  have timerR : (begin codes s).doors.outdoorAge = some n := timer
  unfold outdoorAgeEnds
  rw [timerR]

theorem begin_sameDraft (codes : Sensors) (s : State) : SameDraft s (begin codes s) := ⟨rfl, rfl, rfl, rfl, rfl⟩

/-- A door open too long; with no other door just opened, the layover ends the boost. -/
theorem longOpenExpiry_effect {door : Fin 2} {t : State} (running : s.running = true)
    (ended : finish {} (begin codes s)
      (checkLayover (setDoor door { s.door door with state := .longOpen, longOpen := none } (begin codes s))) = t) :
    t.door door = { s.door door with state := .longOpen, longOpen := none } ∧
      t.door (otherDoor door) = s.door (otherDoor door) ∧
      ((s.door (otherDoor door)).state ≠ .opened → s.doors.oneShot = .held → t.doors.oneShot = .idle) ∧
      ((s.door (otherDoor door)).state = .opened ∨ s.doors.oneShot ≠ .held → t.doors.oneShot = s.doors.oneShot) ∧
      DraftFollowsOneShot s t := by
  generalize placed : setDoor door { s.door door with state := .longOpen, longOpen := none } (begin codes s) = x at ended
  have doors : t.doors = (checkLayover x).doors := by rw [← ended]; simp
  have doorT : ∀ d, t.door d = x.door d := fun d => by
    rw [← checkLayover_door x]; unfold State.door; rw [doors]
  have same : x.door door = { s.door door with state := .longOpen, longOpen := none } := by rw [← placed, setDoor_door]
  have other : x.door (otherDoor door) = s.door (otherDoor door) := by rw [← placed, setDoor_otherDoor]; rfl
  have draft : SameDraft (begin codes s) x := by rw [← placed]; exact setDoor_sameDraft _ _ _
  have layover : x.layover = ((s.door (otherDoor door)).state != .opened) := by
    rw [layover_iff door, anyOpen_iff door, same, other]; simp [Door.isOpen]
  have oneShot : t.doors.oneShot =
      if (s.door (otherDoor door)).state ≠ .opened ∧ s.doors.oneShot = .held then .idle else s.doors.oneShot := by
    rw [doors, checkLayover_oneShot, layover, draft.oneShot]
    simp only [bne_iff_ne]
    rfl
  have runningX : x.running = true := by
    rw [← placed]
    exact (running_of_member (by simp)).trans running
  refine ⟨(doorT _).trans same, (doorT _).trans other, fun shut held => ?_, fun stays => ?_, ?_⟩
  · rw [oneShot, if_pos ⟨shut, held⟩]
  · rw [oneShot, if_neg]
    rintro ⟨shut, held⟩
    obtain opened | notHeld := stays
    · exact shut opened
    · exact notHeld held
  · rw [← ended]
    exact draftFollows_finish (draftFollows_before (begin_sameDraft codes s)
      (draftFollows_before draft (draftFollows_checkLayover runningX)))

/-- The tail of the boost ends. -/
theorem tailTimerExpiry_effect {t : State} (running : s.running = true)
    (ended : finish {} (begin codes s) (setOneShot .idle none (begin codes s)) = t) :
    t.doors = { s.doors with oneShot := .idle, tail := none } ∧
      (s.doors.oneShot ≠ .idle → s.doors.lastStated = true → s.member.state ≠ .clash → t.sending .draft) ∧
      DraftFollowsOneShot s t ∧ t.boost = 0 := by
  have doors : t.doors = { s.doors with oneShot := .idle, tail := none } := by
    rw [← ended]; simp only [finish_frame, setOneShot_doors]; rfl
  have follows : DraftFollowsOneShot s t := by
    rw [← ended]
    exact draftFollows_finish (draftFollows_before (begin_sameDraft codes s)
      (draftFollows_setOneShot .idle none (s := begin codes s) running))
  have idle : t.doors.oneShot = .idle := by rw [doors]
  refine ⟨doors, fun active stated noClash => ?_, follows, boost_of_idle idle⟩
  exact (follows.2 (by simp [active, idle])).1 (by simp [stated, idle]) noClash

end

/-- Settles O44: the long-open timers, the tail, the spill timers and the age of the outdoor reading. -/
theorem doorUnitTimers : Obligations.DoorUnitTimers := by
  refine ⟨fun s => ⟨factor_eq s, boost_eq s, spillFigure_eq s⟩, fun codes s running => ⟨?_, ?_, ?_, ?_⟩⟩
  · intro door due
    have next := exec_longOpenExpiry (codes := codes) running due
    generalize ended : finish {} (begin codes s) _ = t at next
    obtain ⟨same, other, idle, stays, follows⟩ := longOpenExpiry_effect running ended
    exact ⟨t, next, same, other, idle, stays, follows, by rw [← ended]; simp, by rw [← ended]; simp,
      by rw [← ended]; simp⟩
  · intro due
    have next := exec_tailTimerExpiry (codes := codes) running due
    generalize ended : finish {} (begin codes s) _ = t at next
    obtain ⟨doors, draft, follows, boost⟩ := tailTimerExpiry_effect running ended
    exact ⟨t, next, doors, draft, follows, boost, by rw [← ended]; simp, by rw [← ended]; simp,
      by rw [← ended]; simp⟩
  · intro station due
    exact ⟨_, exec_spillTimerExpiry running due, by simp only [finish_frame]; rfl, by simp, by simp, by simp⟩
  · intro due
    have doors : (finish {} (begin codes s) (setOutdoor none none (begin codes s))).doors =
        { s.doors with outdoor := none, outdoorAge := none } := by simp only [finish_frame]; rfl
    exact ⟨_, exec_outdoorAgeExpiry running due, doors, by rw [factor_eq, doors], by simp, by simp, by simp⟩

end Sys2Proof.Machine
end

section
/-! Settles O45: the cab's defrost cycle. -/

namespace Sys2Proof.Machine

/-! ## Figures of the defrost unit -/

theorem defrostFigures_of_saloon {s : State} (saloon : s.isCab = false) :
    s.request = 0 ∧ s.safetyKept = 0 ∧ s.claimFigure = 0 := by
  simp [State.request, State.safetyKept, State.claimFigure, saloon]

/-- What the cab asks for, keeps and claims, state by state. -/
theorem defrostFigures_of_cab {s : State} (cab : s.isCab = true) :
    (s.defrost.state = .off → s.request = 0 ∧ s.safetyKept = 0 ∧ s.claimFigure = 0) ∧
      (s.defrost.state = .waiting ∨ s.defrost.state = .ramp ∨ s.defrost.state = .hold →
        s.request = s.loader.vt.defrostUnits ∧ s.safetyKept = s.loader.vt.defrostUnits ∧
          s.claimFigure = s.loader.vt.defrostUnits - s.safetyHeld) ∧
      (s.defrost.state = .trim →
        s.request = s.loader.vt.trimUnits ∧ s.safetyKept = s.loader.vt.trimUnits ∧ s.claimFigure = 0) ∧
      (s.defrost.state = .paused →
        s.request = 0 ∧ s.safetyKept = s.defrost.pausedKept ∧ s.claimFigure = 0) := by
  unfold State.request State.safetyKept State.claimFigure
  cases state : s.defrost.state <;> simp [cab]

/-- An event that takes no table over: the defrost unit leaves waiting when its units are held. -/
theorem finish_defrost_plain {r u : State} (running : u.running = true) (loader : u.loader = r.loader)
    (table : u.table = r.table) :
    (finish {} r u).defrost =
      if u.isCab = true ∧ u.defrost.state = .waiting ∧ u.loader.vt.defrostUnits ≤ u.safetyHeld then u.rampedDefrost
      else u.defrost := by
  rw [finish_of_running running, finishRunning_defrost_eq,
    served_of_unraised (unraised_of_table (ev := {}) ⟨rfl, rfl⟩ loader table)]

theorem finish_defrost_settled {r u : State} (running : u.running = true) (loader : u.loader = r.loader)
    (table : u.table = r.table) (settled : u.defrost.state = .waiting → u.safetyHeld < u.loader.vt.defrostUnits) :
    (finish {} r u).defrost = u.defrost := by
  rw [finish_defrost_plain running loader table, if_neg]
  rintro ⟨_, waiting, enough⟩
  have := settled waiting
  omega

/-! ## The fog sensor's level -/

theorem defrostSeesFog_eq (s : State) :
    (defrostSeesFog s).defrost =
      if s.defrost.state = .trim ∧ s.defrost.fog = true then s.rampedDefrost else (checkDefrost s).defrost := by
  unfold defrostSeesFog
  split
  · exact enterRamp_eq s
  · rfl

theorem checkDefrost_of_state {s : State} (notOff : s.defrost.state ≠ .off) : checkDefrost s = s := by
  unfold checkDefrost
  rw [if_neg (fun h => notOff h.2.1)]

theorem defrostSeesFog_keeps (s : State) :
    (defrostSeesFog s).defrost.fog = s.defrost.fog ∧ (defrostSeesFog s).defrost.fogDebounce = s.defrost.fogDebounce := by
  rw [defrostSeesFog_eq, checkDefrost_eq, enterWaiting_eq]
  (repeat' split) <;> exact ⟨rfl, rfl⟩

section
variable {codes : Sensors} {s : State}

/-- The state with the fog sensor's level taken over. -/
def State.fogTaken (s : State) (codes : Sensors) : State :=
  { begin codes s with defrost := { s.defrost with fog := s.pins.fog, fogDebounce := none } }

theorem exec_fogLevelChange (running : s.running = true) (due : s.defrost.fogDebounce.isSome = true) :
    exec (.fogLevelChange codes) s = .next (finish {} (begin codes s) (defrostSeesFog (s.fogTaken codes))) := by
  obtain ⟨n, timer⟩ := Option.isSome_iff_exists.mp due
  refine congrArg Host.Outcome.next ((whenRunning_of fogLevel (begin codes s) running).trans ?_)
  have timerR : (begin codes s).defrost.fogDebounce = some n := timer
  unfold fogLevel
  rw [timerR]
  rfl

/-- The defrost block behind a step that took the fog sensor's level over. -/
def FogSeen (s t : State) : Prop :=
    t.defrost.fog = s.pins.fog ∧ t.defrost.fogDebounce = none ∧
      (s.defrost.state = .trim → s.pins.fog = true →
        t.defrost.state = (if s.screenClear = true then .hold else .ramp) ∧
          t.defrost.phase = some (if s.screenClear = true then s.loader.vt.holdTime else s.loader.vt.rampLimit)) ∧
      (s.coldOutside = true ↔ ∀ x, s.doors.outdoor = some x → x < s.loader.vt.autoThreshold) ∧
      (s.screenClear = true ↔ ∃ x, s.defrost.screen = some x ∧ s.loader.vt.clearTemp ≤ x) ∧
      (s.defrost.state = .off →
        s.defrostMode = .max ∨ (s.defrostMode = .auto ∧ s.pins.fog = true ∧ s.coldOutside = true) →
        (s.live = true → s.member.state ≠ .clash → s.safetyHeld < s.loader.vt.defrostUnits →
          t.defrost.state = .waiting ∧ t.defrost.phase = none) ∧
          (s.live = true → s.member.state ≠ .clash → s.loader.vt.defrostUnits ≤ s.safetyHeld →
            t.defrost.state = (if s.screenClear = true then .hold else .ramp) ∧
              t.defrost.phase = some (if s.screenClear = true then s.loader.vt.holdTime else s.loader.vt.rampLimit)) ∧
          (s.live = false ∨ s.member.state = .clash → t.defrost.state = .paused ∧ t.defrost.pausedKept = 0)) ∧
      (s.defrost.state = .off →
        s.defrostMode = .off ∨ (s.defrostMode = .auto ∧ (s.pins.fog = false ∨ s.coldOutside = false)) →
        t.defrost.state = .off) ∧
      (s.defrost.state = .trim → s.pins.fog = false →
        t.defrost.state = .trim ∧ t.defrost.phase = s.defrost.phase) ∧
      (s.defrost.state = .waiting → s.safetyHeld < s.loader.vt.defrostUnits →
        t.defrost.state = .waiting ∧ t.defrost.phase = s.defrost.phase) ∧
      (s.defrost.state = .ramp ∨ s.defrost.state = .hold ∨ s.defrost.state = .paused →
        t.defrost.state = s.defrost.state ∧ t.defrost.phase = s.defrost.phase)

theorem fogTaken_wanted (s : State) (codes : Sensors) :
    (s.fogTaken codes).defrostWanted = true ↔
      s.defrostMode = .max ∨ (s.defrostMode = .auto ∧ s.pins.fog = true ∧ s.coldOutside = true) := by
  have mode : (s.fogTaken codes).defrostMode = s.defrostMode := rfl
  have fog : (s.fogTaken codes).defrost.fog = s.pins.fog := rfl
  have cold : (s.fogTaken codes).coldOutside = s.coldOutside := rfl
  unfold State.defrostWanted
  rw [mode, fog, cold]
  cases s.defrostMode <;> simp

/-- The block before the units held are looked at. -/
theorem fogTaken_sees (s : State) (codes : Sensors) (cab : s.isCab = true) :
    (s.defrost.state = .trim → s.pins.fog = true →
      (defrostSeesFog (s.fogTaken codes)).defrost = (s.fogTaken codes).rampedDefrost) ∧
    (s.defrost.state = .trim → s.pins.fog = false →
      (defrostSeesFog (s.fogTaken codes)).defrost = (s.fogTaken codes).defrost) ∧
    (s.defrost.state ≠ .off → s.defrost.state ≠ .trim →
      (defrostSeesFog (s.fogTaken codes)).defrost = (s.fogTaken codes).defrost) ∧
    (s.defrost.state = .off →
      (defrostSeesFog (s.fogTaken codes)).defrost =
        if (s.fogTaken codes).defrostWanted = true then
          if s.live = true ∧ s.member.state ≠ .clash then
            if s.loader.vt.defrostUnits ≤ s.safetyHeld then (s.fogTaken codes).rampedDefrost
            else { (s.fogTaken codes).defrost with state := .waiting, phase := none }
          else { (s.fogTaken codes).defrost with state := .paused, phase := none, pausedKept := 0 }
        else (s.fogTaken codes).defrost) := by
  have state : (s.fogTaken codes).defrost.state = s.defrost.state := rfl
  have fog : (s.fogTaken codes).defrost.fog = s.pins.fog := rfl
  have isCab : (s.fogTaken codes).isCab = true := cab
  rw [defrostSeesFog_eq, state, fog]
  refine ⟨fun trim fog => if_pos ⟨trim, fog⟩, fun trim clear => ?_, fun notOff notTrim => ?_, fun off => ?_⟩
  · rw [if_neg (by simp [clear]), checkDefrost_of_state (by rw [state, trim]; decide)]
  · rw [if_neg (fun h => notTrim h.1), checkDefrost_of_state (by rw [state]; exact notOff)]
  · rw [if_neg (by simp [off]), checkDefrost_eq, enterWaiting_eq, state, isCab]
    simp only [off, true_and]
    rfl

theorem fogLevelChange_effect {t : State} (running : s.running = true) (cab : s.isCab = true)
    (ended : finish {} (begin codes s) (defrostSeesFog (s.fogTaken codes)) = t) : FogSeen s t := by
  obtain ⟨trimFog, trimClear, other, off⟩ := fogTaken_sees s codes cab
  obtain ⟨fogKept, debounceKept⟩ := defrostSeesFog_keeps (s.fogTaken codes)
  have plain := finish_defrost_plain (r := begin codes s) (u := defrostSeesFog (s.fogTaken codes))
    ((running_of_member (by simp; rfl)).trans running) (by simp; rfl) (by simp; rfl)
  rw [ended] at plain
  have held : (defrostSeesFog (s.fogTaken codes)).safetyHeld = s.safetyHeld := by
    simp only [State.safetyHeld, State.ownRow, State.me, defrostSeesFog_frame]; rfl
  have loader : (defrostSeesFog (s.fogTaken codes)).loader = s.loader := by simp; rfl
  have settled : ((defrostSeesFog (s.fogTaken codes)).defrost.state = .waiting →
      s.safetyHeld < s.loader.vt.defrostUnits) → t.defrost = (defrostSeesFog (s.fogTaken codes)).defrost := by
    intro short
    rw [plain, if_neg]
    rintro ⟨_, waiting, enough⟩
    have := short waiting
    rw [loader, held] at enough
    omega
  have keeps : t.defrost.fog = s.pins.fog ∧ t.defrost.fogDebounce = none := by
    rw [plain]
    split <;> exact ⟨fogKept, debounceKept⟩
  obtain ⟨notWaiting, _, _⟩ := rampedDefrost_state (s.fogTaken codes)
  generalize defrostSeesFog (s.fogTaken codes) = w at *
  have unseen : w.defrost = (s.fogTaken codes).defrost →
      (s.defrost.state = .waiting → s.safetyHeld < s.loader.vt.defrostUnits) →
      t.defrost.state = s.defrost.state ∧ t.defrost.phase = s.defrost.phase := by
    intro eq short
    rw [settled (by rw [eq]; exact short), eq]
    exact ⟨rfl, rfl⟩
  refine ⟨keeps.1, keeps.2, fun trim fog => ?_, coldOutside_iff s, screenClear_iff s, fun isOff wanted => ?_,
    fun isOff unwanted => ?_, fun trim clear => ?_, fun waiting short => ?_, fun under => ?_⟩
  · have eq := trimFog trim fog
    rw [settled (fun waiting => absurd (eq ▸ waiting) notWaiting), eq]
    exact ⟨rfl, rfl⟩
  · have eq := off isOff
    rw [if_pos ((fogTaken_wanted s codes).mpr wanted)] at eq
    refine ⟨fun live noClash short => ?_, fun live noClash enough => ?_, fun barred => ?_⟩
    · rw [if_pos ⟨live, noClash⟩, if_neg (by omega)] at eq
      rw [settled (fun _ => short), eq]
      exact ⟨rfl, rfl⟩
    · rw [if_pos ⟨live, noClash⟩, if_pos enough] at eq
      rw [settled (fun waiting => absurd (eq ▸ waiting) notWaiting), eq]
      exact ⟨rfl, rfl⟩
    · rw [if_neg (by rintro ⟨live, noClash⟩; obtain h | h := barred; · simp [h] at live
                     · exact noClash h)] at eq
      rw [settled (by rw [eq]; nofun), eq]
      exact ⟨rfl, rfl⟩
  · have eq := off isOff
    have notWanted : ¬(s.fogTaken codes).defrostWanted = true := by
      rw [fogTaken_wanted]
      rintro (max | ⟨auto, fog, cold⟩)
      · obtain h | ⟨h, _⟩ := unwanted <;> simp [h] at max
      · obtain h | ⟨_, h | h⟩ := unwanted
        · simp [h] at auto
        · simp [h] at fog
        · simp [h] at cold
    rw [if_neg notWanted] at eq
    exact (unseen eq (by simp [isOff])).1.trans isOff
  · have seen := unseen (trimClear trim clear) (by simp [trim])
    exact ⟨seen.1.trans trim, seen.2⟩
  · have seen := unseen (other (by simp [waiting]) (by simp [waiting])) (fun _ => short)
    exact ⟨seen.1.trans waiting, seen.2⟩
  · have notOff : s.defrost.state ≠ .off ∧ s.defrost.state ≠ .trim ∧ s.defrost.state ≠ .waiting := by
      obtain h | h | h := under <;> simp [h]
    exact unseen (other notOff.1 notOff.2.1) (fun waiting => absurd waiting notOff.2.2)

/-! ## The phase timers -/

theorem phaseRuns_of {state : DefrostState} (at_ : s.defrost.state = state) (due : s.defrost.phase.isSome = true)
    (codes : Sensors) : (begin codes s).phaseRuns state = true := by
  show (s.defrost.state == state && s.defrost.phase.isSome) = true
  simp [at_, due]

theorem exec_rampTimerExpiry (running : s.running = true) (ramp : s.defrost.state = .ramp)
    (due : s.defrost.phase.isSome = true) :
    exec (.rampTimerExpiry codes) s = .next (finish {} (begin codes s) (enterHold (noteRampTimeout (begin codes s)))) :=
  congrArg Host.Outcome.next ((whenRunning_of rampEnds (begin codes s) running).trans
    (if_pos (phaseRuns_of ramp due codes)))

theorem exec_holdTimerExpiry (running : s.running = true) (hold : s.defrost.state = .hold)
    (due : s.defrost.phase.isSome = true) :
    exec (.holdTimerExpiry codes) s = .next (finish {} (begin codes s) (holdExpires (begin codes s))) :=
  congrArg Host.Outcome.next ((whenRunning_of holdEnds (begin codes s) running).trans
    (if_pos (phaseRuns_of hold due codes)))

theorem exec_trimTimerExpiry (running : s.running = true) (trim : s.defrost.state = .trim)
    (due : s.defrost.phase.isSome = true) :
    exec (.trimTimerExpiry codes) s = .next (finish {} (begin codes s) (enterOff (begin codes s))) :=
  congrArg Host.Outcome.next ((whenRunning_of trimEnds (begin codes s) running).trans
    (if_pos (phaseRuns_of trim due codes)))

theorem holdExpires_eq (s : State) (hold : s.defrost.state = .hold) :
    (holdExpires s).defrost =
      if s.defrostMode = .auto ∧ s.defrost.fog = false then
        { s.defrost with state := .trim, phase := some s.loader.vt.trimTime }
      else { s.defrost with state := .hold, phase := some s.loader.vt.holdTime } := by
  unfold holdExpires
  simp only [Bool.not_eq_true']
  split <;> rfl

end

/-- Settles O45: the cab's defrost cycle. -/
theorem defrostCycle : Obligations.DefrostCycle := by
  refine ⟨fun s => ⟨rfl, defrostFigures_of_saloon, defrostFigures_of_cab⟩, fun codes s running cab => ⟨?_, ?_, ?_, ?_⟩⟩
  · intro due
    have next := exec_fogLevelChange (codes := codes) running due
    generalize ended : finish {} (begin codes s) _ = t at next
    obtain ⟨fog, debounce, trimFog, cold, clear, wanted, unwanted, trim, waiting, under⟩ :=
      fogLevelChange_effect running cab ended
    exact ⟨t, next, fog, debounce, trimFog, cold, clear, wanted, unwanted, trim, waiting, under,
      by rw [← ended]; simp; rfl, by rw [← ended]; simp; rfl, by rw [← ended]; simp; rfl, by rw [← ended]; simp; rfl⟩
  · intro ramp due
    refine ⟨_, exec_rampTimerExpiry running ramp due, ?_, ?_, ?_, ?_, by simp, by simp, by simp, by simp⟩
    · exact finish_defrost_settled running rfl rfl nofun
    · simp; rfl
    · simp; rfl
    · simp; rfl
  · intro hold due
    have defrost := holdExpires_eq (begin codes s) hold
    have settled := finish_defrost_settled (r := begin codes s) (u := holdExpires (begin codes s))
      ((running_of_member (by simp)).trans running) (by simp) (by simp)
      (by rw [defrost]; split <;> nofun)
    exact ⟨_, exec_holdTimerExpiry running hold due, settled.trans defrost, by simp, by simp, by simp,
      by simp⟩
  · intro trim due
    have next := exec_trimTimerExpiry (codes := codes) running trim due
    have defrost : (finish {} (begin codes s) (enterOff (begin codes s))).defrost =
        { s.defrost with state := .off, phase := none } := finish_defrost_settled running rfl rfl nofun
    generalize ended : finish {} (begin codes s) _ = t at next defrost
    have figures : t.request = 0 ∧ t.safetyKept = 0 ∧ t.claimFigure = 0 := by
      cases isCab : t.isCab with
      | false => exact defrostFigures_of_saloon isCab
      | true => exact (defrostFigures_of_cab isCab).1 (by rw [defrost])
    exact ⟨t, next, defrost, figures.1, figures.2.1, figures.2.2,
      by rw [← ended]; simp, by rw [← ended]; simp, by rw [← ended]; simp, by rw [← ended]; simp⟩

end Sys2Proof.Machine
end

section
/-! Settles O46: the override slots' expiries and the silence of the panel. -/

namespace Sys2Proof.Machine

/-! ## Slots that empty -/

/-- The slots of `o` that matter to the units are those of `before`, or empty. -/
structure OnlyEmptied (before o : Overrides) : Prop where
  boost : o.boostInhibit = before.boostInhibit ∨ o.boostInhibit = none
  mode : o.defrostMode = before.defrostMode ∨ o.defrostMode = none

theorem onlyEmptied_emptied (kind : OverrideKind) (o : Overrides) : OnlyEmptied o (o.emptied kind) := by
  cases kind with
  | boostInhibit => exact ⟨.inr rfl, .inl rfl⟩
  | defrostMode => exact ⟨.inl rfl, .inr rfl⟩
  | setpointOffset | fanForce | zoneOff | economy => exact ⟨.inl rfl, .inl rfl⟩

theorem timedOnly_eq {α : Type} (slot : Option (Slot α)) : Slot.timedOnly slot = slot ∨ Slot.timedOnly slot = none := by
  unfold Slot.timedOnly
  cases slot with
  | none => exact .inl rfl
  | some x =>
    by_cases timed : x.expiry.isSome = true
    · exact .inl (by simp [timed])
    · exact .inr (by simpa using timed)

theorem onlyEmptied_silenced (o : Overrides) : OnlyEmptied o o.silenced := ⟨timedOnly_eq _, timedOnly_eq _⟩

theorem emptied_inactive (kind : OverrideKind) (o : Overrides) : (o.emptied kind).active kind = false := by
  cases kind <;> rfl

theorem emptied_ne {kind : OverrideKind} {o : Overrides} (due : (o.expiry kind).isSome = true) :
    ({ o.emptied kind with panelSilence := none } : Overrides) ≠ { o with panelSilence := none } := by
  intro same
  have active : o.active kind = true := by
    cases kind
    all_goals
      simp only [Overrides.expiry, Option.isSome_bind] at due
      simp only [Overrides.active]
      exact Option.isSome_of_any due
  have inactive := congrArg (Overrides.active kind) same
  have left : ({ o.emptied kind with panelSilence := none } : Overrides).active kind = false := by cases kind <;> rfl
  have right : ({ o with panelSilence := none } : Overrides).active kind = o.active kind := by cases kind <;> rfl
  rw [left, right, active] at inactive
  exact absurd inactive (by decide)

theorem checkDefrost_rest (s : State) : checkDefrost s = { s with defrost := (checkDefrost s).defrost } := by
  unfold checkDefrost enterWaiting leaveWaiting enterRamp compareScreen enterHold enterPaused
  (repeat' split) <;> rfl

/-- The state with the slots `o`, the setpoint and the defrost unit following them. -/
def State.slotsCleared (s : State) (o : Overrides) : State :=
  { recomputeSetpoint { s with overrides := o } with
    defrost :=
      if s.isCab = true ∧ ({ s with overrides := o } : State).defrostMode ≠ s.defrostMode then
        (checkDefrost { s with overrides := o }).defrost
      else s.defrost }

theorem defrostMode_of_emptied {s : State} {o : Overrides} (only : OnlyEmptied s.overrides o)
    (moved : ({ s with overrides := o } : State).defrostMode ≠ s.defrostMode) :
    ({ s with overrides := o } : State).defrostMode = .auto := by
  unfold State.defrostMode at moved ⊢
  obtain same | none := only.mode
  · exact absurd (by simp only [same]) moved
  · simp only [none]

theorem handSlotsOn_emptied {s : State} {o : Overrides} (only : OnlyEmptied s.overrides o) :
    handSlotsOn o s = s.slotsCleared o := by
  have quiet : ¬(o.boostInhibit.isSome = true ∧ s.overrides.boostInhibit.isNone = true) := by
    rintro ⟨some, none⟩
    obtain same | empty := only.boost
    · rw [same] at some; simp [Option.isNone_iff_eq_none.mp none] at some
    · simp [empty] at some
  have mode : (recomputeSetpoint { s with overrides := o }).defrostMode = ({ s with overrides := o } : State).defrostMode := rfl
  have isCab : (recomputeSetpoint { s with overrides := o }).isCab = s.isCab := rfl
  unfold handSlotsOn
  dsimp only
  rw [if_neg quiet, mode]
  unfold State.slotsCleared
  by_cases same : ({ s with overrides := o } : State).defrostMode = s.defrostMode
  · rw [if_pos same, if_neg (fun h => h.2 same)]; rfl
  · rw [if_neg same]
    unfold defrostSeesMode
    rw [isCab]
    by_cases cab : s.isCab = true
    · have moved : s.isCab = true ∧ ({ s with overrides := o } : State).defrostMode ≠ s.defrostMode := ⟨cab, same⟩
      have checked : (checkDefrost (recomputeSetpoint { s with overrides := o })).defrost =
          (checkDefrost { s with overrides := o }).defrost :=
        SameFigures.checkDefrost_defrost ⟨rfl, rfl, rfl, rfl, rfl, rfl, rfl, rfl⟩
      rw [if_pos cab, if_pos moved, mode, defrostMode_of_emptied only same, ← checked]
      exact checkDefrost_rest _
    · rw [if_neg cab, if_neg (fun h => cab h.1)]; rfl

theorem slotsCleared_checks {s : State} {o : Overrides} (cab : s.isCab = true)
    (moved : ({ s with overrides := o } : State).defrostMode ≠ s.defrostMode) :
    (s.slotsCleared o).defrost = (checkDefrost { s with overrides := o }).defrost := by
  unfold State.slotsCleared
  exact if_pos ⟨cab, moved⟩

/-! ## The event -/

section
variable {codes : Sensors} {s t : State} {o : Overrides}

theorem slotsCleared_stands {e : State}
    (ended : finishRunning { evaluate := true } (begin codes s) ((begin codes s).slotsCleared o) = t)
    (base : e = { s with
      overrides := t.overrides, defrost := t.defrost, member := t.member
      zone := { s.zone with base := e.zone.base } }) :
    StandsFor e (((begin codes s).slotsCleared o).served { evaluate := true } (begin codes s)) := by
  have member : t.member.state = s.member.state := by
    rw [← ended]; exact (sameFigures_finishRunning _ _ _).member.trans (by simp; rfl)
  have overrides : t.overrides = o := by rw [← ended]; simp; rfl
  rw [base]
  exact standsFor_served rfl rfl rfl rfl overrides member (by rw [ended]) rfl rfl rfl

/-- The zone behind slots that changed. -/
theorem slotsCleared_zone
    (ended : finishRunning { evaluate := true } (begin codes s) ((begin codes s).slotsCleared o) = t) :
    t.zone.setpoint =
        some (max 20 (min 56 (s.entry.baseSetpoint +
          match t.overrides.setpointOffset with
          | some x => x.value
          | none => 0))) ∧
      t.zone.pendingFlag = (s.zone.pendingFlag || t.zone.setpoint != s.zone.setpoint) ∧
      SensorsRead false codes s t ∧ ZoneMeasured codes t := by
  have called := called_of_evaluate (begin codes s) ((begin codes s).slotsCleared o)
  have read := evaluated_sensors called
  have flag := evaluated_pendingFlag called
  have measured : ZoneMeasured codes _ := zoneMeasured_of_called rfl called
  rw [ended] at read flag measured
  have overrides : t.overrides = o := by rw [← ended]; simp; rfl
  have setpoint : t.zone.setpoint =
      some (max 20 (min 56 (s.entry.baseSetpoint +
        match t.overrides.setpointOffset with
        | some x => x.value
        | none => 0))) := by
    rw [overrides, ← ended]; simp; rfl
  refine ⟨setpoint, ?_, read, measured⟩
  rw [bne_comm, setpoint, overrides]
  exact flag.trans (Bool.and_true _)

theorem slotsCleared_defrost
    (ended : finishRunning { evaluate := true } (begin codes s) ((begin codes s).slotsCleared o) = t) :
    t.defrost =
      if s.isCab = true ∧ ((begin codes s).slotsCleared o).defrost.state = .waiting ∧
          s.loader.vt.defrostUnits ≤ s.safetyHeld then
        ((begin codes s).slotsCleared o).rampedDefrost
      else ((begin codes s).slotsCleared o).defrost := by
  have raised := unraised_of_table (ev := { evaluate := true }) (r := begin codes s)
    (u := (begin codes s).slotsCleared o) ⟨rfl, rfl⟩ rfl rfl
  rw [← ended, finishRunning_defrost_eq, served_of_unraised raised]
  rfl

theorem slotsCleared_sees
    (ended : finishRunning { evaluate := true } (begin codes s) ((begin codes s).slotsCleared o) = t)
    (stays : s.isCab = false ∨ s.defrost.state ≠ .off ∨ t.defrostMode = s.defrostMode) : DefrostSees False s t := by
  have overrides : t.overrides = o := by rw [← ended]; simp; rfl
  have same : ((begin codes s).slotsCleared o).defrost = s.defrost := by
    show (if s.isCab = true ∧ ({ begin codes s with overrides := o } : State).defrostMode ≠ s.defrostMode then
      (checkDefrost { begin codes s with overrides := o }).defrost else s.defrost) = s.defrost
    split
    · rename_i moved
      obtain saloon | notOff | mode := stays
      · simp [saloon] at moved
      · rw [checkDefrost_of_state (by exact notOff)]; rfl
      · refine absurd ?_ moved.2
        rw [← mode]; simp only [State.defrostMode, overrides]
    · rfl
  have defrost := slotsCleared_defrost ended
  have table : t.table = s.table := by rw [← ended]; simp; rfl
  have loader : t.loader = s.loader := by rw [← ended]; simp; rfl
  refine defrostSees_of_unraised (by simp only [State.ownRow, State.me, table, loader]) ?_
  rw [defrost, same, rampedDefrost_congr (s := s) (t := (begin codes s).slotsCleared o) rfl same]

theorem slotsCleared_checked (only : OnlyEmptied s.overrides o)
    (ended : finishRunning { evaluate := true } (begin codes s) ((begin codes s).slotsCleared o) = t)
    (cab : s.isCab = true) (off : s.defrost.state = .off) (moved : t.defrostMode ≠ s.defrostMode) :
    t.defrostMode = .auto ∧ DefrostChecked { s with overrides := t.overrides } t := by
  have overrides : t.overrides = o := by rw [← ended]; simp; rfl
  have mode : t.defrostMode = ({ s with overrides := o } : State).defrostMode := by
    simp only [State.defrostMode, overrides]
  rw [mode] at moved
  have follows : SameFigures ({ s with overrides := o } : State) { begin codes s with overrides := o } :=
    ⟨rfl, rfl, rfl, rfl, rfl, rfl, rfl, rfl⟩
  have checked : ((begin codes s).slotsCleared o).defrost = (checkDefrost { s with overrides := o }).defrost :=
    (slotsCleared_checks (s := begin codes s) cab moved).trans follows.checkDefrost_defrost
  have settled : (checkDefrost { s with overrides := o }).defrost.state = .waiting →
      s.safetyHeld < s.loader.vt.defrostUnits := (checkDefrost_off_settled (s := { s with overrides := o }) off).1
  refine ⟨mode.trans (defrostMode_of_emptied only moved), ?_⟩
  rw [overrides]
  refine defrostChecked_of_eq cab off ?_
  rw [slotsCleared_defrost ended, checked, if_neg]
  rintro ⟨_, waiting, enough⟩
  have := settled waiting
  omega

/-- Slots that emptied are handed on to the units, and the unit is evaluated. -/
theorem slotsHandedOn_of_emptied (running : s.running = true) (only : OnlyEmptied s.overrides o)
    (changed : ({ o with panelSilence := none } : Overrides) ≠ { s.overrides with panelSilence := none })
    (ended : finish { evaluate := true } (begin codes s) (handSlotsOn o (begin codes s)) = t) :
    t.overrides = o ∧ SlotsHandedOn codes s t ∧ t.table = s.table ∧ t.supply = s.supply := by
  have runsU : ((begin codes s).slotsCleared o).running = true := running
  rw [handSlotsOn_emptied (s := begin codes s) only, finish_of_running runsU] at ended
  have called := called_of_evaluate (begin codes s) ((begin codes s).slotsCleared o)
  have overrides : t.overrides = o := by rw [← ended]; simp; rfl
  obtain ⟨setpoint, flag, read, measured⟩ := slotsCleared_zone ended
  refine ⟨overrides, ⟨?_, fun same => absurd (overrides ▸ same) changed, fun _ => ⟨setpoint, flag, read, measured, ?_, ?_,
    slotsCleared_sees ended, slotsCleared_checked only ended⟩⟩, ?_, ?_⟩
  · rw [← ended]; simp; rfl
  · exact shareEvaluated_of_ended ended runsU (slotsCleared_stands ended rfl) (.inl called) rfl rfl rfl rfl rfl ⟨rfl, rfl⟩ rfl
  · exact stagesRegulated_of_ended ended runsU (slotsCleared_stands ended rfl) called
  · rw [← ended]; simp; rfl
  · rw [← ended]; simp; rfl

theorem exec_slotExpiry {kind : OverrideKind} (running : s.running = true) (due : (s.overrides.expiry kind).isSome = true) :
    exec (.slotExpiry codes kind) s =
      .next (finish { evaluate := true } (begin codes s) (handSlotsOn (s.overrides.emptied kind) (begin codes s))) := by
  obtain ⟨n, timer⟩ := Option.isSome_iff_exists.mp due
  refine congrArg Host.Outcome.next ((whenRunning_of (slotEnds kind) (begin codes s) running).trans ?_)
  have timerR : (begin codes s).overrides.expiry kind = some n := timer
  unfold slotEnds
  rw [timerR]
  rfl

theorem exec_panelSilenceExpiry (running : s.running = true) (due : s.overrides.panelSilence.isSome = true) :
    exec (.panelSilenceExpiry codes) s =
      .next (if s.overrides.silenced ≠ { s.overrides with panelSilence := none } then
        finish { evaluate := true } (begin codes s) (handSlotsOn s.overrides.silenced (begin codes s))
      else { begin codes s with overrides := { s.overrides with panelSilence := none } }) := by
  obtain ⟨n, timer⟩ := Option.isSome_iff_exists.mp due
  refine congrArg Host.Outcome.next ((whenRunning_of panelFallsSilent (begin codes s) running).trans ?_)
  have timerR : (begin codes s).overrides.panelSilence = some n := timer
  have takes : (begin codes s).overrides.silenceTakes = true ↔
      s.overrides.silenced ≠ { s.overrides with panelSilence := none } := by
    show (s.overrides.silenced != { s.overrides with panelSilence := none }) = true ↔ _
    simp
  unfold panelFallsSilent
  rw [timerR]
  simp only [takes]
  rfl

theorem slotsHandedOn_of_same (overrides : t.overrides = { s.overrides with panelSilence := none })
    (rest : t.doors = s.doors ∧ t.zone = s.zone ∧ t.defrost = s.defrost) : SlotsHandedOn codes s t := by
  obtain ⟨doors, zone, defrost⟩ := rest
  refine ⟨doors, fun _ => ⟨by rw [zone], fun _ => defrost⟩, fun moved => absurd ?_ moved⟩
  rw [overrides]

end

/-- Settles O46: slots empty at their expiry and when the panel falls silent, and the units follow. -/
theorem slotsEmptyByTime : Obligations.SlotsEmptyByTime := by
  intro codes s running
  refine ⟨fun kind due => ?_, fun due => ?_⟩
  · have next := exec_slotExpiry (codes := codes) running due
    generalize ended : finish { evaluate := true } (begin codes s) _ = t at next
    obtain ⟨overrides, handed, table, supply⟩ :=
      slotsHandedOn_of_emptied running (onlyEmptied_emptied kind _) (emptied_ne due) ended
    refine ⟨t, next, overrides, by rw [overrides, emptied_inactive], fun offset => ?_, handed, table, supply⟩
    obtain ⟨setpoint, _⟩ := handed.2.2 (by rw [overrides]; exact emptied_ne due)
    rw [setpoint, overrides, offset]
    simp [Overrides.emptied]
  · have next := exec_panelSilenceExpiry (codes := codes) running due
    by_cases takes : s.overrides.silenced ≠ { s.overrides with panelSilence := none }
    · rw [if_pos takes] at next
      generalize ended : finish { evaluate := true } (begin codes s) _ = t at next
      obtain ⟨overrides, handed, table, supply⟩ :=
        slotsHandedOn_of_emptied running (onlyEmptied_silenced _) takes ended
      exact ⟨t, next, overrides, handed, table, supply⟩
    · rw [if_neg takes] at next
      have silenced : s.overrides.silenced = { s.overrides with panelSilence := none } := Decidable.not_not.mp takes
      exact ⟨_, next, silenced.symm, slotsHandedOn_of_same rfl ⟨rfl, rfl, rfl⟩, rfl, rfl⟩

end Sys2Proof.Machine
end

section
/-! Settles O49: the load of the option table, and its failure. -/

namespace Sys2Proof.Machine

/-! ## The state with the table in force -/

section
variable {codes : Sensors} {image : List Byte} {vt : VehicleTable} {s t : State}

theorem ofRoster_owed (roster : List RosterEntry) (station : Nat) :
    ((ShareTable.ofRoster roster).rowOf station).owed = 0 := by
  unfold ShareTable.rowOf ShareTable.row?
  cases found : (ShareTable.ofRoster roster).rows.find? (fun r => r.station == station) with
  | none => rfl
  | some r =>
    obtain ⟨e, _, rfl⟩ := mem_ofRoster (List.mem_of_find?_eq_some found)
    rfl

/-- The cab's door block and defrost block behind the load. -/
theorem tableLoaded_doors (image : List Byte) (vt : VehicleTable) (s : State) :
    (s.tableLoaded image vt).doors =
      if (tableInForce image vt s).isCab = true then
        { (tableInForce image vt s).doors with outdoor := readingOf s.pins.sensors.outdoor }
      else (tableInForce image vt s).doors := by
  unfold State.tableLoaded
  simp only [checkDefrost_frame, readCabSensors_doors]
  simp [tableInForce]

theorem leaveInStep_flight (s : State) :
    (leaveInStep s).flight = s.flight ∧ (leaveInStep s).hasTx .ret = s.hasTx .ret := by
  unfold leaveInStep
  refine ⟨(flight_of_bus (s := withdrawKind .expel (withdrawKind .lapse (withdrawKind .claim s))) rfl).trans (by simp), ?_⟩
  refine (hasTx_of_queue (s := withdrawKind .expel (withdrawKind .lapse (withdrawKind .claim s))) rfl _).trans ?_
  simp only [hasTx_withdrawKind_other (other := .ret) (by decide : TxKind.expel ≠ .ret),
    hasTx_withdrawKind_other (other := .ret) (by decide : TxKind.lapse ≠ .ret),
    hasTx_withdrawKind_other (other := .ret) (by decide : TxKind.claim ≠ .ret)]

theorem dropReport_flight (s : State) :
    (dropReport s).flight = s.flight ∧ (dropReport s).hasTx .ret = s.hasTx .ret :=
  ⟨flight_withdrawKind _ _, hasTx_withdrawKind_other (by decide) _⟩

theorem stopStatus_flight (s : State) :
    (stopStatus s).flight = s.flight ∧ (stopStatus s).hasTx .ret = s.hasTx .ret := by
  obtain ⟨flight, queued⟩ := dropReport_flight
    (withdrawKind .status { s with member := { s.member with statusPeriod := none } })
  exact ⟨flight.trans (flight_withdrawKind _ _), queued.trans (hasTx_withdrawKind_other (by decide) _)⟩

/-- A station that begins to listen has neither sent nor dropped a return. -/
theorem setMember_listen_flight (s : State) :
    (setMember .listen s).flight = s.flight ∧ (setMember .listen s).hasTx .ret = s.hasTx .ret := by
  have left : (if s.member.state = .inStep then leaveInStep s else s).flight = s.flight ∧
      (if s.member.state = .inStep then leaveInStep s else s).hasTx .ret = s.hasTx .ret := by
    split
    · exact leaveInStep_flight s
    · exact ⟨rfl, rfl⟩
  unfold setMember entered
  dsimp only
  generalize (if s.member.state = .inStep then leaveInStep s else s) = w at left
  obtain ⟨flight, queued⟩ := stopStatus_flight { w with member := { w.member with state := .listen } }
  exact ⟨flight.trans left.1, queued.trans left.2⟩

theorem setMember_listen_second (s : State) :
    (setMember .listen s).stats.second = s.stats.second ∧ (setMember .listen s).member.census = s.member.census ∧
      (setMember .listen s).member.leaseNews = s.member.leaseNews ∧ (setMember .listen s).defrost = s.defrost := by
  unfold setMember entered stopStatus dropReport leaveInStep
  dsimp only
  split <;> simp

theorem tableLoaded_rest (image : List Byte) (vt : VehicleTable) (s : State) :
    (s.tableLoaded image vt).supply = { s.supply with settle := some 3000 } ∧
      (s.tableLoaded image vt).pins = s.pins ∧ (s.tableLoaded image vt).flight = s.flight ∧
      (s.tableLoaded image vt).hasTx .ret = s.hasTx .ret ∧ (s.tableLoaded image vt).member.census = some 5000 ∧
      (s.tableLoaded image vt).member.leaseNews = false ∧ (s.tableLoaded image vt).stats.second = some 1000 := by
  have flight : (s.tableLoaded image vt).flight = (tableInForce image vt s).flight :=
    flight_of_bus (by simp [State.tableLoaded])
  have queued : (s.tableLoaded image vt).hasTx .ret = (tableInForce image vt s).hasTx .ret :=
    hasTx_of_queue (by simp [State.tableLoaded]) _
  rw [flight, queued]
  unfold State.tableLoaded
  simp only [checkDefrost_frame, readCabSensors_frame]
  obtain ⟨_, census, news, _⟩ := setMember_listen_second
    { s with
      loader := { s.loader with phase := .loaded, image, vt }
      table := ShareTable.ofRoster vt.roster
      supply := { s.supply with settle := some settleTime }
      member := { s.member with census := some censusTime, leaseNews := false } }
  obtain ⟨flew, asked⟩ := setMember_listen_flight
    { s with
      loader := { s.loader with phase := .loaded, image, vt }
      table := ShareTable.ofRoster vt.roster
      supply := { s.supply with settle := some settleTime }
      member := { s.member with census := some censusTime, leaseNews := false } }
  refine ⟨?_, ?_, flew, asked, census, news, rfl⟩
  · simp [tableInForce, settleTime]
  · simp [tableInForce]

theorem tableLoaded_saloon (saloon : (tableInForce image vt s).isCab = false) :
    (s.tableLoaded image vt).defrost = (tableInForce image vt s).defrost := by
  unfold State.tableLoaded
  rw [readCabSensors_of_saloon saloon, checkDefrost_eq, if_neg (by simp [saloon])]

theorem checkDefrost_fog (x : State) : (checkDefrost x).defrost.fog = x.defrost.fog := by
  rw [checkDefrost_eq, enterWaiting_eq]
  (repeat' split) <;> rfl

theorem compareScreen_of_state {x : State} (noRamp : x.defrost.state ≠ .ramp) : compareScreen x = x := by
  unfold compareScreen
  rw [if_neg (fun h => noRamp h.1)]

/-- Read and checked twice or once: a cab that is off and may not heat is paused when defrosting is wanted. -/
theorem checkDefrost_readCabSensors {x : State} (cab : x.isCab = true) (off : x.defrost.state = .off)
    (dead : (x.cabRead x.pins.sensors).defrostWanted = true → x.live = false) :
    (checkDefrost (readCabSensors x)).defrost =
      if (x.cabRead x.pins.sensors).defrostWanted = true then
        { (x.cabRead x.pins.sensors).defrost with state := .paused, phase := none, pausedKept := 0 }
      else (x.cabRead x.pins.sensors).defrost := by
  have once : (checkDefrost (x.cabRead x.pins.sensors)).defrost =
      if (x.cabRead x.pins.sensors).defrostWanted = true then
        { (x.cabRead x.pins.sensors).defrost with state := .paused, phase := none, pausedKept := 0 }
      else (x.cabRead x.pins.sensors).defrost := by
    rw [checkDefrost_eq]
    by_cases wanted : (x.cabRead x.pins.sensors).defrostWanted = true
    · have live : (x.cabRead x.pins.sensors).live = false := dead wanted
      rw [if_pos ⟨cab, off, wanted⟩, if_pos wanted, if_neg (by simp [live])]
    · rw [if_neg (fun h => wanted h.2.2), if_neg wanted]
  rw [readCabSensors_of_cab cab]
  split
  · rw [compareScreen_of_state (by show x.defrost.state ≠ .ramp; rw [off]; decide), once]
  · by_cases wanted : (x.cabRead x.pins.sensors).defrostWanted = true
    · rw [if_pos wanted] at once ⊢
      rw [compareScreen_of_state (by rw [once]; exact nofun), checkDefrost_of_state (by rw [once]; exact nofun), once]
    · have same : checkDefrost (x.cabRead x.pins.sensors) = x.cabRead x.pins.sensors := by
        unfold checkDefrost
        rw [if_neg (fun h => wanted h.2.2)]
      rw [same, compareScreen_of_state (by show x.defrost.state ≠ .ramp; rw [off]; decide), once]

/-- The table in force is set up around a state that has begun to listen. -/
theorem tableInForce_eq (image : List Byte) (vt : VehicleTable) (s : State) :
    ∃ x : State, x.zone = s.zone ∧ x.doors = s.doors ∧ x.defrost = s.defrost ∧ x.pins = s.pins ∧
      tableInForce image vt s =
        recomputeSetpoint { x with
          zone := { x.zone with stages := stagesOf x.entry, period := some evaluationPeriod }
          doors := { x.doors with
            door0 := debouncing vt x.entry.doorCount 0 x.doors.door0
            door1 := debouncing vt x.entry.doorCount 1 x.doors.door1 }
          defrost := { x.defrost with
            fogDebounce := if x.isCab && x.pins.fog then some fogDebounceTime else none }
          stats := { x.stats with second := some statisticsPeriod } } := by
  refine ⟨setMember .listen { s with
    loader := { s.loader with phase := .loaded, image, vt }
    table := ShareTable.ofRoster vt.roster
    supply := { s.supply with settle := some settleTime }
    member := { s.member with census := some censusTime, leaseNews := false } }, ?_, ?_, ?_, ?_, rfl⟩
  · simp
  · simp
  · exact (setMember_listen_second _).2.2.2
  · simp

/-- The zone behind the load: new stages, the period begun, the setpoint computed, the sensors as they were. -/
theorem tableInForce_zone (image : List Byte) (vt : VehicleTable) (s : State) :
    (tableInForce image vt s).zone =
      { s.zone with
        stages := stagesOf (tableInForce image vt s).entry, period := some 1000
        setpoint := some (tableInForce image vt s).setpointNow
        pendingFlag := s.zone.pendingFlag || s.zone.setpoint != some (tableInForce image vt s).setpointNow } := by
  obtain ⟨x, zone, _, _, _, eq⟩ := tableInForce_eq image vt s
  rw [eq, ← zone]
  rfl

/-- The state the statements name to say what the evaluation behind the load started from. -/
def State.asLoaded (s t : State) : State :=
  { t with
    share := s.share, bus := s.bus
    zone := { t.zone with stages := t.entry.sizes.map (fun size => { size, on := false, timer := .clear }) } }

/-- What stands in the state behind the load, whatever the evaluation adds. -/
theorem loaded_frame
    (ended : finishRunning { periodic := true } (begin codes s) ((begin codes s).tableLoaded image vt) = t) :
    t.loader = { s.loader with phase := .loaded, image, vt } ∧ t.table = ShareTable.ofRoster vt.roster ∧
      t.member.state = .listen ∧ t.member.census = some 5000 ∧ t.member.leaseNews = false ∧
      t.supply = { s.supply with settle := some 3000 } ∧ t.zone.period = some 1000 ∧ t.stats.second = some 1000 ∧
      t.overrides = s.overrides := by
  obtain ⟨supply, _, _, _, census, news, second⟩ := tableLoaded_rest image vt (begin codes s)
  have zone := tableInForce_zone image vt (begin codes s)
  rw [← ended]
  refine ⟨?_, ?_, ?_, ?_, ?_, ?_, ?_, ?_, ?_⟩
  · simp only [finishRunning_frame, tableLoaded_frame]; rfl
  · simp only [finishRunning_frame, tableLoaded_frame]
  · simp only [finishRunning_member, tableLoaded_frame]
  · simp only [finishRunning_member, census]
  · simp only [finishRunning_member, news]
  · simp only [finishRunning_frame, supply]; rfl
  · simp only [finishRunning_setpoint, tableLoaded_frame]; rw [zone]
  · simp only [finishRunning_frame, second]
  · simp only [finishRunning_frame, tableLoaded_frame]; rfl

theorem loaded_entry
    (ended : finishRunning { periodic := true } (begin codes s) ((begin codes s).tableLoaded image vt) = t) :
    (tableInForce image vt (begin codes s)).entry = t.entry ∧
      (tableInForce image vt (begin codes s)).isCab = t.isCab := by
  have loader : t.loader = (tableInForce image vt (begin codes s)).loader := by rw [← ended]; simp
  simp only [State.isCab, State.entry, State.me, loader, and_self]

theorem loaded_zone
    (ended : finishRunning { periodic := true } (begin codes s) ((begin codes s).tableLoaded image vt) = t) :
    t.zone.setpoint = some (max 20 (min 56 (t.entry.baseSetpoint +
        (match s.overrides.setpointOffset with
        | some x => x.value
        | none => 0)))) ∧
      t.zone.stages.map (·.size) = t.entry.sizes ∧ SensorsRead true codes s t ∧ ZoneMeasured codes t ∧
      t.zone.pendingFlag = false := by
  have called := called_of_periodic (begin codes s) ((begin codes s).tableLoaded image vt)
  have read := evaluated_sensors called
  have flag := evaluated_pendingFlag called
  obtain ⟨_, pins, _⟩ := tableLoaded_rest image vt (begin codes s)
  have measured : ZoneMeasured codes _ := zoneMeasured_of_called (by rw [pins]; rfl) called
  obtain ⟨entry, _⟩ := loaded_entry ended
  have zone := tableInForce_zone image vt (begin codes s)
  have overrides : (tableInForce image vt (begin codes s)).overrides = s.overrides := by simp
  have sizes := (sameFigures_finishRunning { periodic := true } (begin codes s)
    ((begin codes s).tableLoaded image vt)).sizes
  have setpoint : t.zone.setpoint = some (tableInForce image vt (begin codes s)).setpointNow := by
    rw [← ended]; simp only [finishRunning_setpoint, tableLoaded_frame]; rw [zone]
  rw [ended] at read flag measured sizes
  simp only [tableLoaded_frame, served_frame, pins] at read sizes
  rw [zone] at read sizes
  refine ⟨?_, ?_, read, measured, flag.trans (Bool.and_false _)⟩
  · rw [setpoint, State.setpointNow, clampSetpoint, entry, overrides] <;> rfl
  · rw [sizes, entry, stagesOf, List.map_map]; exact List.map_id _

theorem loaded_stands
    (ended : finishRunning { periodic := true } (begin codes s) ((begin codes s).tableLoaded image vt) = t) :
    StandsFor (s.asLoaded t) (((begin codes s).tableLoaded image vt).served { periodic := true } (begin codes s)) := by
  obtain ⟨_, _, flight, _⟩ := tableLoaded_rest image vt (begin codes s)
  obtain ⟨entry, _⟩ := loaded_entry ended
  have same := sameFigures_finishRunning { periodic := true } (begin codes s) ((begin codes s).tableLoaded image vt)
  rw [ended] at same
  refine standsFor_served ?_ ?_ ?_ ?_ ?_ ?_ (by rw [ended]; rfl) ?_ ?_ ?_
  · exact same.loader.trans (by simp)
  · exact same.table.trans (by simp)
  · exact same.supply.trans (by simp)
  · exact same.doors.trans (by simp)
  · exact same.overrides.trans (by simp)
  · exact same.member.trans (by simp)
  · simp only [tableLoaded_frame]; rfl
  · simp only [tableLoaded_frame, tableInForce_zone]
    rw [entry]; rfl
  · exact (flight_of_bus rfl : (s.asLoaded t).flight = s.flight).trans flight.symm

/-- The load is an event with a table of its own: nothing is owed in it, and nobody waits. -/
theorem loaded_calm (image : List Byte) (vt : VehicleTable) (r : State) :
    (r.tableLoaded image vt).ownRow.owed = 0 ∧ (r.tableLoaded image vt).table.queue = [] := by
  simp only [State.ownRow, tableLoaded_frame]
  exact ⟨ofRoster_owed _ _, rfl⟩

theorem loaded_evaluated
    (ended : finishRunning { periodic := true } (begin codes s) ((begin codes s).tableLoaded image vt) = t) :
    ShareEvaluated (s.asLoaded t) t ∧ StagesRegulated (s.asLoaded t) t := by
  have called := called_of_periodic (begin codes s) ((begin codes s).tableLoaded image vt)
  have stands := loaded_stands ended
  have runs := running_tableLoaded image vt (begin codes s)
  obtain ⟨supply, _, _, queued, _⟩ := tableLoaded_rest image vt (begin codes s)
  obtain ⟨owed, empty⟩ := loaded_calm image vt (begin codes s)
  obtain ⟨_, _, _, _, _, supplyT, _⟩ := loaded_frame ended
  refine ⟨?_, stagesRegulated_of_ended ended runs stands called⟩
  have gap : gapBegins (begin codes s) ((begin codes s).tableLoaded image vt) =
      gapBegins (s.asLoaded t) ((begin codes s).tableLoaded image vt) := by
    have state : t.supply.state = s.supply.state := by rw [supplyT]
    show (s.supply.state == .live && _) = (t.supply.state == .live && _)
    rw [state]
  have base : (s.asLoaded t).zone.base = t.zone.base := rfl
  have aside : (begin codes s).share.aside = (s.asLoaded t).share.aside := rfl
  have asked : ((begin codes s).tableLoaded image vt).hasTx .ret = (s.asLoaded t).hasTx .ret := queued
  generalize s.asLoaded t = e at stands gap base aside asked ⊢
  subst ended
  exact shareEvaluated_of_calm runs stands (.inl called) base gap aside rfl rfl ⟨by omega, fun _ => empty⟩ asked

/-- With the supply not live every stage is off behind the load. -/
theorem loaded_stages_off
    (ended : finishRunning { periodic := true } (begin codes s) ((begin codes s).tableLoaded image vt) = t)
    (dead : s.supply.state ≠ .live) :
    t.zone.stages = t.entry.sizes.map (fun size => { size, on := false, timer := .clear }) := by
  obtain ⟨_, _, regulated⟩ := (loaded_evaluated ended).2
  obtain ⟨_, _, _, _, _, supply, _⟩ := loaded_frame ended
  have live : (s.asLoaded t).live = false := by
    show (t.supply.state == .live) = false
    rw [supply]
    simpa using dead
  rw [regulated (.inl live), State.stagesCut, if_neg (by simp [live])]
  show (t.entry.sizes.map _).map _ = _
  rw [List.map_map]
  rfl

/-! ## The doors and the cab behind the load -/

theorem tableInForce_doors (image : List Byte) (vt : VehicleTable) (s : State) :
    (tableInForce image vt s).doors =
      { s.doors with
        door0 := { s.doors.door0 with
          debounce := if 0 < (tableInForce image vt s).entry.doorCount then some vt.debounce else s.doors.door0.debounce }
        door1 := { s.doors.door1 with
          debounce := if 1 < (tableInForce image vt s).entry.doorCount then some vt.debounce
            else s.doors.door1.debounce } } := by
  have debounce : ∀ (count door : Nat) (d : Door),
      debouncing vt count door d = { d with debounce := if door < count then some vt.debounce else d.debounce } := by
    intro count door d
    unfold debouncing
    split <;> rfl
  obtain ⟨x, _, doors, _, _, eq⟩ := tableInForce_eq image vt s
  rw [eq, ← doors]
  show ({ x.doors with
    door0 := debouncing vt x.entry.doorCount 0 x.doors.door0
    door1 := debouncing vt x.entry.doorCount 1 x.doors.door1 } : DoorUnit) = _
  rw [debounce, debounce]
  rfl

theorem tableInForce_defrost (image : List Byte) (vt : VehicleTable) (s : State) :
    (tableInForce image vt s).defrost =
      { s.defrost with
        fogDebounce := if (tableInForce image vt s).isCab = true ∧ s.pins.fog = true then some 1000 else none } := by
  obtain ⟨x, _, _, defrost, pins, eq⟩ := tableInForce_eq image vt s
  rw [eq, ← defrost, ← pins]
  show ({ x.defrost with
    fogDebounce := if (x.isCab && x.pins.fog) = true then some fogDebounceTime else none } : Defrost) = _
  simp only [Bool.and_eq_true]
  rfl

theorem loaded_doors
    (ended : finishRunning { periodic := true } (begin codes s) ((begin codes s).tableLoaded image vt) = t) :
    t.doors =
      { s.doors with
        door0 := { s.doors.door0 with
          debounce := if 0 < t.entry.doorCount then some vt.debounce else s.doors.door0.debounce }
        door1 := { s.doors.door1 with
          debounce := if 1 < t.entry.doorCount then some vt.debounce else s.doors.door1.debounce }
        outdoor := if t.isCab = true then readingOf codes.outdoor else s.doors.outdoor } := by
  obtain ⟨entry, isCab⟩ := loaded_entry ended
  have doors : t.doors = ((begin codes s).tableLoaded image vt).doors := by rw [← ended]; simp
  rw [doors, tableLoaded_doors, tableInForce_doors, entry, isCab]
  split <;> rfl

theorem readCabSensors_fog (x : State) : (readCabSensors x).defrost.fog = x.defrost.fog := by
  have screened : ∀ y : State, (compareScreen y).defrost.fog = y.defrost.fog := by
    intro y
    rw [compareScreen_eq]
    split <;> rfl
  cases cab : x.isCab with
  | false => rw [readCabSensors_of_saloon cab]
  | true =>
    rw [readCabSensors_of_cab cab, screened]
    split
    · rfl
    · rw [checkDefrost_fog]; rfl

theorem loaded_defrost_eq
    (ended : finishRunning { periodic := true } (begin codes s) ((begin codes s).tableLoaded image vt) = t) :
    t.defrost.fog = s.defrost.fog ∧
      (((begin codes s).tableLoaded image vt).defrost.state ≠ .waiting →
        t.defrost = ((begin codes s).tableLoaded image vt).defrost) := by
  have raised : (owedRaised { periodic := true } (begin codes s) ((begin codes s).tableLoaded image vt) || false) = false := by
    obtain ⟨owed, _⟩ := loaded_calm image vt (begin codes s)
    simp [owedRaised, owed]
  have defrost := served_of_unraised (ev := { periodic := true }) raised
  rw [← finishRunning_defrost_eq, ended] at defrost
  have fog : ((begin codes s).tableLoaded image vt).defrost.fog = s.defrost.fog := by
    unfold State.tableLoaded
    rw [checkDefrost_fog, readCabSensors_fog, tableInForce_defrost]
    rfl
  refine ⟨?_, fun settled => ?_⟩
  · rw [defrost]
    split <;> exact fog
  · rw [defrost, if_neg (fun h => settled h.2.1)]

theorem loaded_wanted
    (ended : finishRunning { periodic := true } (begin codes s) ((begin codes s).tableLoaded image vt) = t)
    (cab : t.isCab = true) :
    DefrostWanted t ↔ ((tableInForce image vt (begin codes s)).cabRead codes).defrostWanted = true := by
  obtain ⟨fog, _⟩ := loaded_defrost_eq ended
  obtain ⟨entry, isCab⟩ := loaded_entry ended
  have doors : t.doors = ((begin codes s).tableLoaded image vt).doors := by rw [← ended]; simp
  rw [tableLoaded_doors, if_pos (isCab.trans cab)] at doors
  have loader : t.loader = (tableInForce image vt (begin codes s)).loader := by rw [← ended]; simp
  have overrides : t.overrides = (tableInForce image vt (begin codes s)).overrides := by rw [← ended]; simp
  have fogX : (tableInForce image vt (begin codes s)).defrost.fog = s.defrost.fog := by rw [tableInForce_defrost]; rfl
  rw [← defrostWanted_iff]
  simp only [State.defrostWanted, State.defrostMode, State.coldOutside, fog, doors, loader, overrides]
  simp only [State.cabRead, fogX]
  rfl

/-- The cab's block behind the load, when nothing was defrosting. -/
theorem loaded_defrost
    (ended : finishRunning { periodic := true } (begin codes s) ((begin codes s).tableLoaded image vt) = t)
    (off : s.defrost.state = .off) :
    (t.isCab = false → t.defrost = { s.defrost with fogDebounce := none }) ∧
      (t.isCab = true →
        (¬DefrostWanted t →
          t.defrost =
            { s.defrost with
              screen := readingOf codes.screen
              fogDebounce := if s.pins.fog = true then some 1000 else none }) ∧
          (DefrostWanted t → s.supply.state ≠ .live →
            t.defrost =
              { s.defrost with
                state := .paused, phase := none, pausedKept := 0, screen := readingOf codes.screen
                fogDebounce := if s.pins.fog = true then some 1000 else none })) := by
  obtain ⟨_, settled⟩ := loaded_defrost_eq ended
  obtain ⟨_, isCab⟩ := loaded_entry ended
  have block := tableInForce_defrost image vt (begin codes s)
  rw [isCab] at block
  refine ⟨fun saloon => ?_, fun cab => ?_⟩
  · have same := tableLoaded_saloon (isCab.trans saloon)
    rw [block] at same
    rw [settled (by rw [same]; show s.defrost.state ≠ _; rw [off]; decide), same]
    simp only [saloon, Bool.false_eq_true, false_and, if_false]
    rfl
  · have pins : (tableInForce image vt (begin codes s)).pins.sensors = codes := by
      obtain ⟨x, _, _, _, pins, eq⟩ := tableInForce_eq image vt (begin codes s)
      rw [eq]; show x.pins.sensors = codes; rw [pins]; rfl
    have offX : (tableInForce image vt (begin codes s)).defrost.state = .off := by rw [block]; exact off
    have checked := checkDefrost_readCabSensors (x := tableInForce image vt (begin codes s)) (isCab.trans cab) offX
    rw [pins] at checked
    have wantedX := loaded_wanted ended cab
    have read : ((tableInForce image vt (begin codes s)).cabRead codes).defrost =
        { s.defrost with
          screen := readingOf codes.screen
          fogDebounce := if s.pins.fog = true then some 1000 else none } := by
      simp only [State.cabRead, block, cab, true_and]; rfl
    refine ⟨fun unwanted => ?_, fun wanted dead => ?_⟩
    · have same := checked (fun h => absurd (wantedX.mpr h) unwanted)
      rw [if_neg (mt wantedX.mpr unwanted), read] at same
      exact (settled (by show (checkDefrost _).defrost.state ≠ _; rw [same, off]; decide)).trans same
    · have live : (tableInForce image vt (begin codes s)).live = false := by
        simpa [State.live, tableInForce] using dead
      have same := checked (fun _ => live)
      rw [if_pos (wantedX.mp wanted), read] at same
      exact (settled (by show (checkDefrost _).defrost.state ≠ _; rw [same]; exact nofun)).trans same

end

/-! ## The option load -/

theorem exec_optionReadDone_found {codes : Sensors} {bytes image : List Byte} {vt : VehicleTable} {s : State}
    (reading : s.loader.phase = .reading) (found : tableFrom s.me bytes = some (image, vt)) :
    exec (.optionReadDone codes bytes) s =
      .next (finishRunning { periodic := true } (begin codes s) ((begin codes s).tableLoaded image vt)) := by
  have read : tableFrom (begin codes s).me bytes = some (image, vt) := found
  refine congrArg Host.Outcome.next ((?_ : readDone bytes (begin codes s) = _).trans
    (finish_of_running (running_tableLoaded image vt (begin codes s)) _ _))
  unfold readDone
  rw [if_pos (by exact reading), read]
  rfl

theorem exec_optionReadDone_missing {codes : Sensors} {bytes : List Byte} {s : State}
    (reading : s.loader.phase = .reading) (missing : tableFrom s.me bytes = none) :
    exec (.optionReadDone codes bytes) s = .next (loadFails (begin codes s)) := by
  have read : tableFrom (begin codes s).me bytes = none := missing
  refine congrArg Host.Outcome.next (?_ : readDone bytes (begin codes s) = _)
  unfold readDone
  rw [if_pos (by exact reading), read]

/-- Settles O49: what the load of the option table leaves, and its failure. -/
theorem optionLoadResult : Obligations.OptionLoadResult := by
  intro s reading
  refine ⟨fun codes bytes => ⟨fun missing => ?_, fun image vt found => ?_⟩, fun cause => ?_⟩
  · exact ⟨_, exec_optionReadDone_missing reading missing, rfl, rfl, rfl, rfl⟩
  · have next := exec_optionReadDone_found (codes := codes) reading found
    generalize ended : finishRunning { periodic := true } (begin codes s) _ = t at next
    obtain ⟨loader, table, member, census, news, supply, period, second, overrides⟩ := loaded_frame ended
    obtain ⟨setpoint, sizes, sensors, measured, flag⟩ := loaded_zone ended
    exact ⟨t, next, loader, table, member, census, news, supply, period, setpoint, sizes, second, sensors, measured, flag,
      loaded_stages_off ended, fun e eq => eq ▸ loaded_evaluated ended, overrides, loaded_doors ended,
      loaded_defrost ended⟩
  · exact ⟨_, congrArg Host.Outcome.next (if_pos (by exact reading) : readFails (nextMoment s) = _), rfl, rfl, rfl, rfl⟩

end Sys2Proof.Machine
end

section
/-! Settles O23: what a frame on the bus leaves alone. -/

namespace Sys2Proof.Machine

/-! ## The idle line -/

@[simp] theorem setMember_idle (m : MemberState) (s : State) : (setMember m s).bus.idle = s.bus.idle := by
  have left : (if s.member.state = .inStep then leaveInStep s else s).bus.idle = s.bus.idle := by split <;> simp
  unfold setMember
  dsimp only
  cases m <;> simp [entered, left, enterClash]

@[simp] theorem addressed_idle (own : Option OwnFrame) (address : Nat) (s : State) :
    (addressed own address s).bus.idle = s.bus.idle := by
  cases own <;> rfl

@[simp] theorem hearPanel_idle (address : Nat) (s : State) : (hearPanel address s).bus.idle = s.bus.idle := by
  unfold hearPanel
  split <;> rfl

theorem takeBulletin_idle (own : Bool) (sender : Nat) (b : Bulletin) (s : State) :
    (takeBulletin own sender b s).state.bus.idle = s.bus.idle := by
  cases b with
  | allowance => simp only [takeBulletin, takesAllowance]; split <;> simp
  | lapse => simp only [takeBulletin, takesLapse]; split <;> simp
  | expel => simp only [takeBulletin, takesExpel]; split <;> simp
  | join => simp only [takeBulletin, takesJoin]; (repeat' split) <;> simp
  | status => simp only [takeBulletin, takesStatus]; split <;> simp
  | claim => simp only [takeBulletin, takesClaim]; split <;> simp
  | ret => simp only [takeBulletin, takesReturn]; split <;> simp
  | draft => simp only [takeBulletin, takesDraft, takeDraft]; (repeat' split) <;> simp
  | override => simp only [takeBulletin, slotCourse, takeOverride]; (repeat' split) <;> simp
  | cancel => simp only [takeBulletin, slotCourse, takeCancel]; (repeat' split) <;> simp
  | report => simp only [takeBulletin]; split <;> simp
  | snapshot | query | unknown => simp [takeBulletin]

@[simp] theorem mismatchResponse_idle (c : Course) : (mismatchResponse c).state.bus.idle = c.state.bus.idle := by
  have dropped : (dropOwnClaim c).state.bus = c.state.bus := by simp [dropOwnClaim]
  unfold mismatchResponse
  split
  · rw [mapState_state]
    split
    · simp [enterMismatch, dropped]
    · rw [dropped]
  · rfl

@[simp] theorem joinResponse_idle (own : Bool) (b : Bulletin) (s : State) :
    (joinResponse own b s).bus.idle = s.bus.idle := by
  unfold joinResponse
  (repeat' split)
  · simp [ownJoinTaken]
  · rfl
  · simp [selfExpelled]
  · rfl
  · rfl

@[simp] theorem catchUpResponse_idle (m : MemberState) (s : State) : (catchUpResponse m s).bus.idle = s.bus.idle := by
  unfold catchUpResponse checkCatchUp
  (repeat' split) <;> simp

@[simp] theorem expelSettled_idle (own : Option OwnFrame) (s : State) :
    (expelSettled own s).bus.idle = s.bus.idle := by
  unfold expelSettled
  (repeat' split) <;> rfl

@[simp] theorem clashResponse_idle (own : Bool) (address : Nat) (s : State) :
    (clashResponse own address s).bus.idle = s.bus.idle := by
  unfold clashResponse
  split <;> simp

theorem course_idle (address : Nat) (b : Bulletin) (s : State) : (course address b s).state.bus.idle = s.bus.idle := by
  simp only [course, mapState_state, clashResponse_idle, memberResponse, catchUpResponse_idle]
  show (joinResponse _ _ _).bus.idle = _
  rw [joinResponse_idle]
  show (mismatchResponse _).state.bus.idle = _
  rw [mismatchResponse_idle, mapState_state, expelSettled_idle, takeBulletin_idle, hearPanel_idle, addressed_idle]

/-! ## What is taken over from an own frame -/

theorem forTable_of_txKind {b : Bulletin} {k : TxKind} (kind : b.txKind = some k) :
    b.forTable = (k != .draft && k != .report) := by
  cases b <;> cases kind <;> rfl

theorem slots_of_txKind {b : Bulletin} {k : TxKind} (kind : b.txKind = some k) :
    (∀ kind mask value duration, b ≠ .override kind mask value duration) ∧ (∀ kind mask, b ≠ .cancel kind mask) ∧
      b ≠ .snapshot := by
  cases b <;> cases kind <;> exact ⟨nofun, nofun, nofun⟩

/-- An own frame that completes is of the kind heard; what is no own frame is taken as it was heard. -/
theorem takenBulletin_heard (address : Nat) (b : Bulletin) (s : State) :
    takenBulletin (s.ownFrame address b) b = b ∨
      ∃ k, b.txKind = some k ∧ (takenBulletin (s.ownFrame address b) b).txKind = some k := by
  cases kind : b.txKind with
  | some k => exact .inr ⟨k, rfl, (takenBulletin_txKind address b s).trans kind⟩
  | none =>
    refine .inl ?_
    have foreign : s.ownFrame address b = none := by
      unfold State.ownFrame
      split
      · rw [if_neg]
        simp only [Bulletin.sameKind, kind]
        rintro ⟨_, same⟩
        simp at same
        simp [same.2] at same
      · rfl
    rw [foreign]; rfl

theorem takenBulletin_forTable (address : Nat) (b : Bulletin) (s : State) :
    (takenBulletin (s.ownFrame address b) b).forTable = b.forTable := by
  obtain same | ⟨k, heard, taken⟩ := takenBulletin_heard address b s
  · rw [same]
  · rw [forTable_of_txKind heard, forTable_of_txKind taken]

theorem takenBulletin_slots {address : Nat} {b : Bulletin} {s : State}
    (notOverride : ∀ kind mask value duration, b ≠ .override kind mask value duration)
    (notCancel : ∀ kind mask, b ≠ .cancel kind mask) :
    (∀ kind mask value duration, takenBulletin (s.ownFrame address b) b ≠ .override kind mask value duration) ∧
      ∀ kind mask, takenBulletin (s.ownFrame address b) b ≠ .cancel kind mask := by
  obtain same | ⟨k, _, taken⟩ := takenBulletin_heard address b s
  · rw [same]; exact ⟨notOverride, notCancel⟩
  · obtain ⟨override, cancel, _⟩ := slots_of_txKind taken
    exact ⟨override, cancel⟩

theorem takenBulletin_report {address : Nat} {b : Bulletin} {s : State} (notReport : ∀ data, b ≠ .report data)
    (notSnapshot : b ≠ .snapshot) :
    (∀ data, takenBulletin (s.ownFrame address b) b ≠ .report data) ∧ takenBulletin (s.ownFrame address b) b ≠ .snapshot := by
  obtain same | ⟨k, heard, taken⟩ := takenBulletin_heard address b s
  · rw [same]; exact ⟨notReport, notSnapshot⟩
  · refine ⟨fun data report => ?_, (slots_of_txKind taken).2.2⟩
    rw [report] at taken
    obtain ⟨data', eq⟩ := report_of_txKind (heard.trans taken.symm)
    exact notReport data' eq

/-! ## Blocks a frame does not touch -/

theorem takeBulletin_snapshot (own : Bool) (sender : Nat) {b : Bulletin} (s : State) (notReport : ∀ data, b ≠ .report data)
    (notSnapshot : b ≠ .snapshot) : (takeBulletin own sender b s).state.stats.snapshot = s.stats.snapshot := by
  have taken : ∀ (t : Taken) (s : State), (tableTaken t s).state.stats.snapshot = s.stats.snapshot := fun t s => by
    simp [tableTaken]
  cases b with
  | allowance => simp only [takeBulletin, takesAllowance]; split <;> simp [taken]
  | lapse => simp only [takeBulletin, takesLapse]; split <;> simp [taken]
  | expel => simp only [takeBulletin, takesExpel]; split <;> simp [taken]
  | join => simp only [takeBulletin, takesJoin]; (repeat' split) <;> simp [taken]
  | status => simp only [takeBulletin, takesStatus]; split <;> simp [taken]
  | claim => simp only [takeBulletin, takesClaim]; split <;> simp [taken]
  | ret => simp only [takeBulletin, takesReturn]; split <;> simp [taken]
  | draft => simp only [takeBulletin, takesDraft, takeDraft]; (repeat' split) <;> simp
  | override => simp [takeBulletin, slotCourse]
  | cancel => simp [takeBulletin, slotCourse]
  | report data => exact absurd rfl (notReport data)
  | snapshot => exact absurd rfl notSnapshot
  | query => simp only [takeBulletin, plain_state, takeQuery]; (repeat' split) <;> simp [replaceRequest]
  | unknown => rfl

theorem tableAfter_of_other {b : Bulletin} (other : b.forTable = false) (me sender : Nat) (own : Byte) (learning : Bool)
    (t : ShareTable) : tableAfter me sender own learning t b = t := by
  cases b with
  | allowance | lapse | expel | join | status | claim | ret => cases other
  | draft | override | cancel | snapshot | query | report | unknown => rfl

theorem filteredFrame_idle (own : Option OwnFrame) (address : Nat) (s : State) :
    (filteredFrame own address s).bus.idle = s.bus.idle := by
  unfold filteredFrame
  dsimp only
  split <;> simp

theorem filteredFrame_blocks (own : Option OwnFrame) (address : Nat) (s : State) :
    (filteredFrame own address s).supply = s.supply ∧ (filteredFrame own address s).pins = s.pins ∧
      (filteredFrame own address s).overrides = s.overrides := by
  unfold filteredFrame
  dsimp only
  split <;> simp

section
variable {codes : Sensors} {address : BitVec 4} {b : Bulletin} {s : State}

theorem completeFrame_blocks (codes : Sensors) (address : BitVec 4) (b : Bulletin) (s : State) :
    (completeFrame codes address b s).supply = s.supply ∧
      (completeFrame codes address b s).pins = { s.pins with sensors := codes } ∧
      (completeFrame codes address b s).bus.idle = false := by
  by_cases running : s.running = true
  · by_cases passes : s.passes address.toNat b = true
    · rw [completeFrame_of_passes codes address b s running passes]
      simp only [finish_frame, finish_bus, course_frame, course_idle]
      exact ⟨rfl, rfl, rfl⟩
    · obtain ⟨supply, pins, _⟩ := filteredFrame_blocks ((s.heardFrame codes).ownFrame address.toNat b) address.toNat
        (s.heardFrame codes)
      rw [completeFrame_of_filtered codes address b s running (by simpa using passes), supply, pins, filteredFrame_idle]
      exact ⟨rfl, rfl, rfl⟩
  · rw [completeFrame_of_not_running (by simpa using running)]
    exact ⟨rfl, rfl, rfl⟩

theorem completeFrame_table (other : b.forTable = false) : (completeFrame codes address b s).table = s.table := by
  by_cases running : s.running = true
  · by_cases passes : s.passes address.toNat b = true
    · rw [completeFrame_of_passes codes address b s running passes]
      simp only [finish_frame, course_table]
      exact tableAfter_of_other ((takenBulletin_forTable _ _ _).trans other) _ _ _ _ _
    · rw [completeFrame_of_filtered codes address b s running (by simpa using passes), filteredFrame_table]
      rfl
  · rw [completeFrame_of_not_running (by simpa using running)]
    rfl

theorem course_overrides (notOverride : ∀ kind mask value duration, b ≠ .override kind mask value duration)
    (notCancel : ∀ kind mask, b ≠ .cancel kind mask) (address : Nat) (s : State) :
    { (course address b s).state.overrides with panelSilence := s.overrides.panelSilence } = s.overrides := by
  obtain ⟨override, cancel⟩ := takenBulletin_slots (address := address) (s := s) notOverride notCancel
  have kept : (course address b s).state.overrides = (hearPanel address (addressed (s.ownFrame address b) address s)).overrides := by
    have settled : ∀ (own : Option OwnFrame) (x : State), (expelSettled own x).overrides = x.overrides := by
      intro own x
      unfold expelSettled
      (repeat' split) <;> rfl
    have clash : ∀ (own : Bool) (x : State), (clashResponse own address x).overrides = x.overrides := by
      intro own x
      unfold clashResponse
      split <;> simp
    rw [course, mapState_state, clash, (memberResponse_frame _ _ _).2, mapState_state, settled, takeBulletin_overrides _ _ _ _ override cancel]
  have heard : (addressed (s.ownFrame address b) address s).overrides = s.overrides := by simp
  rw [kept, hearPanel]
  split
  · rw [restartPanelSilence, heard]
  · rw [heard]

theorem completeFrame_overrides (notOverride : ∀ kind mask value duration, b ≠ .override kind mask value duration)
    (notCancel : ∀ kind mask, b ≠ .cancel kind mask) :
    { (completeFrame codes address b s).overrides with panelSilence := s.overrides.panelSilence } = s.overrides := by
  by_cases running : s.running = true
  · by_cases passes : s.passes address.toNat b = true
    · rw [completeFrame_of_passes codes address b s running passes]
      simp only [finish_frame]
      exact course_overrides notOverride notCancel address.toNat (s.heardFrame codes)
    · rw [completeFrame_of_filtered codes address b s running (by simpa using passes), (filteredFrame_blocks _ _ _).2.2]
      rfl
  · rw [completeFrame_of_not_running (by simpa using running)]
    rfl

theorem completeFrame_snapshot (notReport : ∀ data, b ≠ .report data) (notSnapshot : b ≠ .snapshot) :
    (completeFrame codes address b s).stats.snapshot = s.stats.snapshot := by
  by_cases running : s.running = true
  · by_cases passes : s.passes address.toNat b = true
    · obtain ⟨report, snapshot⟩ := takenBulletin_report (address := address.toNat) (s := s.heardFrame codes) notReport
        notSnapshot
      rw [completeFrame_of_passes codes address b s running passes]
      simp only [finish_frame, course_snapshot]
      rw [takeBulletin_snapshot _ _ _ report snapshot]
      simp
    · rw [completeFrame_of_filtered codes address b s running (by simpa using passes), (filteredFrame_stats _ _ _).2]
      rfl
  · rw [completeFrame_of_not_running (by simpa using running)]
    rfl

end

/-- Settles O23: a frame leaves the supply alone, and each block that its kind is not for. -/
theorem frameLeavesOtherBlocksAlone : Obligations.FrameLeavesOtherBlocksAlone := by
  intro c codes address b s t frame stepped
  obtain rfl : t = completeFrame codes address b s :=
    Host.Outcome.next.inj (stepped.symm.trans (exec_of_frameOf frame s))
  obtain ⟨supply, pins, idle⟩ := completeFrame_blocks codes address b s
  exact ⟨supply, pins, idle, completeFrame_table, completeFrame_overrides, completeFrame_snapshot, fun idle =>
    completeFrame_of_not_running idle codes address b⟩

end Sys2Proof.Machine
end

section
/-! Settles O24: a frame of the own address that is not the own one brings clash. -/

namespace Sys2Proof.Machine

/-- The frame in flight without the request to ask again. -/
def OwnFrame.grounded (f : OwnFrame) : OwnFrame := { f with renewal := none }

theorem grounded_asked (moment : Nat) (f : OwnFrame) : (OwnFrame.asked moment f).grounded = f.grounded := by
  unfold OwnFrame.asked
  rfl

theorem grounded_again (o : Option OwnFrame) :
    (o.map OwnFrame.grounded).map OwnFrame.grounded = o.map OwnFrame.grounded := by
  cases o <;> rfl

/-- No request and no change of member state exchanges the frame in flight. -/
theorem aloftInvariant (aloft : Option OwnFrame) :
    MemberInvariant (fun s => s.bus.inFlight.map OwnFrame.grounded = aloft) := by
  have asked : ∀ (moment : Nat) (o : Option OwnFrame),
      (o.map (OwnFrame.asked moment)).map OwnFrame.grounded = o.map OwnFrame.grounded := by
    intro moment o
    cases o with
    | none => rfl
    | some f => exact congrArg some (grounded_asked moment f)
  have withdraw : ∀ (kind : TxKind) {s : State}, s.bus.inFlight.map OwnFrame.grounded = aloft →
      (withdrawKind kind s).bus.inFlight.map OwnFrame.grounded = aloft := by
    intro kind s held
    unfold withdrawKind
    split
    · exact (grounded_again s.bus.inFlight).trans held
    · exact held
  refine { same := ?_, queue := ?_, drop := fun kind _ _ => withdraw kind, withdraw := fun kind _ _ => withdraw kind, stop := withdraw .status, leave := ?_, move := fun _ _ _ held => held, clash := ?_ }
  · rintro s t ⟨_, inFlight, _⟩ held
    simpa only [inFlight] using held
  · intro kind s _ held
    unfold queueKind
    (repeat' split)
    · exact (asked _ _).trans held
    · exact held
    · exact held
    · exact held
  · intro _ s held
    exact withdraw .expel (withdraw .lapse (withdraw .claim held))
  · intro s _ held
    exact (grounded_again s.bus.inFlight).trans held

/-- Nothing waits, and the frame in flight is asked for no more: what a station in clash keeps. -/
def State.silenced (aloft : Option OwnFrame) (s : State) : Prop :=
  s.member.state = .clash ∧ s.bus.queue = [] ∧ s.bus.inFlight = aloft.map OwnFrame.grounded

theorem withdrawKind_silenced {aloft : Option OwnFrame} {s : State} (kind : TxKind) (silenced : s.silenced aloft) :
    (withdrawKind kind s).silenced aloft := by
  obtain ⟨clash, empty, held⟩ := silenced
  unfold withdrawKind
  split
  · refine ⟨clash, empty, ?_⟩
    show s.bus.inFlight.map OwnFrame.grounded = _
    rw [held, grounded_again]
  · refine ⟨clash, ?_, held⟩
    show s.bus.queue.filter _ = []
    rw [empty]; rfl

theorem silencedInvariant (aloft : Option OwnFrame) : RequestInvariant (State.silenced aloft) := by
  have withdraw := fun (kind : TxKind) {s : State} => withdrawKind_silenced (aloft := aloft) (s := s) kind
  refine { same := ?_, queue := ?_, drop := fun kind _ _ => withdraw kind, withdraw := fun kind _ _ => withdraw kind }
  · rintro s t ⟨queue, inFlight, _, member, _⟩ ⟨clash, empty, held⟩
    exact ⟨member.trans clash, queue.trans empty, inFlight.trans held⟩
  · intro kind s _ silenced
    have deaf : s.acceptsRequests = false := by simp [State.acceptsRequests, silenced.1]
    unfold queueKind
    rw [if_neg (by simp [deaf])]
    exact silenced

theorem setMember_clash (s : State) :
    (setMember .clash s).silenced s.bus.inFlight ∧ (setMember .clash s).bus.mute = none ∧
      (s.bus.inFlight = none → (setMember .clash s).bus.drive = .released) ∧ (setMember .clash s).stats.request = none ∧
      (setMember .clash s).member.census = none ∧ (setMember .clash s).member.catchUp = none ∧
      (setMember .clash s).member.statusPeriod = none ∧ (setMember .clash s).member.expulsion = none := by
  have left : (if s.member.state = .inStep then leaveInStep s else s).bus.inFlight.map OwnFrame.grounded =
      s.bus.inFlight.map OwnFrame.grounded := by
    split
    · exact (aloftInvariant (s.bus.inFlight.map OwnFrame.grounded)).leave s.member.state rfl
    · rfl
  unfold setMember entered
  dsimp only
  generalize (if s.member.state = .inStep then leaveInStep s else s) = w at left
  have dropped : (dropReport { w with member := { w.member with state := .clash } }).bus.inFlight.map OwnFrame.grounded =
      s.bus.inFlight.map OwnFrame.grounded :=
    (aloftInvariant (s.bus.inFlight.map OwnFrame.grounded)).withdraw .report (by decide) left
  have request : (dropReport { w with member := { w.member with state := .clash } }).stats.request = none := by
    simp [dropReport]
  have state : (dropReport { w with member := { w.member with state := .clash } }).member.state = .clash := by
    simp [dropReport]
  unfold enterClash
  dsimp only
  generalize dropReport { w with member := { w.member with state := .clash } } = x at dropped request state
  refine ⟨⟨?_, ?_, ?_⟩, ?_, fun none => ?_, ?_, ?_, ?_, ?_, ?_⟩
  · simpa using state
  · simp
  · simp only [pauseDefrost_frame]
    exact dropped
  · simp
  · rw [none, Option.map_none, Option.map_eq_none_iff] at dropped
    simp [Bus.driveInClash, dropped]
  · simpa using request
  · simp
  · simp
  · simp
  · simp

theorem checkExpulsion_of_clash {s : State} (clash : s.member.state = .clash) (quiet : s.member.expulsion = none) :
    checkExpulsion s = s := by
  have kept : dropSettledExpulsion s = s := by
    unfold dropSettledExpulsion
    rw [quiet]
  unfold checkExpulsion proposeExpulsion
  rw [kept, if_neg (by simp [State.inStep, clash])]

theorem expulsion_finish_clash {ev : Ev} {r u : State} (clash : u.member.state = .clash)
    (quiet : u.member.expulsion = none) : (finish ev r u).member.expulsion = none := by
  have running : u.running = true := by simp [State.running, clash]
  rw [finish_of_running running, finishRunning_eq]
  have member : (noteStatus r (refreshFan r (evaluate ev r (settle (u.served ev r))))).member = u.member := by simp
  rw [checkExpulsion_of_clash (by rw [member]; exact clash) (by rw [member]; exact quiet), member]
  exact quiet

/-- A clash, at the end of the event that brought it. -/
theorem clash_ends {ev : Ev} {r x t : State} (ended : finish ev r (setMember .clash x) = t) :
    t.member.state = .clash ∧ t.fault = true ∧ t.bus.queue = [] ∧
      t.bus.inFlight = x.bus.inFlight.map OwnFrame.grounded ∧ (x.bus.inFlight = none → t.bus.drive = .released) ∧
      t.stats.request = none ∧ t.bus.mute = none ∧ t.member.census = none ∧ t.member.catchUp = none ∧
      t.member.statusPeriod = none ∧ t.member.expulsion = none ∧ t.airLoad = 0 ∧ t.defrostLoad = 0 := by
  obtain ⟨silenced, mute, drive, request, census, catchUp, status, expulsion⟩ := setMember_clash x
  have still := (silencedInvariant x.bus.inFlight).finish ev r silenced
  obtain ⟨clash, queue, inFlight⟩ := still
  have barred : (finish ev r (setMember .clash x)).loadsAllowed = false := by
    simp [State.loadsAllowed]
  have law : LoadLaw (finish ev r (setMember .clash x)) := by
    rw [finish_of_running (running_setMember .clash x (by decide))]
    exact loadLaw_finishRunning _ _ _
  rw [ended] at clash queue inFlight barred law
  have load : t.airLoad + t.defrostLoad = 0 := by
    rw [LoadLaw, if_neg (by simp [barred])] at law
    exact law
  refine ⟨clash, by simp [State.fault, clash], queue, inFlight, fun none => ?_, ?_, ?_, ?_, ?_, ?_, ?_, by omega, by omega⟩
  · rw [← ended, (finish_bus _ _ _).2.2.2.2.2]; exact drive none
  · rw [← ended]; simpa using request
  · rw [← ended]; simpa using mute
  · rw [← ended]; simpa using census
  · rw [← ended]; simpa using catchUp
  · rw [← ended]; simpa using status
  · rw [← ended]; exact expulsion_finish_clash silenced.1 expulsion

/-! ## The frame heard -/

theorem mismatchResponse_noClash {c : Course} (noClash : c.state.member.state ≠ .clash) :
    (mismatchResponse c).state.member.state ≠ .clash := by
  have dropped : (dropOwnClaim c).state.member = c.state.member := by simp [dropOwnClaim]
  unfold mismatchResponse
  split
  · rw [mapState_state]
    split
    · simp [enterMismatch]
    · rw [dropped]; exact noClash
  · exact noClash

theorem joinResponse_noClash {own : Bool} {b : Bulletin} {s : State} (noClash : s.member.state ≠ .clash) :
    (joinResponse own b s).member.state ≠ .clash := by
  unfold joinResponse
  (repeat' split)
  · simp [ownJoinTaken]
  · exact noClash
  · simp [selfExpelled]
  · exact noClash
  · exact noClash

theorem catchUpResponse_noClash {m : MemberState} {s : State} (noClash : s.member.state ≠ .clash) :
    (catchUpResponse m s).member.state ≠ .clash := by
  unfold catchUpResponse checkCatchUp
  (repeat' split)
  · simp
  · exact noClash
  · exact noClash

theorem memberResponse_noClash {own : Bool} {b : Bulletin} {c : Course} (noClash : c.state.member.state ≠ .clash) :
    (memberResponse own b c).state.member.state ≠ .clash :=
  catchUpResponse_noClash (joinResponse_noClash (mismatchResponse_noClash noClash))

theorem clashResponse_of_foreign {s x : State} {address : Nat} (own : address = s.me) (me : x.me = s.me)
    (noClash : x.member.state ≠ .clash) : clashResponse false address x = setMember .clash x := by
  unfold clashResponse
  rw [if_pos]
  simp [own, me, noClash]

theorem clash_of_passes {address : Nat} {b : Bulletin} {s : State} (own : address = s.me)
    (foreign : s.ownFrame address b = none) (noClash : s.member.state ≠ .clash) :
    ∃ x, (course address b s).state = setMember .clash x ∧
      x.bus.inFlight.map OwnFrame.grounded = s.bus.inFlight.map OwnFrame.grounded := by
  have law := aloftInvariant (s.bus.inFlight.map OwnFrame.grounded)
  have heard : (hearPanel address (addressed none address s)).bus.inFlight.map OwnFrame.grounded =
      s.bus.inFlight.map OwnFrame.grounded := law.same (s := s) (by simp [addressed, closeOwnFrame, resetAge]) rfl
  have taken := law.takeBulletin false address b heard
  refine ⟨_, ?_, law.memberResponse false b (c := (takeBulletin false address b
    (hearPanel address (addressed none address s))).mapState (expelSettled none)) taken⟩
  have shape : (course address b s).state = clashResponse false address (memberResponse false b
      ((takeBulletin false address b (hearPanel address (addressed none address s))).mapState
        (expelSettled none))).state := by
    simp only [course, foreign]
    rfl
  rw [shape]
  refine clashResponse_of_foreign own (me_of_loader (by simp [expelSettled])) (memberResponse_noClash ?_)
  simpa [expelSettled] using noClash

theorem clash_of_filtered {address : Nat} {s : State} (own : address = s.me) (noClash : s.member.state ≠ .clash) :
    filteredFrame none address s = finish {} s (setMember .clash (checkExpulsion (addressed none address s))) ∧
      (checkExpulsion (addressed none address s)).bus.inFlight.map OwnFrame.grounded =
        s.bus.inFlight.map OwnFrame.grounded := by
  have law := aloftInvariant (s.bus.inFlight.map OwnFrame.grounded)
  refine ⟨?_, law.checkExpulsion (s := addressed none address s) rfl⟩
  unfold filteredFrame
  dsimp only
  rw [if_pos]
  simp [own, noClash]

/-- Settles O24: another station with the own address brings clash. -/
theorem foreignOwnAddressBringsClash : Obligations.ForeignOwnAddressBringsClash := by
  intro c codes address b s frame running own foreign noClash
  have ownR : address.toNat = (s.heardFrame codes).me := own
  have foreignR : (s.heardFrame codes).ownFrame address.toNat b = none := foreign
  have noClashR : (s.heardFrame codes).member.state ≠ .clash := noClash
  refine ⟨_, exec_of_frameOf frame s, ?_⟩
  obtain ⟨ev, x, shape, aloft⟩ : ∃ ev x, completeFrame codes address b s =
      finish ev (s.heardFrame codes) (setMember .clash x) ∧
        x.bus.inFlight.map OwnFrame.grounded = s.bus.inFlight.map OwnFrame.grounded := by
    by_cases passes : s.passes address.toNat b = true
    · obtain ⟨x, state, aloft⟩ := clash_of_passes ownR foreignR noClashR
      exact ⟨_, x, by rw [completeFrame_of_passes codes address b s running passes, state], aloft⟩
    · obtain ⟨state, aloft⟩ := clash_of_filtered ownR noClashR
      exact ⟨_, _, by
        rw [completeFrame_of_filtered codes address b s running (by simpa using passes), foreignR, state], aloft⟩
  obtain ⟨clash, fault, queue, inFlight, drive, rest⟩ := clash_ends shape.symm
  refine ⟨clash, fault, queue, inFlight.trans aloft, fun none => drive ?_, rest⟩
  rw [none, Option.map_none, Option.map_eq_none_iff] at aloft
  exact aloft

end Sys2Proof.Machine
end

section
/-! Settles O29: the start of an own frame, what it is chosen by, and what it carries. -/

namespace Sys2Proof.Machine

/-! ## The choice among the requests -/

/-- `e` is offered no later than `x`: by class, then by age, then by kind. -/
def State.offeredNoLater (s : State) (e x : TxEntry) : Prop :=
  s.classFor e.kind < s.classFor x.kind ∨
    (s.classFor e.kind = s.classFor x.kind ∧
      (e.age < x.age ∨ (e.age = x.age ∧ e.kind.code.toNat ≤ x.kind.code.toNat)))

section
variable {s : State}

theorem offeredNoLater_refl (e : TxEntry) : s.offeredNoLater e e := .inr ⟨rfl, .inr ⟨rfl, Nat.le_refl _⟩⟩

theorem offeredNoLater_trans {a b c : TxEntry} (first : s.offeredNoLater a b) (last : s.offeredNoLater b c) :
    s.offeredNoLater a c := by
  unfold State.offeredNoLater at *
  omega

theorem offeredNoLater_of_before {a b : TxEntry} (before : s.offeredBefore a b = true) : s.offeredNoLater a b := by
  simp only [State.offeredBefore, Bool.or_eq_true, Bool.and_eq_true, decide_eq_true_eq, beq_iff_eq] at before
  unfold State.offeredNoLater
  omega

theorem offeredNoLater_of_not_before {a b : TxEntry} (notBefore : ¬s.offeredBefore a b = true) : s.offeredNoLater b a := by
  simp only [State.offeredBefore, Bool.or_eq_true, Bool.and_eq_true, decide_eq_true_eq, beq_iff_eq] at notBefore
  unfold State.offeredNoLater
  omega

/-- One step of the choice. -/
def State.better (s : State) (best : Option TxEntry) (e : TxEntry) : Option TxEntry :=
  match best with
  | none => some e
  | some b => if s.offeredBefore e b then some e else some b

theorem better_first (best : Option TxEntry) (e : TxEntry) :
    ∃ c, s.better best e = some c ∧ s.offeredNoLater c e ∧ ∀ b, best = some b → s.offeredNoLater c b := by
  cases best with
  | none => exact ⟨e, rfl, offeredNoLater_refl e, nofun⟩
  | some b =>
    by_cases before : s.offeredBefore e b = true
    · refine ⟨e, if_pos before, offeredNoLater_refl e, ?_⟩
      rintro _ ⟨⟩
      exact offeredNoLater_of_before before
    · refine ⟨b, if_neg before, offeredNoLater_of_not_before before, ?_⟩
      rintro _ ⟨⟩
      exact offeredNoLater_refl b

theorem chosen_first : ∀ (queue : List TxEntry) (best : Option TxEntry), best.isSome = true ∨ queue ≠ [] →
    ∃ e, queue.foldl s.better best = some e ∧ (∀ b, best = some b → s.offeredNoLater e b) ∧
      ∀ x ∈ queue, s.offeredNoLater e x
  | [], best, begun => by
    obtain ⟨b, eq⟩ := Option.isSome_iff_exists.mp (begun.resolve_right (by simp))
    refine ⟨b, eq, fun c same => ?_, nofun⟩
    obtain rfl : b = c := Option.some.inj (eq.symm.trans same)
    exact offeredNoLater_refl b
  | x :: xs, best, _ => by
    obtain ⟨c, step, noLater, keeps⟩ := better_first (s := s) best x
    obtain ⟨e, found, first, rest⟩ := chosen_first xs (s.better best x) (.inl (by rw [step]; rfl))
    refine ⟨e, found, fun b same => offeredNoLater_trans (first c step) (keeps b same), fun y mem => ?_⟩
    obtain rfl | later := List.mem_cons.mp mem
    · exact offeredNoLater_trans (first c step) noLater
    · exact rest y later

theorem offered_first (waits : s.bus.queue ≠ []) :
    ∃ e, s.offered = some e ∧ e ∈ s.bus.queue ∧ ∀ x ∈ s.bus.queue, s.offeredNoLater e x := by
  have fold : s.offered = s.bus.queue.foldl s.better none := rfl
  obtain ⟨e, found, _, first⟩ := chosen_first (s := s) s.bus.queue none (.inr waits)
  exact ⟨e, fold.trans found, offered_mem (fold.trans found), first⟩

theorem mayStart_iff :
    s.mayStart = true ↔
      s.running = true ∧ s.member.state ≠ .clash ∧ s.bus.standing = .active ∧ s.bus.idle = true ∧
        s.bus.inFlight = none ∧ s.bus.queue ≠ [] := by
  simp only [State.mayStart, State.acceptsRequests, Bool.and_eq_true, bne_iff_ne, beq_iff_eq, Option.isNone_iff_eq_none,
    Bool.not_eq_true', List.isEmpty_eq_false_iff, and_assoc]

theorem frameStart_offers (may : s.mayStart = true) :
    ∃ e ∈ s.bus.queue, (∀ x ∈ s.bus.queue, s.offeredNoLater e x) ∧
      ∃ t, exec .frameStart s = .next t ∧
        t.bus =
          { s.bus with
            inFlight :=
              some { kind := e.kind, bulletin := s.bulletinFor e.kind, cls := s.classFor e.kind, renewal := none }
            idle := false, idleWait := none, drive := .frame } ∧
        t.stats =
          { s.stats with
            inFlight :=
              if e.kind = .report then
                s.stats.request.map (fun r =>
                  { request := r, part := if s.stats.snapshot.isSome = true then r.part else 0
                    counters := s.stats.counters, since := Attention.clear, replaced := false })
              else s.stats.inFlight } ∧
        { t with moment := s.moment, bus := s.bus, stats := s.stats } = s := by
  obtain ⟨e, offered, mem, first⟩ := offered_first (mayStart_iff.mp may).2.2.2.2.2
  have mayN : (nextMoment s).mayStart = true := may
  have offeredN : (nextMoment s).offered = some e := offered
  have started : startOffered (nextMoment s) = startFrame e (nextMoment s) := by
    unfold startOffered
    rw [if_pos mayN, offeredN]
  exact ⟨e, mem, first, _, congrArg Host.Outcome.next started, rfl, rfl, rfl⟩

theorem frameStart_idle (may : s.mayStart = false) : exec .frameStart s = .next { s with moment := s.moment + 1 } := by
  have mayN : ¬(nextMoment s).mayStart = true := by
    rw [Bool.not_eq_true]; exact may
  refine congrArg Host.Outcome.next (?_ : startOffered (nextMoment s) = nextMoment s)
  unfold startOffered
  rw [if_neg mayN]

/-! ## What a frame carries -/

theorem classFor_eq (s : State) :
    s.classFor .lapse = 0 ∧ s.classFor .expel = 0 ∧ s.classFor .draft = 3 ∧ s.classFor .join = 5 ∧
      s.classFor .status = 5 ∧ s.classFor .report = 6 ∧
      s.classFor .ret =
        (if 0 < s.ownRow.owed ∨ s.supply.state = .shed then 1
        else if s.table.queue ≠ [] ∨ s.loader.vt.returnBatch ≤ s.share.aside ∨ s.share.returnTimer = .expired then 4
        else 7) ∧
      s.classFor .claim =
        (match (if s.share.wishUnits = 0 then (s.ownEntry.map (·.rank)).getD s.share.wishRank else s.share.wishRank) with
        | .safety => 1
        | .draft => 3
        | .normal => 4) := by
  refine ⟨rfl, rfl, rfl, rfl, rfl, rfl, ?_, ?_⟩
  · show s.returnClass = _
    simp only [State.returnClass, congested_iff]
  · show s.claimCarries.cls = _
    unfold State.claimCarries
    generalize (if s.share.wishUnits = 0 then (s.ownEntry.map (·.rank)).getD s.share.wishRank else s.share.wishRank) = rank
    cases rank <;> rfl

theorem tempCode_eq (t : Option Int) : tempCode t = match t with | some x => BitVec.ofInt 8 x | none => 0x80 := by
  cases t <;> rfl

theorem setpointCode_eq (t : Option Int) : setpointCode t = match t with | some x => x.toNat | none => 0 := by
  cases t <;> rfl

theorem attention_bits (a : Attention) (n : Nat) :
    n + a.bits =
      n + (if a.half0 = true then 1 else 0) + (if a.full0 = true then 2 else 0) + (if a.half1 = true then 4 else 0) +
        (if a.full1 = true then 8 else 0) + (if a.config = true then 16 else 0) +
        (if a.rampTimeout = true then 32 else 0) := by
  rw [Attention.bits]
  simp only [← Nat.add_assoc]
  rfl

theorem statusPayload_eq (s : State) :
    s.statusPayload =
      { flags := BitVec.ofNat 8 (s.member.state.code + (if s.supply.state = .shed then 8 else 0)
          + (if s.zone.pendingFlag = true then 16 else 0) + (if s.zone.fault = true then 32 else 0)
          + (if s.defrost.state = .off then 0 else 64))
        tag := s.tag
        borrowed := BitVec.ofNat 8 s.ownRow.borrowed
        safety := BitVec.ofNat 8 s.ownRow.safety
        owed := BitVec.ofNat 8 s.ownRow.owed
        waiting := BitVec.ofNat 8 (match s.ownEntry with | some e => e.units | none => 0)
        rankAttention := BitVec.ofNat 8 (64 * (match s.ownEntry with | some e => e.rank.code | none => 0)
          + (if s.stats.flags.half0 = true then 1 else 0) + (if s.stats.flags.full0 = true then 2 else 0)
          + (if s.stats.flags.half1 = true then 4 else 0) + (if s.stats.flags.full1 = true then 8 else 0)
          + (if s.stats.flags.config = true then 16 else 0)
          + (if s.stats.flags.rampTimeout = true then 32 else 0))
        standing := BitVec.ofNat 8 (match s.ownEntry with | some e => e.standing | none => 0)
        leaseTagSeen := s.table.leaseTag
        zoneTemp := match s.zone.temp with | some x => BitVec.ofInt 8 x | none => 0x80
        demand := BitVec.ofNat 8 s.zone.total
        outdoor :=
          if s.isCab = true then (match s.doors.outdoor with | some x => BitVec.ofInt 8 x | none => 0x80)
          else 0x80 } := by
  have flags : s.statusPayload.flags = BitVec.ofNat 8 (s.member.state.code + (if s.supply.state = .shed then 8 else 0)
      + (if s.zone.pendingFlag = true then 16 else 0) + (if s.zone.fault = true then 32 else 0)
      + (if s.defrost.state = .off then 0 else 64)) := by
    have active : bitAt 6 s.defrostActive = if s.defrost.state = .off then 0 else 64 := by
      by_cases off : s.defrost.state = .off <;> simp [bitAt, State.defrostActive, off]
    have shed : bitAt 3 (s.supply.state == .shed) = if s.supply.state = .shed then 8 else 0 := by
      by_cases dark : s.supply.state = .shed <;> simp [bitAt, dark]
    show byteOf (_ + bitAt 3 _ + bitAt 4 _ + bitAt 5 _ + bitAt 6 _) = _
    rw [active, shed]
    rfl
  have attention : s.statusPayload.rankAttention =
      BitVec.ofNat 8 (64 * (match s.ownEntry with | some e => e.rank.code | none => 0)
        + (if s.stats.flags.half0 = true then 1 else 0) + (if s.stats.flags.full0 = true then 2 else 0)
        + (if s.stats.flags.half1 = true then 4 else 0) + (if s.stats.flags.full1 = true then 8 else 0)
        + (if s.stats.flags.config = true then 16 else 0)
        + (if s.stats.flags.rampTimeout = true then 32 else 0)) := by
    show byteOf (_ + s.stats.flags.bits) = _
    rw [attention_bits]
    cases s.ownEntry <;> rfl
  have temp := tempCode_eq s.zone.temp
  have outdoor := tempCode_eq s.doors.outdoor
  have waiting : (s.ownEntry.map (·.units)).getD 0 = match s.ownEntry with | some e => e.units | none => 0 := by
    cases s.ownEntry <;> rfl
  have standing : (s.ownEntry.map (·.standing)).getD 0 = match s.ownEntry with | some e => e.standing | none => 0 := by
    cases s.ownEntry <;> rfl
  rw [← flags, ← attention, ← temp, ← outdoor, ← waiting, ← standing]
  rfl

theorem bulletinFor_eq (s : State) :
    s.bulletinFor .lapse = .lapse s.table.leaseTag ∧ s.bulletinFor .join = .join s.tag ∧
      s.bulletinFor .draft = .draft (if s.doors.oneShot = .idle then 0 else 1) ∧
      (∀ p, s.member.expulsion = some p → s.bulletinFor .expel = .expel (BitVec.ofNat 8 p)) ∧
      s.bulletinFor .claim =
        .claim (BitVec.ofNat 8 s.share.wishUnits)
          (match (if s.share.wishUnits = 0 then (s.ownEntry.map (·.rank)).getD s.share.wishRank
            else s.share.wishRank) with
          | .safety => 1
          | .draft => 2
          | .normal => 3) ∧
      s.bulletinFor .ret =
        .ret (BitVec.ofNat 8 s.share.aside)
          (BitVec.ofNat 8 (min s.ownRow.safety
            (max (s.share.aside - (s.ownRow.borrowed - s.ownRow.safety))
              (min s.share.aside (s.ownRow.safety - s.safetyKept))))) := by
  refine ⟨rfl, rfl, ?_, fun p settled => ?_, ?_, rfl⟩
  · show Bulletin.draft (if s.boostActive = true then 1 else 0) = _
    by_cases idle : s.doors.oneShot = .idle
    · simp [State.boostActive, idle]
    · rw [if_pos ((boostActive_iff s).mpr idle), if_neg idle]
  · show Bulletin.expel (byteOf (s.member.expulsion.getD 0)) = _
    rw [settled]; rfl
  · show Bulletin.claim _ (byteOf s.claimCarries.code) = _
    unfold State.claimCarries
    generalize (if s.share.wishUnits = 0 then (s.ownEntry.map (·.rank)).getD s.share.wishRank else s.share.wishRank) = rank
    cases rank <;> rfl

/-! ## Reports -/

theorem byteOf_extract {w : Nat} (x : BitVec w) (place : Nat) : byteOf (x.toNat / 2 ^ place) = x.extractLsb' place 8 := by
  refine BitVec.eq_of_toNat_eq ?_
  simp [byteOf, BitVec.extractLsb'_toNat, Nat.shiftRight_eq_div_pow]

theorem bytesOf_one (x : BitVec 8) : bytesOf 1 x.toNat = [x] := by
  show [byteOf x.toNat] = [x]
  simp [byteOf]

theorem bytesOf_two {w : Nat} (x : BitVec w) : bytesOf 2 x.toNat = [x.extractLsb' 8 8, x.extractLsb' 0 8] := by
  have high := byteOf_extract x 8
  have low := byteOf_extract x 0
  rw [← high, ← low, Nat.pow_zero, Nat.div_one]
  rfl

theorem bytesOf_three {w : Nat} (x : BitVec w) :
    bytesOf 3 x.toNat = [x.extractLsb' 16 8, x.extractLsb' 8 8, x.extractLsb' 0 8] := by
  have top := byteOf_extract x 16
  have high := byteOf_extract x 8
  have low := byteOf_extract x 0
  rw [← top, ← high, ← low, Nat.pow_zero, Nat.div_one, show 2 ^ 16 = 256 * 256 by rfl, ← Nat.div_div_eq_div_mul]
  rfl

theorem bytesOf_four {w : Nat} (x : BitVec w) :
    bytesOf 4 x.toNat = [x.extractLsb' 24 8, x.extractLsb' 16 8, x.extractLsb' 8 8, x.extractLsb' 0 8] := by
  have first := byteOf_extract x 24
  have top := byteOf_extract x 16
  have high := byteOf_extract x 8
  have low := byteOf_extract x 0
  rw [← first, ← top, ← high, ← low, Nat.pow_zero, Nat.div_one, show 2 ^ 24 = 256 * 256 * 256 by rfl,
    show 2 ^ 16 = 256 * 256 by rfl, ← Nat.div_div_eq_div_mul, ← Nat.div_div_eq_div_mul]
  rfl

theorem pages_eq (k : Counters) :
    k.page0 =
        [k.energy.extractLsb' 24 8, k.energy.extractLsb' 16 8, k.energy.extractLsb' 8 8,
          k.energy.extractLsb' 0 8, k.waitSeconds.extractLsb' 8 8, k.waitSeconds.extractLsb' 0 8,
          k.recalls.extractLsb' 8 8, k.recalls.extractLsb' 0 8, k.linkFails, k.repairs] ∧
      k.page1 =
        [k.door0Opens.extractLsb' 8 8, k.door0Opens.extractLsb' 0 8, k.door0Seconds.extractLsb' 16 8,
          k.door0Seconds.extractLsb' 8 8, k.door0Seconds.extractLsb' 0 8, k.door1Opens.extractLsb' 8 8,
          k.door1Opens.extractLsb' 0 8, k.door1Seconds.extractLsb' 16 8, k.door1Seconds.extractLsb' 8 8,
          k.door1Seconds.extractLsb' 0 8] := by
  refine ⟨?_, ?_⟩
  · rw [Counters.page0, bytesOf_four, bytesOf_two, bytesOf_two, bytesOf_one, bytesOf_one]; rfl
  · rw [Counters.page1, bytesOf_two, bytesOf_three, bytesOf_two, bytesOf_three]; rfl

/-- What the report of a request carries, item by item. -/
theorem reportBytes_eq (s : State) (r : ReportRequest) :
    (r.item = .zone → s.reportBytes r =
      [BitVec.ofNat 8 (1 + 32 * s.doors.oneShot.code + (if s.overrides.economy.isSome = true then 128 else 0)),
        (match s.zone.temp with | some x => BitVec.ofInt 8 x | none => 0x80),
        (match s.doors.outdoor with | some x => BitVec.ofInt 8 x | none => 0x80),
        BitVec.ofNat 8 (min s.spendable 255), BitVec.ofNat 8 s.share.aside,
        BitVec.ofNat 8 ((match s.zone.setpoint with | some x => x.toNat | none => 0) + 64 * s.zone.mode.code),
        BitVec.ofNat 8 (s.zone.total + 64 * s.supply.state.code), BitVec.ofNat 8 (s.boost + 64 * s.factor),
        BitVec.ofNat 8 (s.stationLoad + (if s.zone.pendingFlag = true then 128 else 0)),
        BitVec.ofNat 8 (s.usable + 32 * s.defrost.state.code),
        BitVec.ofNat 8 (s.spillFigure + 32 * s.doors.spill.length
          + (if s.overrides.boostInhibit.isSome = true then 128 else 0)),
        BitVec.ofNat 8 (s.doors.door0.state.code + 4 * s.doors.door1.state.code
          + (if s.overrides.setpointOffset.isSome = true then 16 else 0)
          + (if s.overrides.fanForce.isSome = true then 32 else 0)
          + (if s.overrides.zoneOff.isSome = true then 64 else 0)
          + (if s.overrides.defrostMode.isSome = true then 128 else 0))]) ∧
    (r.item = .page0 → s.reportBytes r = 2 :: s.stats.counters.page0) ∧
    (r.item = .page1 → s.reportBytes r = 3 :: s.stats.counters.page1) ∧
    (r.item = .snapshot → s.stats.snapshot = none → s.reportBytes r = [4]) ∧
    (∀ p, r.item = .snapshot → s.stats.snapshot = some p →
      (r.part = 1 → s.reportBytes r =
        BitVec.ofNat 8 (12 + 32 * p.record.oneShot.code + (if p.record.economy = true then 128 else 0)) ::
          p.record.bytes) ∧
        (r.part = 2 → s.reportBytes r = 20 :: p.counters.page0) ∧
        (r.part = 3 → s.reportBytes r = 28 :: p.counters.page1)) ∧
    (∀ x, r.item = .row → s.table.row? r.row = some x → s.reportBytes r =
      BitVec.ofNat 8 (5 + 8 * s.table.usableOf x) ::
        ((match s.table.entry? x.station with
          | some e => [BitVec.ofNat 8 (64 * e.rank.code + e.units), BitVec.ofNat 8 e.standing]
          | none => [BitVec.ofNat 8 x.state.code, 0]) ++
          [BitVec.ofNat 8 x.borrowed, BitVec.ofNat 8 x.safety, BitVec.ofNat 8 x.owed, s.table.leaseTag,
            BitVec.ofNat 8 s.table.allowance, BitVec.ofNat 8 s.table.fallback, BitVec.ofNat 8 s.table.pool,
            BitVec.ofNat 8 s.table.free,
            BitVec.ofNat 8 (x.dedicated + (if s.table.leaseState = .lapsed then 32 else 0)
              + (if s.table.overdrawn = true then 64 else 0))])) ∧
    (r.item = .queue → s.reportBytes r =
      BitVec.ofNat 8 (6 + 8 * s.table.queue.length) ::
        (s.table.queue.take 3).flatMap (fun e =>
          [BitVec.ofNat 8 (64 * e.rank.code + e.units), BitVec.ofNat 8 e.station, BitVec.ofNat 8 e.standing])) := by
  unfold State.reportBytes
  refine ⟨fun zone => ?_, fun page => by rw [page], fun page => by rw [page], fun snapshot gone => ?_,
    fun p snapshot latched => ⟨fun part => ?_, fun part => ?_, fun part => ?_⟩, fun x row found => ?_,
    fun queue => by rw [queue]; rfl⟩
  · rw [zone]
    have header : 1 + s.zoneRecord.headerBits =
        1 + 32 * s.doors.oneShot.code + (if s.overrides.economy.isSome = true then 128 else 0) := by
      rw [ZoneRecord.headerBits, ← Nat.add_assoc]; rfl
    rw [← tempCode_eq, ← tempCode_eq, ← setpointCode_eq, ← header]
    rfl
  · rw [snapshot, gone]
  · rw [snapshot, latched, part]
    have header : 4 + 8 * 1 + p.record.headerBits =
        12 + 32 * p.record.oneShot.code + (if p.record.economy = true then 128 else 0) := by
      rw [ZoneRecord.headerBits, ← Nat.add_assoc]; rfl
    rw [← header]
    rfl
  · rw [snapshot, latched, part]; rfl
  · rw [snapshot, latched, part]; rfl
  · have rowOf : s.table.rowOf r.row = x := by rw [ShareTable.rowOf, found]; rfl
    have lapsed : bitAt 5 (s.table.leaseState == .lapsed) = if s.table.leaseState = .lapsed then 32 else 0 := by
      by_cases ended : s.table.leaseState = .lapsed <;> simp [bitAt, ended]
    rw [row]
    simp only [rowOf, ShareTable.rowBytes, lapsed]
    cases s.table.entry? x.station <;> rfl

end

/-- Settles O29: which request a frame is started for, and what it carries. -/
theorem frameStartOffersTheFirst : Obligations.FrameStartOffersTheFirst := by
  refine ⟨⟨rfl, rfl, rfl, rfl, rfl, rfl, rfl⟩, ⟨rfl, rfl, rfl, rfl⟩, ⟨rfl, rfl, rfl⟩, ⟨rfl, rfl, rfl, rfl⟩,
    ⟨rfl, rfl, rfl⟩, ⟨rfl, rfl, rfl, rfl, rfl, rfl⟩, ⟨rfl, rfl, rfl⟩, ⟨rfl, rfl, rfl⟩,
    ⟨rfl, rfl, rfl, rfl, rfl, rfl, rfl, rfl⟩, fun s => ⟨mayStart_iff, frameStart_offers, frameStart_idle, classFor_eq s, ?_, ?_⟩⟩
  · obtain ⟨lapse, join, draft, expel, claim, ret⟩ := bulletinFor_eq s
    exact ⟨lapse, join, draft, expel, claim, ret, congrArg Bulletin.status (statusPayload_eq s)⟩
  · intro r asked
    have carried : s.bulletinFor .report = .report (s.reportBytes r) := by
      show Bulletin.report s.reportPayload = _
      rw [State.reportPayload, asked]
    obtain ⟨zone, page0, page1, gone, latched, row, queue⟩ := reportBytes_eq s r
    exact ⟨_, carried, zone, page0, page1, pages_eq, gone, latched, row, queue⟩

end Sys2Proof.Machine
end

section
/-! Settles O30: the own frame read back, void or lost. -/

namespace Sys2Proof.Machine

/-! ## Reading back -/

theorem stuffOn_length_pos (last : Bool) (run : Nat) {bits : List Bool} (some : bits ≠ []) :
    0 < (stuffOn last run bits).length := by
  cases bits with
  | nil => exact absurd rfl some
  | cons b bits =>
    by_cases five : run = 5
    · rw [five, stuffOn_cons_of_five]; simp
    · rw [stuffOn_cons five]; simp

theorem stuff_length_append {bits more : List Bool} (some : bits ≠ []) (left : more ≠ []) :
    (stuff bits).length < (stuff (bits ++ more)).length := by
  cases bits with
  | nil => exact absurd rfl some
  | cons b bits =>
    have rest := stuffOn_length_pos (stuffState b 1 bits).1 (stuffState b 1 bits).2 left
    rw [List.cons_append, stuff_cons, stuff_cons, stuffOn_append]
    simp only [List.length_cons, List.length_append]
    omega

theorem plainBits_length (f : Frame) : 8 < f.plainBits.length := by
  simp only [Frame.plainBits, Frame.fieldBits, List.length_cons, List.length_append, bitsOf_length]
  omega

theorem arbitrationBits_lt (f : Frame) : f.arbitrationBits < f.checkedBits := by
  have long := plainBits_length f
  have whole : f.plainBits = f.plainBits.take 8 ++ f.plainBits.drop 8 := (List.take_append_drop 8 _).symm
  unfold Frame.arbitrationBits Frame.checkedBits
  conv => rhs; rw [whole]
  refine stuff_length_append ?_ ?_
  · exact List.ne_nil_of_length_pos (by rw [List.length_take]; omega)
  · exact List.ne_nil_of_length_pos (by rw [List.length_drop]; omega)

theorem bits_take (f : Frame) : f.checkedBits < f.bits.length := by
  simp [Frame.bits, Frame.checkedBits]

/-- The first `k` driven bits read back as driven; from there on the line is compared. -/
theorem readBack_take (f : Frame) {k : Nat} (within : k ≤ f.checkedBits) (heard : List Bool) :
    f.readBack (f.bits.take k ++ heard) =
      compareBits (f.arbitrationBits - k) (f.checkedBits - k) (f.bits.drop k) heard := by
  have length : (f.bits.take k).length = k := by
    rw [List.length_take]
    have := bits_take f
    omega
  have split := compareBits_append f.arbitrationBits f.checkedBits (f.bits.take k) (f.bits.drop k) heard (by omega)
  rwa [List.take_append_drop, length] at split

theorem readBack_eq (f : Frame) (k : Nat) (b : Bool) (rest : List Bool) :
    f.arbitrationBits = (stuff (f.plainBits.take 8)).length ∧ f.arbitrationBits < f.checkedBits ∧
      f.bits = stuff f.plainBits ++ true :: List.replicate 7 true ∧ f.checkedBits = (stuff f.plainBits).length ∧
      (k ≤ f.checkedBits → f.readBack (f.bits.take k) = .underWay) ∧
      f.readBack (f.bits.take f.checkedBits ++ true :: rest) = .completes ∧
      f.readBack (f.bits.take f.checkedBits ++ false :: rest) = .objected ∧
      (k < f.checkedBits → f.bits[k]? = some b →
        f.readBack (f.bits.take k ++ (!b) :: rest) =
          if k < f.arbitrationBits ∧ b = true then .lost else .aborts) := by
  have slot : ∀ h : Bool, f.readBack (f.bits.take f.checkedBits ++ h :: rest) = if h = true then .completes else .objected := by
    intro h
    rw [readBack_take f (Nat.le_refl _), Nat.sub_self, List.drop_eq_getElem_cons (bits_take f), compareBits_slot]
  refine ⟨rfl, arbitrationBits_lt f, rfl, rfl, fun within => ?_, slot true, slot false, fun within driven => ?_⟩
  · rw [← List.append_nil (f.bits.take k), readBack_take f within, compareBits_nil]
  · obtain ⟨inside, bit⟩ := List.getElem?_eq_some_iff.mp driven
    rw [readBack_take f (by omega), List.drop_eq_getElem_cons inside, bit, compareBits_differs _ _ _ _ _ (by omega)]
    simp only [Nat.sub_pos_iff_lt]

/-! ## The end of an own frame that did not complete -/

theorem queueKind_waits {e : TxEntry} {s : State} (kind : TxKind) (waits : e ∈ s.bus.queue) :
    e ∈ (queueKind kind s).bus.queue := by
  unfold queueKind
  (repeat' split)
  · exact waits
  · exact waits
  · exact List.mem_append_left _ waits
  · exact waits

theorem withdrawKind_waits {e : TxEntry} {s : State} {kind : TxKind} (other : e.kind ≠ kind) (waits : e ∈ s.bus.queue) :
    e ∈ (withdrawKind kind s).bus.queue := by
  unfold withdrawKind
  split
  · exact waits
  · exact List.mem_filter.mpr ⟨waits, by simpa using other⟩

theorem noteStatus_waits {e : TxEntry} {before s : State} (waits : e ∈ s.bus.queue) :
    e ∈ (noteStatus before s).bus.queue := by
  unfold noteStatus
  split
  · exact queueKind_waits _ waits
  · exact waits

theorem checkExpulsion_waits {e : TxEntry} {s : State} (other : e.kind ≠ .expel) (waits : e ∈ s.bus.queue) :
    e ∈ (checkExpulsion s).bus.queue := by
  have dropped : e ∈ (dropSettledExpulsion s).bus.queue := by
    unfold dropSettledExpulsion
    (repeat' split)
    · exact waits
    · exact withdrawKind_waits (s := { s with member := { s.member with expulsion := none } }) other waits
    · exact waits
  unfold checkExpulsion proposeExpulsion
  (repeat' split)
  · exact queueKind_waits (s := { dropSettledExpulsion s with
      member := { (dropSettledExpulsion s).member with expulsion := some _ } }) .expel dropped
  · exact dropped
  · exact dropped

theorem inFlight_none_of_flight {s : State} (grounded : s.flight = none) : s.bus.inFlight = none :=
  Option.map_eq_none_iff.mp grounded

section
variable {s t : State}

/-- What both ways to end an own frame leave: nothing flies, and what may still be sent waits on. -/
structure FrameEnded (s t : State) : Prop where
  inFlight : t.bus.inFlight = none
  report : t.stats.inFlight = none
  share : t.share = s.share
  table : t.table = s.table
  zone : t.zone = s.zone
  doors : t.doors = s.doors
  request : t.stats.request = s.stats.request
  waits : ∀ e ∈ s.bus.queue, s.maySend e.kind = true → e.kind ≠ .expel → e ∈ t.bus.queue

theorem ownFrameEnds_waits {e : TxEntry} (waits : e ∈ s.bus.queue) (may : s.maySend e.kind = true) :
    e ∈ (ownFrameEnds s).bus.queue := List.mem_filter.mpr ⟨waits, may⟩

/-- A frame lost to another ends without a failure. -/
theorem frameLost_frameEnded {f : OwnFrame} (flying : s.bus.inFlight = some f) :
    FrameEnded s (frameLost s) ∧ (frameLost s).bus.drive = .released ∧
      (frameLost s).bus.failures = s.bus.failures ∧ (frameLost s).bus.standing = s.bus.standing ∧
      (frameLost s).stats.counters = s.stats.counters := by
  have lost : frameLost s = checkExpulsion (ownFrameEnds s) := by
    unfold frameLost
    rw [flying]
  rw [lost]
  refine ⟨⟨inFlight_none_of_flight (by simp only [flight_checkExpulsion]; rfl), ?_, ?_, ?_, ?_, ?_, ?_,
    fun e waits may other => checkExpulsion_waits other (ownFrameEnds_waits waits may)⟩, ?_, ?_, ?_, ?_⟩
  all_goals simp [ownFrameEnds]

theorem countFailure_eq (s : State) :
    (countFailure s).bus.failures = min 16 (s.bus.failures + 1) ∧
      (15 ≤ s.bus.failures → (countFailure s).bus.standing = .mute ∧ (countFailure s).bus.mute = some 2000) ∧
      (s.bus.failures < 15 → (countFailure s).bus.standing = s.bus.standing ∧ (countFailure s).bus.mute = s.bus.mute) := by
  unfold countFailure
  dsimp only
  by_cases many : 15 ≤ s.bus.failures
  · rw [if_pos (by omega)]
    exact ⟨rfl, fun _ => ⟨rfl, rfl⟩, fun few => absurd many (by omega)⟩
  · rw [if_neg (by omega)]
    exact ⟨rfl, fun few => absurd few many, fun _ => ⟨rfl, rfl⟩⟩

/-- The state with the failure of an own frame counted. -/
def State.failed (s : State) (drive : Drive) : State :=
  { count .linkFails 1 (countFailure (ownFrameEnds s)) with
    bus := { (countFailure (ownFrameEnds s)).bus with drive } }

theorem failed_frame (s : State) (drive : Drive) :
    (s.failed drive).share = s.share ∧ (s.failed drive).table = s.table ∧ (s.failed drive).zone = s.zone ∧
      (s.failed drive).doors = s.doors ∧ (s.failed drive).stats.request = s.stats.request ∧
      (s.failed drive).stats.inFlight = none ∧ (s.failed drive).flight = none ∧
      (s.failed drive).bus.queue = (ownFrameEnds s).bus.queue ∧
      (s.failed drive).stats.counters.linkFails = bumped s.loader.vt.counterFreeze 1 s.stats.counters.linkFails := by
  unfold State.failed countFailure
  dsimp only
  split <;> exact ⟨rfl, rfl, rfl, rfl, rfl, rfl, rfl, rfl, rfl⟩

/-- An own frame that failed is counted, and too many failures mute the station. -/
theorem ownFrameFails_frameEnded (drive : Drive) (s : State) :
    FrameEnded s (ownFrameFails drive s) ∧ (ownFrameFails drive s).bus.drive = drive ∧
      (ownFrameFails drive s).bus.failures = min 16 (s.bus.failures + 1) ∧
      (15 ≤ s.bus.failures →
        (ownFrameFails drive s).bus.standing = .mute ∧ (ownFrameFails drive s).bus.mute = some 2000) ∧
      (s.bus.failures < 15 →
        (ownFrameFails drive s).bus.standing = s.bus.standing ∧ (ownFrameFails drive s).bus.mute = s.bus.mute) ∧
      (ownFrameFails drive s).stats.counters.linkFails =
        bumped s.loader.vt.counterFreeze 1 s.stats.counters.linkFails := by
  have shape : ownFrameFails drive s = checkExpulsion (noteStatus s (s.failed drive)) := rfl
  obtain ⟨share, table, zone, doors, request, report, flight, queue, linkFails⟩ := failed_frame s drive
  obtain ⟨failures, many, few⟩ := countFailure_eq (ownFrameEnds s)
  rw [shape]
  refine ⟨⟨inFlight_none_of_flight (by simpa using flight), by simpa using report, by simpa using share,
    by simpa using table, by simpa using zone, by simpa using doors, by simpa using request,
    fun e waits may other => checkExpulsion_waits other (noteStatus_waits (queue ▸ ownFrameEnds_waits waits may))⟩,
    ?_, ?_, ?_, ?_, by simpa using linkFails⟩
  · simp [State.failed]
  · simpa [State.failed, ownFrameEnds] using failures
  · simpa [State.failed, ownFrameEnds] using many
  · simpa [State.failed, ownFrameEnds] using few

end

section
variable {s : State} {f : OwnFrame} {heard : List Bool}

theorem exec_ownFrameVoid (running : s.running = true) :
    exec (.ownFrameVoid heard) s = .next (ownFrameReadBack heard (nextMoment s)) :=
  congrArg Host.Outcome.next (whenRunning_of (ownFrameReadBack heard) (nextMoment s) running)

theorem ownFrameReadBack_failed {s : State} {read : ReadBack} (back : s.readsBack heard = some read)
    (failed : read = .objected ∨ read = .aborts) :
    ownFrameReadBack heard s = ownFrameFails (if read = .aborts then .abort else .released) s := by
  unfold ownFrameReadBack
  rw [back]
  obtain rfl | rfl := failed <;> rfl

theorem FrameEnded.of_nextMoment {t : State} (ended : FrameEnded (nextMoment s) t) : FrameEnded s t :=
  ⟨ended.inFlight, ended.report, ended.share, ended.table, ended.zone, ended.doors, ended.request, ended.waits⟩

theorem ownFrameVoid_fails (running : s.running = true)
    (failed : s.readsBack heard = some .objected ∨ s.readsBack heard = some .aborts) :
    ∃ t, exec (.ownFrameVoid heard) s = .next t ∧ FrameEnded s t ∧
      t.bus.drive = (if s.readsBack heard = some .aborts then .abort else .released) ∧
      t.bus.failures = min 16 (s.bus.failures + 1) ∧
      (15 ≤ s.bus.failures → t.bus.standing = .mute ∧ t.bus.mute = some 2000) ∧
      (s.bus.failures < 15 → t.bus.standing = s.bus.standing ∧ t.bus.mute = s.bus.mute) ∧
      t.stats.counters.linkFails = bumped s.loader.vt.counterFreeze 1 s.stats.counters.linkFails := by
  obtain ⟨read, back, which⟩ : ∃ read, s.readsBack heard = some read ∧ (read = .objected ∨ read = .aborts) := by
    obtain objected | aborts := failed
    · exact ⟨_, objected, .inl rfl⟩
    · exact ⟨_, aborts, .inr rfl⟩
  obtain ⟨ended, drive, rest⟩ := ownFrameFails_frameEnded (if read = .aborts then .abort else .released) (nextMoment s)
  refine ⟨_, (exec_ownFrameVoid running).trans (congrArg Host.Outcome.next
    (ownFrameReadBack_failed (s := nextMoment s) back which)), ended.of_nextMoment, drive.trans ?_, rest⟩
  rw [back]
  simp only [Option.some.injEq]

theorem ownFrameVoid_goesOn (running : s.running = true)
    (goesOn : s.readsBack heard = some .completes ∨ s.readsBack heard = some .underWay) :
    exec (.ownFrameVoid heard) s = .next { s with moment := s.moment + 1 } := by
  refine (exec_ownFrameVoid running).trans (congrArg Host.Outcome.next ?_)
  have back : (nextMoment s).readsBack heard = s.readsBack heard := rfl
  unfold ownFrameReadBack
  rw [back]
  obtain completes | underWay := goesOn
  · rw [completes]; rfl
  · rw [underWay]; rfl

theorem exec_lost {c : Instr} (running : s.running = true)
    (lost : c = .ownFrameLost ∨ ∃ heard, c = .ownFrameVoid heard ∧ s.readsBack heard = some .lost) :
    exec c s = .next (frameLost (nextMoment s)) := by
  obtain rfl | ⟨heard, rfl, back⟩ := lost
  · exact congrArg Host.Outcome.next (whenRunning_of frameLost (nextMoment s) running)
  · refine (exec_ownFrameVoid running).trans (congrArg Host.Outcome.next ?_)
    have backN : (nextMoment s).readsBack heard = some .lost := back
    unfold ownFrameReadBack
    rw [backN]

end

/-- Settles O30: the own frame read back, and what its failure and its loss leave. -/
theorem ownFrameVoidOrLost : Obligations.OwnFrameVoidOrLost := by
  refine ⟨readBack_eq, fun s f running flying => ⟨fun heard => ⟨?_, fun failed => ?_, ownFrameVoid_goesOn running⟩,
    fun c lost => ?_⟩⟩
  · rw [State.readsBack, flying]; rfl
  · obtain ⟨t, next, ended, drive, failures, many, few, linkFails⟩ := ownFrameVoid_fails running failed
    exact ⟨t, next, ended.inFlight, ended.report, drive, failures, many, few, linkFails, ended.share, ended.table,
      ended.zone, ended.doors, ended.request, ended.waits⟩
  · have flyingN : (nextMoment s).bus.inFlight = some f := flying
    obtain ⟨ended, drive, failures, standing, counters⟩ := frameLost_frameEnded flyingN
    exact ⟨_, exec_lost running lost, ended.inFlight, ended.report, drive, failures, standing, counters, ended.share,
      ended.table, ended.zone, ended.doors, ended.request, ended.waits⟩

end Sys2Proof.Machine
end

section
/-! Settles O35: the status period, the status noted at the end of an event, and the silence of a station. -/

namespace Sys2Proof.Machine

/-! ## A request that stands -/

/-- The kind waits, or its frame in flight is to be asked for again. -/
def State.asksAfresh (s : State) (kind : TxKind) : Prop :=
  (s.flying kind = false ∧ s.hasTx kind = true) ∨ ∃ f, s.bus.inFlight = some f ∧ f.kind = kind ∧ f.renewal.isSome = true

theorem flying_iff (s : State) (kind : TxKind) : s.flying kind = true ↔ ∃ f, s.bus.inFlight = some f ∧ f.kind = kind := by
  unfold State.flying
  cases s.bus.inFlight <;> simp

theorem queueKind_asksAfresh (kind : TxKind) {s : State} (accepts : s.acceptsRequests = true) :
    (queueKind kind s).asksAfresh kind := by
  unfold queueKind
  rw [if_pos accepts]
  by_cases flying : s.flying kind = true
  · obtain ⟨f, inFlight, same⟩ := (flying_iff s kind).mp flying
    rw [if_pos flying]
    exact .inr ⟨OwnFrame.asked s.moment f, by simp only [inFlight, Option.map_some], same, rfl⟩
  · rw [if_neg flying]
    have grounded : s.flying kind = false := by simpa using flying
    split
    · rename_i waits; exact .inl ⟨grounded, waits⟩
    · exact .inl ⟨grounded, by simp [State.hasTx]⟩

theorem asksAfresh_of_bus {s t : State} {kind : TxKind} (queue : t.bus.queue = s.bus.queue)
    (inFlight : t.bus.inFlight = s.bus.inFlight) (asks : s.asksAfresh kind) : t.asksAfresh kind := by
  unfold State.asksAfresh State.flying State.hasTx at *
  rwa [queue, inFlight]

theorem asksAfresh_queueKind {kind : TxKind} (other : TxKind) {s : State} (asks : s.asksAfresh kind) :
    (queueKind other s).asksAfresh kind := by
  by_cases same : other = kind
  · subst same
    by_cases accepts : s.acceptsRequests = true
    · exact queueKind_asksAfresh other accepts
    · have deaf : queueKind other s = s := if_neg accepts
      rwa [deaf]
  · have flying : (queueKind other s).flying kind = s.flying kind := flying_of_flight (flight_queueKind other s) kind
    obtain ⟨grounded, waits⟩ | ⟨f, inFlight, kindOf, renewal⟩ := asks
    · exact .inl ⟨flying.trans grounded, (hasTx_queueKind_other same s).trans waits⟩
    · refine .inr ⟨f, ?_, kindOf, renewal⟩
      have apart : s.flying other = false := by
        simp only [State.flying, inFlight, kindOf, beq_eq_false_iff_ne]; exact fun eq => same eq.symm
      unfold queueKind
      by_cases accepts : s.acceptsRequests = true
      · rw [if_pos accepts, if_neg (by simp [apart])]
        split <;> exact inFlight
      · rw [if_neg accepts]; exact inFlight

theorem asksAfresh_withdrawKind {kind other : TxKind} (apart : other ≠ kind) {s : State} (asks : s.asksAfresh kind) :
    (withdrawKind other s).asksAfresh kind := by
  have flying : (withdrawKind other s).flying kind = s.flying kind := flying_of_flight (flight_withdrawKind other s) kind
  obtain ⟨grounded, waits⟩ | ⟨f, inFlight, kindOf, renewal⟩ := asks
  · exact .inl ⟨flying.trans grounded, (hasTx_withdrawKind_other apart s).trans waits⟩
  · refine .inr ⟨f, ?_, kindOf, renewal⟩
    have grounded : s.flying other = false := by
      simp only [State.flying, inFlight, kindOf, beq_eq_false_iff_ne]; exact fun eq => apart eq.symm
    unfold withdrawKind
    rw [if_neg (by simp [grounded])]
    exact inFlight

theorem asksInvariant : RequestInvariant (fun s => s.asksAfresh .status) where
  same same asks := asksAfresh_of_bus same.1 same.2.1 asks
  queue kind _ _ asks := asksAfresh_queueKind kind asks
  drop kind _ event asks := asksAfresh_withdrawKind (fun status => by rw [status] at event; simp at event) asks
  withdraw _ _ other asks := asksAfresh_withdrawKind other asks

/-! ## The status noted -/

theorem statusView_iff (s t : State) :
    t.statusView = s.statusView ↔
      t.ownRow.borrowed = s.ownRow.borrowed ∧ t.ownRow.safety = s.ownRow.safety ∧ t.ownRow.owed = s.ownRow.owed ∧
        t.ownEntry = s.ownEntry ∧ t.member.state = s.member.state ∧
        (t.supply.state = .shed ↔ s.supply.state = .shed) ∧ t.zone.pendingFlag = s.zone.pendingFlag ∧
        t.zone.fault = s.zone.fault ∧ (t.defrost.state = .off ↔ s.defrost.state = .off) ∧
        t.stats.flags = s.stats.flags ∧ t.table.leaseTag = s.table.leaseTag := by
  have shed : (t.supply.state == .shed) = (s.supply.state == .shed) ↔ (t.supply.state = .shed ↔ s.supply.state = .shed) := by
    rw [Bool.eq_iff_iff, beq_iff_eq, beq_iff_eq]
  have active : t.defrostActive = s.defrostActive ↔ (t.defrost.state = .off ↔ s.defrost.state = .off) := by
    rw [State.defrostActive, State.defrostActive, Bool.eq_iff_iff, bne_iff_ne, bne_iff_ne, Decidable.not_iff_not]
  simp only [State.statusView, StatusView.mk.injEq, shed, active]

/-- What the status shows is the same. -/
structure SameView (s t : State) : Prop where
  loader : t.loader = s.loader
  table : t.table = s.table
  member : t.member.state = s.member.state
  supply : t.supply.state = s.supply.state
  pendingFlag : t.zone.pendingFlag = s.zone.pendingFlag
  fault : t.zone.fault = s.zone.fault
  defrost : t.defrost.state = s.defrost.state
  flags : t.stats.flags = s.stats.flags

theorem SameView.view {s t : State} (same : SameView s t) : t.statusView = s.statusView := by
  have row : t.ownRow = s.ownRow := by simp only [State.ownRow, State.me, same.loader, same.table]
  have entry : t.ownEntry = s.ownEntry := by simp only [State.ownEntry, State.me, same.loader, same.table]
  rw [statusView_iff, row, entry, same.member, same.supply, same.pendingFlag, same.fault, same.defrost, same.flags,
    same.table]
  simp

/-- Whoever sends STATUS asks for it when what it shows has changed. -/
def StatusNoted (s t : State) : Prop :=
  t.sendsStatus = true → t.statusView ≠ s.statusView → t.asksAfresh .status

theorem statusNoted_of_view {s t : State} (view : t.statusView = s.statusView) : StatusNoted s t :=
  fun _ moved => absurd view moved

theorem SameView.noted {s t : State} (same : SameView s t) : StatusNoted s t := statusNoted_of_view same.view

theorem sendsStatus_iff (s : State) :
    s.sendsStatus = true ↔ s.member.state = .catchingUp ∨ s.member.state = .inStep ∨ s.member.state = .mismatched := by
  unfold State.sendsStatus
  cases s.member.state <;> simp

theorem acceptsRequests_of_sendsStatus {s : State} (sends : s.sendsStatus = true) : s.acceptsRequests = true := by
  unfold State.sendsStatus at sends
  unfold State.acceptsRequests State.running
  cases state : s.member.state <;> simp_all

theorem checkExpulsion_sameView (s : State) : SameView s (checkExpulsion s) := by
  refine ⟨?_, ?_, ?_, ?_, ?_, ?_, ?_, ?_⟩ <;> simp

theorem noteStatus_sameView (before s : State) : SameView s (noteStatus before s) := by
  refine ⟨?_, ?_, ?_, ?_, ?_, ?_, ?_, ?_⟩ <;> simp

theorem sendsStatus_of_member {s t : State} (member : t.member.state = s.member.state) : t.sendsStatus = s.sendsStatus := by
  simp only [State.sendsStatus, member]

theorem noteStatus_noted {before x : State} (sends : x.sendsStatus = true) (moved : x.statusView ≠ before.statusView) :
    (noteStatus before x).asksAfresh .status := by
  unfold noteStatus
  rw [if_pos (by simp [sends, moved])]
  exact queueKind_asksAfresh _ (acceptsRequests_of_sendsStatus sends)

theorem statusNoted_noteStatus {s before x : State} (view : before.statusView = s.statusView) :
    StatusNoted s (noteStatus before x) := by
  intro sends moved
  rw [(noteStatus_sameView before x).view, ← view] at moved
  rw [sendsStatus_of_member (noteStatus_sameView before x).member] at sends
  exact noteStatus_noted sends moved

theorem statusNoted_checkExpulsion {s x : State} (noted : StatusNoted s x) : StatusNoted s (checkExpulsion x) := by
  intro sends moved
  rw [(checkExpulsion_sameView x).view] at moved
  rw [sendsStatus_of_member (checkExpulsion_sameView x).member] at sends
  exact asksInvariant.checkExpulsion (noted sends moved)

theorem statusNoted_of_idle {s t : State} (idle : t.running = false) : StatusNoted s t := by
  intro sends _
  have accepts := acceptsRequests_of_sendsStatus sends
  simp [State.acceptsRequests, idle] at accepts

theorem statusNoted_finish {s r : State} (view : r.statusView = s.statusView) (ev : Ev) (u : State) :
    StatusNoted s (finish ev r u) := by
  by_cases running : u.running = true
  · rw [finish_of_running running, finishRunning_eq]
    exact statusNoted_checkExpulsion (statusNoted_noteStatus view)
  · rw [finish_of_not_running (by simpa using running)]
    exact statusNoted_of_idle (by simpa using running)

/-- A step that notes in STATUS what it changes. -/
def Notes (f : State → State) : Prop := ∀ s, StatusNoted s (f s)

theorem Notes.whenRunning {f : State → State} (notes : Notes f) : Notes (whenRunning f) := by
  intro s
  unfold Machine.whenRunning
  split
  · exact notes s
  · exact statusNoted_of_view rfl

theorem notes_of_finish {f : State → State} (finishes : ∀ s, f s = s ∨ ∃ ev u, f s = finish ev s u) : Notes f := by
  intro s
  obtain same | ⟨ev, u, eq⟩ := finishes s
  · exact statusNoted_of_view (by rw [same])
  · rw [eq]; exact statusNoted_finish rfl ev u

theorem StatusNoted.of_begin {codes : Sensors} {s t : State} (noted : StatusNoted (begin codes s) t) : StatusNoted s t := noted

theorem StatusNoted.of_nextMoment {s t : State} (noted : StatusNoted (nextMoment s) t) : StatusNoted s t := noted

theorem queueKind_sameView (kind : TxKind) (s : State) : SameView s (queueKind kind s) := by
  refine ⟨?_, ?_, ?_, ?_, ?_, ?_, ?_, ?_⟩ <;> simp

/-! ## The timed events -/

theorem timedEvents_note :
    (∀ kind, Notes (slotEnds kind)) ∧ Notes panelFallsSilent ∧ (∀ door, Notes (doorLevel door)) ∧
      (∀ door, Notes (longOpenEnds door)) ∧ Notes tailEnds ∧ (∀ station, Notes (spillEnds station)) ∧
      Notes outdoorAgeEnds ∧ Notes fogLevel ∧ Notes rampEnds ∧ Notes holdEnds ∧ Notes trimEnds ∧ Notes censusEnds ∧
      Notes catchUpEnds ∧ Notes settleEnds ∧ Notes rideThroughEnds ∧ Notes qualifyEnds ∧ Notes lineLevel ∧
      Notes leaseRunsOut ∧ Notes spacingEnds ∧ Notes periodEnds ∧ (∀ stage, Notes (stageTimerEnds stage)) := by
  refine ⟨fun kind => notes_of_finish fun s => ?_, fun s => ?_, fun door => notes_of_finish fun s => ?_,
    fun door => notes_of_finish fun s => ?_, notes_of_finish fun s => ?_, fun station => notes_of_finish fun s => ?_,
    notes_of_finish fun s => ?_, notes_of_finish fun s => ?_, notes_of_finish fun s => ?_, notes_of_finish fun s => ?_,
    notes_of_finish fun s => ?_, notes_of_finish fun s => ?_, notes_of_finish fun s => ?_, notes_of_finish fun s => ?_,
    notes_of_finish fun s => ?_, notes_of_finish fun s => ?_, notes_of_finish fun s => ?_, notes_of_finish fun s => ?_,
    notes_of_finish fun s => ?_, notes_of_finish fun s => ?_, fun stage => notes_of_finish fun s => ?_⟩
  case refine_2 =>
    unfold panelFallsSilent
    (repeat' split)
    · exact statusNoted_of_view rfl
    · exact statusNoted_finish rfl _ _
    · exact statusNoted_of_view rfl
  case refine_1 => unfold slotEnds; split; exact .inl rfl; exact .inr ⟨_, _, rfl⟩
  case refine_3 => unfold doorLevel; split; exact .inl rfl; exact .inr ⟨_, _, rfl⟩
  case refine_4 => unfold longOpenEnds; split; exact .inl rfl; exact .inr ⟨_, _, rfl⟩
  case refine_5 => unfold tailEnds; split; exact .inl rfl; exact .inr ⟨_, _, rfl⟩
  case refine_6 => unfold spillEnds; split; exact .inr ⟨_, _, rfl⟩; exact .inl rfl
  case refine_7 => unfold outdoorAgeEnds; split; exact .inl rfl; exact .inr ⟨_, _, rfl⟩
  case refine_8 => unfold fogLevel; split; exact .inl rfl; exact .inr ⟨_, _, rfl⟩
  case refine_9 => unfold rampEnds; split; exact .inr ⟨_, _, rfl⟩; exact .inl rfl
  case refine_10 => unfold holdEnds; split; exact .inr ⟨_, _, rfl⟩; exact .inl rfl
  case refine_11 => unfold trimEnds; split; exact .inr ⟨_, _, rfl⟩; exact .inl rfl
  case refine_12 => unfold censusEnds; split; exact .inl rfl; exact .inr ⟨_, _, rfl⟩
  case refine_13 => unfold catchUpEnds; split; exact .inl rfl; exact .inr ⟨_, _, rfl⟩
  case refine_14 => unfold settleEnds; split; exact .inl rfl; exact .inr ⟨_, _, rfl⟩
  case refine_15 => unfold rideThroughEnds; split; exact .inl rfl; exact .inr ⟨_, _, rfl⟩
  case refine_16 => unfold qualifyEnds; split; exact .inl rfl; exact .inr ⟨_, _, rfl⟩
  case refine_17 => unfold lineLevel; split; exact .inl rfl; exact .inr ⟨_, _, rfl⟩
  case refine_18 => unfold leaseRunsOut; split; exact .inl rfl; exact .inr ⟨_, _, rfl⟩
  case refine_19 => unfold spacingEnds; split; exact .inl rfl; exact .inr ⟨_, _, rfl⟩
  case refine_20 => unfold periodEnds; split; exact .inl rfl; exact .inr ⟨_, _, rfl⟩
  case refine_21 => unfold stageTimerEnds; split; exact .inr ⟨_, _, rfl⟩; exact .inl rfl

theorem quietEvents_note :
    (∀ door apart, Notes (doorRaw door apart)) ∧ (∀ active, Notes (fogRaw active)) ∧ (∀ high, Notes (lineRaw high)) ∧
      Notes statusPeriodEnds ∧ (∀ station, Notes (ageReaches station)) ∧ Notes secondEnds ∧ Notes returnTimerEnds ∧
      Notes muteEnds ∧ Notes idleWaitEnds ∧ Notes busBecomesIdle ∧ Notes startOffered ∧
      (∀ heard, Notes (fun s => answerHeard heard (frameHeard s))) ∧ (∀ heard, Notes (ownFrameReadBack heard)) ∧
      Notes frameLost := by
  have lost : Notes frameLost := by
    intro s
    unfold frameLost
    split
    · exact statusNoted_of_view rfl
    · exact statusNoted_checkExpulsion (x := ownFrameEnds s) (statusNoted_of_view rfl)
  have fails : ∀ drive, Notes (ownFrameFails drive) := fun drive s =>
    statusNoted_checkExpulsion (statusNoted_noteStatus (before := s) rfl)
  refine ⟨fun door apart s => ?_, fun active s => ?_, fun high s => ?_, fun s => ?_, fun station s => ?_, fun s => ?_,
    fun s => ?_, fun s => ?_, fun s => ?_, fun s => ?_, fun s => ?_, fun heard s => ?_, fun heard s => ?_, lost⟩
  · refine SameView.noted ⟨?_, ?_, ?_, ?_, ?_, ?_, ?_, ?_⟩
    all_goals simp only [doorRaw]; split <;> simp
  · unfold fogRaw
    dsimp only
    split <;> exact statusNoted_of_view rfl
  · unfold lineRaw restartLineDebounce
    dsimp only
    split <;> exact statusNoted_of_view rfl
  · unfold statusPeriodEnds
    split
    · exact statusNoted_of_view rfl
    · exact statusNoted_of_view (queueKind_sameView _ _).view
  · unfold ageReaches
    split
    · exact statusNoted_of_view (checkExpulsion_sameView _).view
    · exact statusNoted_of_view rfl
  · unfold secondEnds
    split
    · exact statusNoted_of_view rfl
    · exact statusNoted_noteStatus rfl
  · unfold returnTimerEnds queueReturn
    (repeat' split)
    · exact statusNoted_of_view (queueKind_sameView _ _).view
    · exact statusNoted_of_view rfl
    · exact statusNoted_of_view rfl
    · exact statusNoted_of_view rfl
  · unfold muteEnds
    split <;> exact statusNoted_of_view rfl
  · unfold idleWaitEnds queueReturn
    dsimp only
    (repeat' split)
    · exact statusNoted_of_view rfl
    · exact statusNoted_of_view (queueKind_sameView _ _).view
    · exact statusNoted_of_view rfl
    · exact statusNoted_of_view rfl
  · unfold busBecomesIdle
    split <;> exact statusNoted_of_view rfl
  · unfold startOffered startFrame
    (repeat' split)
    · exact statusNoted_of_view rfl
    · exact statusNoted_of_view rfl
    · exact statusNoted_of_view rfl
    · exact statusNoted_of_view rfl
  · show StatusNoted s (answerHeard heard (frameHeard s))
    unfold answerHeard
    (repeat' split) <;> exact statusNoted_of_view rfl
  · unfold ownFrameReadBack
    split
    · exact fails _ s
    · exact fails _ s
    · exact lost s
    · exact statusNoted_of_view rfl
    · exact statusNoted_of_view rfl
    · exact statusNoted_of_view rfl

/-! ## The frames -/

theorem addressed_sameView (own : Option OwnFrame) (address : Nat) (s : State) : SameView s (addressed own address s) := by
  refine ⟨?_, ?_, ?_, ?_, ?_, ?_, ?_, ?_⟩ <;> simp

theorem statusNoted_filtered {s r : State} (view : r.statusView = s.statusView) (own : Option OwnFrame) (address : Nat) :
    StatusNoted s (filteredFrame own address r) := by
  unfold filteredFrame
  dsimp only
  split
  · exact statusNoted_finish view _ _
  · exact statusNoted_checkExpulsion (statusNoted_of_view ((addressed_sameView _ _ r).view.trans view))

theorem completeFrame_noted (codes : Sensors) (address : BitVec 4) (b : Bulletin) (s : State) :
    StatusNoted s (completeFrame codes address b s) := by
  have same : (s.heardFrame codes).statusView = s.statusView := rfl
  by_cases running : s.running = true
  · by_cases passes : s.passes address.toNat b = true
    · rw [completeFrame_of_passes codes address b s running passes]
      exact statusNoted_finish same _ _
    · rw [completeFrame_of_filtered codes address b s running (by simpa using passes)]
      exact statusNoted_filtered same _ _
  · rw [completeFrame_of_not_running (by simpa using running)]
    exact statusNoted_of_view same

theorem statusNoted_of_silent {s t : State} (silent : t.member.state = .undecided ∨ t.member.state = .unconfigured) :
    StatusNoted s t := by
  intro sends _
  obtain h | h := silent <;> simp [State.sendsStatus, h] at sends

theorem readDone_notes (bytes : List Byte) : Notes (readDone bytes) := by
  intro s
  unfold readDone
  (repeat' split)
  · rw [loadSucceeds_eq]; exact statusNoted_finish rfl _ _
  · exact statusNoted_of_silent (.inr rfl)
  · exact statusNoted_of_view rfl

theorem after_noted (c : Instr) {s : State} (phase : PhaseLaw s) : StatusNoted s (s.after c) := by
  obtain ⟨slot, panel, level, long, tail, spill, outdoor, fog, ramp, hold, trim, census, catchUp, settle, ride, qualify,
    line, lease, spacing, period, stage⟩ := timedEvents_note
  obtain ⟨doorRaw, fogRaw, lineRaw, status, silence, second, ret, mute, idleWait, idle, start, heard, back, lost⟩ :=
    quietEvents_note
  cases c with
  | allowance | lapse | expel | join | status | claim | ret | draft | override | cancel | snapshot | query | report
  | unknownKindFrame => exact completeFrame_noted _ _ _ s
  | slotExpiry codes kind => exact ((slot kind).whenRunning (begin codes s)).of_begin
  | panelSilenceExpiry codes => exact (panel.whenRunning (begin codes s)).of_begin
  | doorLevelChange codes door => exact ((level door).whenRunning (begin codes s)).of_begin
  | longOpenExpiry codes door => exact ((long door).whenRunning (begin codes s)).of_begin
  | tailTimerExpiry codes => exact (tail.whenRunning (begin codes s)).of_begin
  | spillTimerExpiry codes station => exact ((spill station).whenRunning (begin codes s)).of_begin
  | outdoorAgeExpiry codes => exact (outdoor.whenRunning (begin codes s)).of_begin
  | fogLevelChange codes => exact (fog.whenRunning (begin codes s)).of_begin
  | rampTimerExpiry codes => exact (ramp.whenRunning (begin codes s)).of_begin
  | holdTimerExpiry codes => exact (hold.whenRunning (begin codes s)).of_begin
  | trimTimerExpiry codes => exact (trim.whenRunning (begin codes s)).of_begin
  | censusTimerExpiry codes => exact (census.whenRunning (begin codes s)).of_begin
  | catchUpTimerExpiry codes => exact (catchUp.whenRunning (begin codes s)).of_begin
  | settleTimerExpiry codes => exact (settle.whenRunning (begin codes s)).of_begin
  | rideThroughExpiry codes => exact (ride.whenRunning (begin codes s)).of_begin
  | qualifyTimerExpiry codes => exact (qualify.whenRunning (begin codes s)).of_begin
  | periodicEvaluation codes => exact (period.whenRunning (begin codes s)).of_begin
  | stageMinimumTimerExpiry codes i => exact ((stage i).whenRunning (begin codes s)).of_begin
  | lineLevelChange codes => exact (line (begin codes s)).of_begin
  | statusPeriodExpiry => exact (status.whenRunning (nextMoment s)).of_nextMoment
  | silenceAgeLimit station => exact ((silence station).whenRunning (nextMoment s)).of_nextMoment
  | leaseTimerExpiry => exact (lease.whenRunning (nextMoment s)).of_nextMoment
  | claimSpacingExpiry => exact (spacing.whenRunning (nextMoment s)).of_nextMoment
  | returnTimerExpiry => exact (ret.whenRunning (nextMoment s)).of_nextMoment
  | statisticsSecond => exact (second.whenRunning (nextMoment s)).of_nextMoment
  | ownFrameVoid bits => exact ((back bits).whenRunning (nextMoment s)).of_nextMoment
  | ownFrameLost => exact (lost.whenRunning (nextMoment s)).of_nextMoment
  | doorRawChange door apart => exact (doorRaw door apart (nextMoment s)).of_nextMoment
  | fogRawChange active => exact (fogRaw active (nextMoment s)).of_nextMoment
  | lineRawChange high => exact (lineRaw high (nextMoment s)).of_nextMoment
  | frameError bits => exact (heard bits (nextMoment s)).of_nextMoment
  | frameStart => exact (start (nextMoment s)).of_nextMoment
  | busIdle => exact (idle (nextMoment s)).of_nextMoment
  | busIdle2ms => exact (idleWait (nextMoment s)).of_nextMoment
  | muteTimerExpiry => exact (mute (nextMoment s)).of_nextMoment
  | startBit => exact statusNoted_of_view rfl
  | powerOnReset => exact statusNoted_of_silent (.inl rfl)
  | externalReset => exact statusNoted_of_silent (.inl rfl)
  | resetRelease straps =>
    show StatusNoted s (resetReleased straps (nextMoment s))
    unfold resetReleased
    split
    · rename_i inReset
      have idle : s.running = false := by
        rw [phase, show s.loader.phase = .inReset from inReset]; rfl
      exact statusNoted_of_idle ((running_of_member (by unfold restartLineDebounce; rfl)).trans idle)
    · exact statusNoted_of_view rfl
  | optionReadDone codes bytes =>
    exact (readDone_notes bytes (begin codes s)).of_begin
  | optionReadFailed =>
    show StatusNoted s (readFails (nextMoment s))
    unfold readFails
    split
    · exact statusNoted_of_silent (.inr rfl)
    · exact statusNoted_of_view rfl

/-! ## The JOIN of another station -/

theorem leaveInStep_asks {s : State} (asks : s.asksAfresh .status) : (leaveInStep s).asksAfresh .status :=
  asksInvariant.same (s := withdrawKind .expel (withdrawKind .lapse (withdrawKind .claim s))) ⟨rfl, rfl, rfl, rfl, rfl⟩
    (asksInvariant.withdraw _ (by decide) (asksInvariant.withdraw _ (by decide) (asksInvariant.withdraw _ (by decide) asks)))

/-- Stepping in and being mismatched both ask for STATUS anew. -/
theorem setMember_asks {m : MemberState} {s : State} (steps : m = .inStep ∨ m = .mismatched)
    (asks : s.asksAfresh .status) : (setMember m s).asksAfresh .status := by
  have left : (if s.member.state = .inStep then leaveInStep s else s).asksAfresh .status := by
    split
    · exact leaveInStep_asks asks
    · exact asks
  unfold setMember
  dsimp only
  generalize (if s.member.state = .inStep then leaveInStep s else s) = w at left
  have placed : ({ w with member := { w.member with state := m } } : State).asksAfresh .status := left
  obtain rfl | rfl := steps
  · exact asksInvariant.enterInStep rfl placed
  · exact asksInvariant.startStatus placed

theorem memberResponse_join_asks {tag : Byte} {c : Course} (asks : c.state.asksAfresh .status) :
    (memberResponse false (.join tag) c).state.asksAfresh .status := by
  have dropped : (dropOwnClaim c).state.asksAfresh .status :=
    asksAfresh_of_bus (s := c.state) (by simp [dropOwnClaim]) (by simp [dropOwnClaim]) asks
  have mismatched : (mismatchResponse c).state.asksAfresh .status := by
    unfold mismatchResponse
    split
    · rw [mapState_state]
      split
      · have withdrawn : (withdrawKind .join (dropOwnClaim c).state).asksAfresh .status :=
          asksInvariant.withdraw .join (by decide) dropped
        exact setMember_asks (.inr rfl) withdrawn
      · exact dropped
    · exact asks
  have synced : (syncHeard (joinResponse false (.join tag) (syncAges (mismatchResponse c).state))).asksAfresh .status :=
    mismatched
  show (catchUpResponse _ _).asksAfresh .status
  unfold catchUpResponse checkCatchUp
  (repeat' split)
  · exact setMember_asks (.inl rfl) synced
  · exact synced
  · exact synced

/-- Who still sends STATUS as before the JOIN of another station asks for it. -/
theorem join_asks {address : Nat} {tag : Byte} {r : State} (foreign : address ≠ r.me) (sends : r.sendsStatus = true) :
    (course address (.join tag) r).state.asksAfresh .status := by
  have notOwn : r.ownFrame address (.join tag) = none := by
    unfold State.ownFrame
    split
    · exact if_neg (fun h => foreign h.1)
    · rfl
  have heardSends : (hearPanel address (addressed none address r)).sendsStatus = true :=
    (sendsStatus_of_member (by simp)).trans sends
  have taken : (takesJoin false address tag (hearPanel address (addressed none address r))).state.asksAfresh .status := by
    unfold takesJoin
    dsimp only
    rw [if_neg (by decide), if_pos heardSends]
    exact queueKind_asksAfresh _ (acceptsRequests_of_sendsStatus ((sendsStatus_of_member (by simp)).trans heardSends))
  have responded := memberResponse_join_asks (tag := tag)
    (c := (takesJoin false address tag (hearPanel address (addressed none address r))).mapState (expelSettled none)) taken
  have shape : (course address (.join tag) r).state = clashResponse false address (memberResponse false (.join tag)
      ((takesJoin false address tag (hearPanel address (addressed none address r))).mapState (expelSettled none))).state := by
    simp only [course, notOwn]
    rfl
  rw [shape]
  unfold clashResponse
  rw [if_neg]
  · exact responded
  · rw [me_of_loader (s := r) (by simp [expelSettled, takesJoin, heardSends])]
    simp [foreign]

/-- The end of every step that leaves a station that sends STATUS. -/
theorem after_asks {c : Instr} {s : State} (phase : PhaseLaw s) (sends : (s.after c).sendsStatus = true)
    (moved : (s.after c).statusView ≠ s.statusView ∨
      ∃ codes address tag, c = .join codes address tag ∧ s.running = true ∧ address.toNat ≠ s.me ∧
        s.passes address.toNat (.join tag) = true) : (s.after c).asksAfresh .status := by
  by_cases same : (s.after c).statusView = s.statusView
  · obtain ⟨codes, address, tag, rfl, running, foreign, passes⟩ := moved.resolve_left (fun h => h same)
    have shape : s.after (.join codes address tag) = completeFrame codes address (.join tag) s := rfl
    rw [shape] at sends same ⊢
    rw [completeFrame_of_passes codes address _ s running passes] at sends same ⊢
    refine asksInvariant.finish _ _ (join_asks foreign ?_)
    rw [sendsStatus_of_member ((statusView_iff _ _).mp same).2.2.2.2.1] at sends
    exact sends
  · exact after_noted c phase sends same

/-! ## The periods and the silence -/

theorem exec_statusPeriodExpiry {s : State} (running : s.running = true) (due : s.member.statusPeriod.isSome = true) :
    exec .statusPeriodExpiry s =
      .next (queueKind .status { nextMoment s with member := { s.member with statusPeriod := none } }) := by
  obtain ⟨n, timer⟩ := Option.isSome_iff_exists.mp due
  refine congrArg Host.Outcome.next ((whenRunning_of statusPeriodEnds (nextMoment s) running).trans ?_)
  have timerN : (nextMoment s).member.statusPeriod = some n := timer
  unfold statusPeriodEnds
  rw [timerN]
  rfl

theorem queueKind_rest (kind : TxKind) (s : State) : { queueKind kind s with bus := s.bus } = s := by
  unfold queueKind
  (repeat' split) <;> rfl

theorem exec_silenceAgeLimit {station : Fin 8} {s : State} (running : s.running = true)
    (due : ∃ a ∈ s.member.ages, a.station = station.val ∧ a.left.isSome = true) :
    exec (.silenceAgeLimit station) s =
      .next (checkExpulsion { nextMoment s with
        member := { s.member with ages := s.member.ages.map (Age.reached station) } }) := by
  refine congrArg Host.Outcome.next ((whenRunning_of (ageReaches station) (nextMoment s) running).trans (if_pos ?_))
  obtain ⟨a, mem, same, runs⟩ := due
  exact List.any_eq_true.mpr ⟨a, mem, by simp [same, runs]⟩

theorem checkExpulsion_rest (s : State) :
    { checkExpulsion s with member := s.member, bus := s.bus } = s := by
  have dropped : { dropSettledExpulsion s with member := s.member, bus := s.bus } = s := by
    unfold dropSettledExpulsion withdrawKind
    (repeat' split) <;> rfl
  unfold checkExpulsion proposeExpulsion queueKind
  (repeat' split) <;> exact dropped

/-- The silent station with the lowest number is proposed for expulsion. -/
theorem checkExpulsion_proposes {s : State} (inStep : s.member.state = .inStep) (quiet : s.member.expulsion = none)
    (unasked : s.hasTx .expel = false) {a : Age} (mem : a ∈ s.member.ages) (silent : a.silent = true) :
    (checkExpulsion s).sending .expel ∧
      ∃ p, (checkExpulsion s).member.expulsion = some p ∧ (∃ a ∈ s.member.ages, a.station = p ∧ a.silent = true) ∧
        ∀ a ∈ s.member.ages, a.silent = true → p ≤ a.station := by
  have kept : dropSettledExpulsion s = s := by
    unfold dropSettledExpulsion
    rw [quiet]
  obtain ⟨p, lowest⟩ : ∃ p, s.lowestSilent = some p := by
    refine Option.isSome_iff_exists.mp ?_
    rw [State.lowestSilent, List.isSome_min?_iff]
    exact List.ne_nil_of_mem (List.mem_map_of_mem (List.mem_filter.mpr ⟨mem, silent⟩))
  obtain ⟨isSilent, least⟩ := List.min?_eq_some_iff.mp lowest
  have proposed : checkExpulsion s =
      queueKind .expel { s with member := { s.member with expulsion := some p } } := by
    unfold checkExpulsion proposeExpulsion
    rw [kept, if_pos (by simp [State.inStep, inStep, unasked]), lowest]
  rw [proposed]
  refine ⟨queueKind_sending _ _ (acceptsRequests_of _ .inStep inStep (by decide)), p, by simp, ?_, fun b bMem bSilent => ?_⟩
  · obtain ⟨b, bMem, same⟩ := List.mem_map.mp isSilent
    obtain ⟨inAges, bSilent⟩ := List.mem_filter.mp bMem
    exact ⟨b, inAges, same, bSilent⟩
  · exact least _ (List.mem_map_of_mem (List.mem_filter.mpr ⟨bMem, bSilent⟩))

/-- Settles O35: the status period, the status noted, and the silence of a station. -/
theorem statusPeriodAndSilence : Obligations.StatusPeriodAndSilence := by
  refine ⟨fun s running due => ?_, statusView_iff, fun c s t phase stepped sends moved => ?_, fun station s running due => ?_⟩
  · have rest := queueKind_rest .status { nextMoment s with member := { s.member with statusPeriod := none } }
    refine ⟨_, exec_statusPeriodExpiry running due, by simp, fun noClash => ?_, ?_⟩
    · exact queueKind_sending _ _ (acceptsRequests_of_running running noClash)
    · exact (congrArg (fun x : State => { x with moment := s.moment, member := s.member }) rest :)
  · obtain rfl : t = s.after c := Host.Outcome.next.inj (stepped.symm.trans (exec_after c s))
    exact after_asks phase ((sendsStatus_iff _).mpr sends) moved
  · have next := exec_silenceAgeLimit running due
    have rest := checkExpulsion_rest { nextMoment s with
      member := { s.member with ages := s.member.ages.map (Age.reached station) } }
    have ages : ∀ x : State, (checkExpulsion x).member.ages = x.member.ages := fun x => by simp
    have reached : ∀ a, Age.reached station.val a = if a.station = station.val then { a with left := none } else a := by
      intro a; rfl
    refine ⟨_, next, ?_, fun inStep quiet unasked => ?_, ?_⟩
    · rw [ages]; exact List.map_congr_left fun a _ => reached a
    · obtain ⟨a, mem, same, _⟩ := due
      have silent : (Age.reached station.val a).silent = true := by rw [reached, if_pos same]; rfl
      obtain ⟨asks, p, proposed, isSilent, least⟩ := checkExpulsion_proposes (s := { nextMoment s with
        member := { s.member with ages := s.member.ages.map (Age.reached station) } }) inStep quiet unasked
        (List.mem_map_of_mem mem) silent
      refine ⟨asks, p, proposed, ?_, fun b bMem bSilent => ?_⟩
      · obtain ⟨b, bMem, bStation, bSilent⟩ := isSilent
        exact ⟨b, by rw [ages]; exact bMem, bStation, (silent_iff b).mp bSilent⟩
      · rw [ages] at bMem
        exact least b bMem ((silent_iff b).mpr bSilent)
    · exact (congrArg (fun x : State => { x with moment := s.moment, member := s.member }) rest :)

end Sys2Proof.Machine
end

section
/-! A frame that passes the filter: the state it is taken in, what the taking hands on, and the evaluation behind it. -/

namespace Sys2Proof.Machine

/-! ## The state a frame is taken in, and its course -/

/-- The state a frame is taken in: its own frame closed, the sender's age reset, the panel heard. -/
def State.opened (s : State) (codes : Sensors) (address : BitVec 4) (b : Bulletin) : State :=
  hearPanel address.toNat (addressed (s.ownFrame address.toNat b) address.toNat (s.heardFrame codes))

/-- The taking of a frame heard as it was sent. -/
def State.taking (s : State) (codes : Sensors) (address : BitVec 4) (b : Bulletin) : Course :=
  takeBulletin (s.ownFrame address.toNat b).isSome address.toNat b (s.opened codes address b)

/-- All that a frame does before the evaluation. -/
def State.coursed (s : State) (codes : Sensors) (address : BitVec 4) (b : Bulletin) : Course :=
  course address.toNat b (s.heardFrame codes)

@[simp] theorem opened_frame (s : State) (codes : Sensors) (address : BitVec 4) (b : Bulletin) :
    (s.opened codes address b).loader = s.loader ∧ (s.opened codes address b).table = s.table ∧
      (s.opened codes address b).share = s.share ∧ (s.opened codes address b).supply = s.supply ∧
      (s.opened codes address b).zone = s.zone ∧ (s.opened codes address b).doors = s.doors ∧
      (s.opened codes address b).defrost = s.defrost ∧ (s.opened codes address b).member.state = s.member.state ∧
      (s.opened codes address b).stats = s.stats ∧ (s.opened codes address b).pins = { s.pins with sensors := codes } ∧
      (s.opened codes address b).moment = s.moment + 1 := by
  have member : (s.opened codes address b).member.state = s.member.state := by
    unfold State.opened; rw [(hearPanel_frame _ _).2.2.2.2.2.2.2.2.2.2.1, addressed_member_state]; rfl
  rw [member]
  unfold State.opened
  simp only [hearPanel_frame, addressed_frame]
  exact ⟨rfl, rfl, rfl, rfl, rfl, rfl, rfl, trivial, rfl, rfl, rfl⟩

theorem opened_me (s : State) (codes : Sensors) (address : BitVec 4) (b : Bulletin) :
    (s.opened codes address b).me = s.me := me_of_loader (by simp)

theorem opened_overrides (s : State) (codes : Sensors) (address : BitVec 4) (b : Bulletin) :
    (s.opened codes address b).overrides =
      if address.toNat = 8 then { s.overrides with panelSilence := some 30000 } else s.overrides := by
  have heard : (addressed (s.ownFrame address.toNat b) address.toNat (s.heardFrame codes)).overrides = s.overrides := by
    simp
  unfold State.opened hearPanel
  rw [← heard]
  split
  · rfl
  · rfl

section
variable {codes : Sensors} {address : BitVec 4} {b : Bulletin} {s : State}

@[simp] theorem catchUpResponse_flags (before : MemberState) (x : State) :
    (catchUpResponse before x).stats.flags = x.stats.flags := by
  unfold catchUpResponse; split <;> simp

theorem coursed_eq (hears : s.hears address b) :
    s.coursed codes address b =
      ((memberResponse (s.ownFrame address.toNat b).isSome b
        ((s.taking codes address b).mapState (expelSettled (s.ownFrame address.toNat b)))).mapState
        (clashResponse (s.ownFrame address.toNat b).isSome address.toNat)) := by
  have heard : takenBulletin ((s.heardFrame codes).ownFrame address.toNat b) b = b :=
    takenBulletin_of_hears address b (s.heardFrame codes) hears
  unfold State.coursed course
  dsimp only
  rw [heard]
  rfl

/-- Behind the taking, shares, doors and slots stand. -/
theorem coursed_blocks (hears : s.hears address b) :
    (s.coursed codes address b).state.share = (s.taking codes address b).state.share ∧
      (s.coursed codes address b).state.doors = (s.taking codes address b).state.doors ∧
      (s.coursed codes address b).state.overrides = (s.taking codes address b).state.overrides := by
  rw [coursed_eq hears]
  simp

/-- A taking that finds no other table tag: its flags are the event's; statistics and table stand behind it. -/
theorem coursed_of_matched (hears : s.hears address b) (matched : (s.taking codes address b).mismatch = false) :
    (s.coursed codes address b).ev = (s.taking codes address b).ev ∧
      (s.coursed codes address b).state.stats.counters = (s.taking codes address b).state.stats.counters ∧
      (s.coursed codes address b).state.stats.flags = (s.taking codes address b).state.stats.flags ∧
      (s.coursed codes address b).state.stats.snapshot = (s.taking codes address b).state.stats.snapshot ∧
      (s.coursed codes address b).state.table = (s.taking codes address b).state.table := by
  have plain := mismatchResponse_of_none ((s.taking codes address b).mapState (expelSettled (s.ownFrame address.toNat b)))
    matched
  rw [coursed_eq hears, memberResponse, plain]
  simp

theorem exec_taking {c : Instr} (frame : frameOf c = some (codes, address, b)) (running : s.running = true)
    (passes : s.passes address.toNat b = true) :
    exec c s =
      .next (finishRunning (s.coursed codes address b).ev (s.heardFrame codes) (s.coursed codes address b).state) := by
  rw [exec_of_frameOf frame, completeFrame_of_passes codes address b s running passes]
  exact congrArg Host.Outcome.next (finish_of_running (running_course address.toNat b (s := s.heardFrame codes) running) _ _)

/-! ## The evaluation behind a taking -/

/-- What any taking leaves as the frame found it. -/
structure TakenFrom (codes : Sensors) (s u : State) : Prop where
  running : u.running = true
  loader : u.loader = s.loader
  supply : u.supply = s.supply
  sensors : u.pins.sensors = codes
  zone : s.zone.sameButSetpoint u.zone

theorem takenFrom_coursed (codes : Sensors) (address : BitVec 4) (b : Bulletin) (running : s.running = true) :
    TakenFrom codes s (s.coursed codes address b).state where
  running := running_course address.toNat b (s := s.heardFrame codes) running
  loader := by unfold State.coursed; simp
  supply := by unfold State.coursed; simp
  sensors := by unfold State.coursed; simp; rfl
  zone := (course_frame address.toNat b (s.heardFrame codes)).2.2.2.2.2

theorem Zone.sameButSetpoint.parts {z w : Zone} (same : z.sameButSetpoint w) :
    w.stages = z.stages ∧ w.air0 = z.air0 ∧ w.air1 = z.air1 ∧ w.air2 = z.air2 := by
  unfold Zone.sameButSetpoint at same
  rw [← same]
  exact ⟨rfl, rfl, rfl, rfl⟩

variable {ev : Ev} {u t : State} {share : ShareUnit}

theorem standsFor_taken (taken : TakenFrom codes s u) (ended : finishRunning ev (s.heardFrame codes) u = t)
    (shared : u.share = share) : StandsFor (s.takenInto t share) (u.served ev (s.heardFrame codes)) := by
  refine standsFor_served taken.loader.symm ?_ taken.supply.symm ?_ ?_ ?_ ?_ shared.symm taken.zone.parts.1.symm ?_
  · rw [takenInto_table, ← ended]; simp
  · rw [takenInto_doors, ← ended]; simp
  · rw [takenInto_overrides, ← ended]; simp
  · rw [takenInto_member, ← ended]; simp
  · rw [takenInto_defrost, ended]
  · rw [← flight_finishRunning ev (s.heardFrame codes) u, ended]
    exact flight_of_bus (takenInto_inFlight s t share)

/-- Behind a taking that calls for it, the zone is evaluated: measured, shares decided, stages regulated. -/
theorem zoneEvaluated_of_taken (taken : TakenFrom codes s u) (ended : finishRunning ev (s.heardFrame codes) u = t)
    (shared : u.share = share) (raise : RaiseSeen ev s (s.takenInto t share)) (event : ev.periodic = false)
    (called : evaluates ev (s.heardFrame codes) (settle (u.served ev (s.heardFrame codes))) = true) :
    ZoneEvaluated codes s (s.takenInto t share) t := by
  have stands := standsFor_taken taken ended shared
  obtain ⟨_, air0, air1, air2⟩ := taken.zone.parts
  have sensors := evaluated_sensors called
  rw [event, air0, air1, air2, taken.sensors] at sensors
  subst ended
  refine ⟨sensors, zoneMeasured_of_called taken.sensors called, ?_, stagesRegulated_of_called taken.running stands called⟩
  exact shareDecided_of_called taken.running stands (.inl called) rfl rfl raise

theorem shareDecided_of_taken (taken : TakenFrom codes s u) (ended : finishRunning ev (s.heardFrame codes) u = t)
    (shared : u.share = share) (raise : RaiseSeen ev s (s.takenInto t share))
    (called : evaluates ev (s.heardFrame codes) (settle (u.served ev (s.heardFrame codes))) = true ∨
      evaluatesShare ev (s.heardFrame codes) (settle (u.served ev (s.heardFrame codes))) = true) :
    ShareDecided (s.takenInto t share) t := by
  have stands := standsFor_taken taken ended shared
  subst ended
  exact shareDecided_of_called taken.running stands called rfl rfl raise

/-- A taking evaluates what the figures that it changed call for. -/
theorem takingEvaluated_of_taken (taken : TakenFrom codes s u) (ended : finishRunning ev (s.heardFrame codes) u = t)
    (shared : u.share = share) (raise : RaiseSeen ev s (s.takenInto t share)) (event : ev.periodic = false) :
    TakingEvaluated codes s (s.takenInto t share) t := by
  have begun : SameFigures s (s.heardFrame codes) := ⟨rfl, rfl, rfl, rfl, rfl, rfl, rfl, rfl⟩
  have settled : SameFigures (settle (u.served ev (s.heardFrame codes))) t := ended ▸ sameFigures_settled ev _ u
  refine ⟨fun zone => ?_, fun shares => ?_⟩
  · exact zoneEvaluated_of_taken taken ended shared raise event
      (evaluates_of_called ((evaluationCalled_congr begun settled).mp zone) ev)
  · exact shareDecided_of_taken taken ended shared raise
      (.inr (evaluatesShare_of_called ((shareEvaluationCalled_congr begun settled).mp shares) ev))

/-! ## A frame that is taken, from its command to the end of it -/

theorem takeBulletin_notPeriodic (own : Bool) (sender : Nat) (b : Bulletin) (x : State) :
    (takeBulletin own sender b x).ev.periodic = false := by
  cases b with
  | allowance => simp only [takeBulletin, takesAllowance]; split <;> rfl
  | lapse => simp only [takeBulletin, takesLapse]; split <;> rfl
  | expel => simp only [takeBulletin, takesExpel]; split <;> rfl
  | join => simp only [takeBulletin, takesJoin]; (repeat' split) <;> rfl
  | status => simp only [takeBulletin, takesStatus]; split <;> rfl
  | claim => simp only [takeBulletin, takesClaim]; split <;> rfl
  | ret => simp only [takeBulletin, takesReturn]; split <;> rfl
  | draft => simp only [takeBulletin, takesDraft]; split <;> rfl
  | report => simp only [takeBulletin]; split <;> rfl
  | override | cancel | snapshot | query | unknown => rfl

theorem coursed_notPeriodic (hears : s.hears address b) : (s.coursed codes address b).ev.periodic = false := by
  have taken : (s.taking codes address b).ev.periodic = false := takeBulletin_notPeriodic _ _ _ _
  rw [coursed_eq hears]
  unfold memberResponse mismatchResponse
  split
  · exact taken
  · exact taken

/-- `t` is the end of the command that takes the frame. -/
structure FrameTaken (codes : Sensors) (address : BitVec 4) (b : Bulletin) (s t : State) : Prop where
  ended : finishRunning (s.coursed codes address b).ev (s.heardFrame codes) (s.coursed codes address b).state = t
  supply : t.supply = s.supply
  doors : t.doors = (s.taking codes address b).state.doors
  overrides : t.overrides = (s.taking codes address b).state.overrides
  table : t.table = (s.coursed codes address b).state.table
  stats : t.stats = (s.coursed codes address b).state.stats
  evaluated : ∀ share, (s.taking codes address b).state.share = share →
    RaiseSeen (s.coursed codes address b).ev s (s.takenInto t share) → TakingEvaluated codes s (s.takenInto t share) t

theorem frame_taken {c : Instr} (frame : frameOf c = some (codes, address, b)) (running : s.running = true)
    (passes : s.passes address.toNat b = true) (hears : s.hears address b) :
    ∃ t, exec c s = .next t ∧ FrameTaken codes address b s t := by
  obtain ⟨shared, doors, overrides⟩ := coursed_blocks (codes := codes) hears
  have taken := takenFrom_coursed codes address b running
  refine ⟨_, exec_taking frame running passes, rfl, ?_, ?_, ?_, ?_, ?_, fun share same raise => ?_⟩
  · simp [taken.supply]
  · simp [doors]
  · simp [overrides]
  · simp
  · simp
  · exact takingEvaluated_of_taken taken rfl (shared.trans same) raise (coursed_notPeriodic hears)

end

end Sys2Proof.Machine
end

section
/-! Settles O21: a REPORT on the bus. -/

namespace Sys2Proof.Machine

/-! ## The membership unit's response to a plain taking -/

theorem clashResponse_of_calm {own : Bool} {address : Nat} {x : State}
    (calm : own = true ∨ address ≠ x.me ∨ x.member.state = .clash) : clashResponse own address x = x := by
  unfold clashResponse
  rw [if_neg]
  simp only [Bool.and_eq_true, Bool.not_eq_true', beq_iff_eq, bne_iff_ne, not_and, Decidable.not_not]
  rintro ⟨foreign, own⟩
  obtain h | h | h := calm
  · rw [foreign] at h; cases h
  · exact absurd own h
  · exact h

/-- Entering step without having been in it asks for STATUS and LAPSE only and leaves the statistics. -/
theorem catchUpResponse_stats_eq {m : MemberState} {x : State} (unstepped : x.member.state ≠ .inStep) :
    (catchUpResponse m x).stats = x.stats := by
  unfold catchUpResponse checkCatchUp
  (repeat' split)
  · simp [setMember, unstepped, entered]
  · rfl
  · rfl

theorem hasTx_startStatus {kind : TxKind} (other : kind ≠ .status) (x : State) :
    (startStatus x).hasTx kind = x.hasTx kind := hasTx_queueKind_other other.symm _

theorem hasTx_enterInStep {kind : TxKind} (status : kind ≠ .status) (lapse : kind ≠ .lapse) (x : State) :
    (enterInStep x).hasTx kind = x.hasTx kind := by
  unfold enterInStep
  split
  · rw [hasTx_queueKind_other lapse.symm, hasTx_startStatus status]
  · exact hasTx_startStatus status x

theorem hasTx_setMember_inStep {kind : TxKind} (status : kind ≠ .status) (lapse : kind ≠ .lapse) {x : State}
    (unstepped : x.member.state ≠ .inStep) : (setMember .inStep x).hasTx kind = x.hasTx kind := by
  unfold setMember entered
  rw [if_neg unstepped]
  exact hasTx_enterInStep status lapse _

theorem hasTx_catchUpResponse {kind : TxKind} (status : kind ≠ .status) (lapse : kind ≠ .lapse) {m : MemberState} {x : State}
    (unstepped : x.member.state ≠ .inStep) : (catchUpResponse m x).hasTx kind = x.hasTx kind := by
  unfold catchUpResponse checkCatchUp
  (repeat' split)
  · exact hasTx_setMember_inStep (x := { x with member := { x.member with catchUp := none } }) status lapse unstepped
  · rfl
  · rfl

theorem catchUpResponse_of_other {m : MemberState} (other : m ≠ .catchingUp) (x : State) : catchUpResponse m x = x := by
  unfold catchUpResponse; rw [if_neg other]

/-- Where a station catches up, it is not in step; else nothing is done: the statistics stand. -/
theorem catchUpResponse_stats_self (x : State) : (catchUpResponse x.member.state x).stats = x.stats := by
  by_cases catching : x.member.state = .catchingUp
  · exact catchUpResponse_stats_eq (by simp [catching])
  · rw [catchUpResponse_of_other catching]

theorem hasTx_catchUpResponse_self {kind : TxKind} (status : kind ≠ .status) (lapse : kind ≠ .lapse) (x : State) :
    (catchUpResponse x.member.state x).hasTx kind = x.hasTx kind := by
  by_cases catching : x.member.state = .catchingUp
  · exact hasTx_catchUpResponse status lapse (by simp [catching])
  · rw [catchUpResponse_of_other catching]

section
variable {codes : Sensors} {address : BitVec 4} {b : Bulletin} {s : State}

/-- Bulletins that ask the membership unit for nothing of their own. -/
def Bulletin.plain (b : Bulletin) : Prop := (∀ tag, b ≠ .join tag) ∧ ∀ station, b ≠ .expel station

theorem joinResponse_of_plain (plain : b.plain) (own : Bool) (x : State) : joinResponse own b x = x := by
  cases b with
  | join tag => exact absurd rfl (plain.1 tag)
  | expel station => exact absurd rfl (plain.2 station)
  | allowance | lapse | status | claim | ret | draft | override | cancel | snapshot | query | report | unknown => rfl

/-- No frame of another station on the own address. -/
def State.calm (s : State) (address : BitVec 4) (b : Bulletin) : Prop :=
  address.toNat ≠ s.me ∨ s.member.state = .clash ∨ (s.ownFrame address.toNat b).isSome = true

theorem taking_frame (codes : Sensors) (address : BitVec 4) (b : Bulletin) (s : State) :
    (s.taking codes address b).state.loader = s.loader ∧
      (s.taking codes address b).state.member.state = s.member.state := by
  unfold State.taking
  simp

theorem catchUpResponse_clash {x : State} (clash : x.member.state = .clash) (m : MemberState) :
    (catchUpResponse m x).member.state = .clash := by
  unfold catchUpResponse checkCatchUp
  (repeat' split)
  · rename_i catches; rw [clash] at catches; simp at catches
  · exact clash
  · exact clash

/-- Behind a plain taking without mismatch and without clash the station may enter step, no more. -/
theorem coursed_calm (hears : s.hears address b) (calm : s.calm address b)
    (matched : (s.taking codes address b).mismatch = false) (plain : b.plain) :
    (s.coursed codes address b).state =
      catchUpResponse (expelSettled (s.ownFrame address.toNat b) (s.taking codes address b).state).member.state
        (syncHeard (syncAges (expelSettled (s.ownFrame address.toNat b) (s.taking codes address b).state))) := by
  have unmoved := mismatchResponse_of_none ((s.taking codes address b).mapState (expelSettled (s.ownFrame address.toNat b)))
    matched
  obtain ⟨loader, member⟩ := taking_frame codes address b s
  rw [coursed_eq hears, memberResponse, unmoved]
  simp only [mapState_state, joinResponse_of_plain plain]
  refine clashResponse_of_calm ?_
  obtain other | clash | own := calm
  · refine .inr (.inl ?_)
    rw [me_of_loader (s := s)]
    · exact other
    · simp [loader]
  · refine .inr (.inr (catchUpResponse_clash ?_ _))
    exact (expelSettled_member_state _ _).trans (member.trans clash)
  · exact .inl own

theorem coursed_calm_stats (hears : s.hears address b) (calm : s.calm address b)
    (matched : (s.taking codes address b).mismatch = false) (plain : b.plain) :
    (s.coursed codes address b).state.stats = (s.taking codes address b).state.stats := by
  rw [coursed_calm hears calm matched plain]
  exact (catchUpResponse_stats_self (syncHeard (syncAges (expelSettled _ (s.taking codes address b).state)))).trans (by simp)

theorem coursed_calm_hasTx {kind : TxKind} (status : kind ≠ .status) (lapse : kind ≠ .lapse) (hears : s.hears address b)
    (calm : s.calm address b) (matched : (s.taking codes address b).mismatch = false) (plain : b.plain) :
    (s.coursed codes address b).state.hasTx kind = (s.taking codes address b).state.hasTx kind := by
  rw [coursed_calm hears calm matched plain]
  refine (hasTx_catchUpResponse_self status lapse
    (syncHeard (syncAges (expelSettled _ (s.taking codes address b).state)))).trans (hasTx_of_queue ?_ kind)
  simp

/-- A request stands where the station enters step from catching up. -/
theorem catchUpResponse_self_keeps {kind : TxKind} {x : State} (sends : x.sending kind) :
    (catchUpResponse x.member.state x).sending kind := by
  by_cases catching : x.member.state = .catchingUp
  · unfold catchUpResponse checkCatchUp
    rw [if_pos catching]
    split
    · unfold setMember entered enterInStep startStatus
      rw [if_neg (by simp [catching])]
      dsimp only
      split
      · exact queueKind_keeps _ _ _ (queueKind_keeps _ _ _ sends)
      · exact queueKind_keeps _ _ _ sends
    · exact sends
  · rw [catchUpResponse_of_other catching]; exact sends

theorem coursed_calm_keeps {kind : TxKind} (hears : s.hears address b) (calm : s.calm address b)
    (matched : (s.taking codes address b).mismatch = false) (plain : b.plain)
    (sends : (s.taking codes address b).state.sending kind) : (s.coursed codes address b).state.sending kind := by
  rw [coursed_calm hears calm matched plain]
  refine catchUpResponse_self_keeps (x := syncHeard (syncAges (expelSettled _ (s.taking codes address b).state))) ?_
  exact sending_of_bus_eq (by simp) sends

end

/-! ## The own report's completion -/

/-- The queue behind a report whose request goes on to the next part. -/
theorem reportCompleted_asks {x : State} {f : ReportInFlight} (flying : x.stats.inFlight = some f)
    (current : f.replaced = false) (asked : x.stats.request = some f.request) (item : f.request.item = .snapshot)
    (part : f.part = 1 ∨ f.part = 2) : ∃ st, reportCompleted x = queueKind .report { x with stats := st } := by
  unfold reportCompleted ReportInFlight.nextPart
  simp only [flying]
  rw [if_neg (by simp [current, asked]), if_pos ⟨item, part⟩]
  exact ⟨_, rfl⟩

theorem clearedBy_flags (f : ReportInFlight) (st : Stats) :
    (st.clearedBy f).flags =
      if f.request.clear = true ∧ f.request.item = .page0 then { st.flags with half0 := f.since.half0, full0 := f.since.full0 }
      else if f.request.clear = true ∧ f.request.item = .page1 then
        { st.flags with half1 := f.since.half1, full1 := f.since.full1 }
      else if f.request.clear = true ∧ f.request.item = .zone then { st.flags with rampTimeout := f.since.rampTimeout }
      else st.flags := by
  unfold Stats.clearedBy
  cases f.request.clear <;> cases f.request.item <;> rfl

theorem clearedBy_counters_eq (f : ReportInFlight) (st : Stats) :
    (st.clearedBy f).counters =
      if f.request.clear = true ∧ f.request.item = .page0 then st.counters.clearedPage0 f.counters
      else if f.request.clear = true ∧ f.request.item = .page1 then st.counters.clearedPage1 f.counters
      else st.counters := by
  unfold Stats.clearedBy
  cases f.request.clear <;> cases f.request.item <;> rfl

theorem reportCompleted_request {x : State} {f : ReportInFlight} (flying : x.stats.inFlight = some f) :
    (reportCompleted x).stats.inFlight = none ∧ (reportCompleted x).stats.flags = (x.stats.clearedBy f).flags ∧
      (reportCompleted x).stats.request =
        if f.replaced = true ∨ x.stats.request ≠ some f.request then x.stats.request
        else if f.request.item = .snapshot ∧ (f.part = 1 ∨ f.part = 2) then some { f.request with part := f.part + 1 }
        else none := by
  have request : ((x.stats.clearedBy f).partDone f).request = x.stats.request := by
    unfold Stats.partDone Stats.clearedBy; (repeat' split) <;> rfl
  have flags : ((x.stats.clearedBy f).partDone f).flags = (x.stats.clearedBy f).flags := by
    unfold Stats.partDone; split <;> rfl
  unfold reportCompleted ReportInFlight.nextPart
  simp only [flying]
  by_cases replaced : f.replaced = true ∨ x.stats.request ≠ some f.request
  · have same : (f.replaced || x.stats.request != some f.request) = true := by simpa using replaced
    rw [if_pos same, if_pos replaced]
    exact ⟨rfl, flags, request⟩
  · have other : ¬(f.replaced || x.stats.request != some f.request) = true := by simpa using replaced
    rw [if_neg other, if_neg replaced]
    by_cases goesOn : f.request.item = .snapshot ∧ (f.part = 1 ∨ f.part = 2)
    · simp only [if_pos goesOn, queueKind_frame]
      exact ⟨trivial, flags, trivial⟩
    · simp only [if_neg goesOn]
      exact ⟨trivial, flags, trivial⟩

theorem opened_grounded {codes : Sensors} {address : BitVec 4} {b : Bulletin} {s : State}
    (own : (s.ownFrame address.toNat b).isSome = true) : (s.opened codes address b).bus.inFlight = none := by
  obtain ⟨f, eq⟩ := Option.isSome_iff_exists.mp own
  unfold State.opened
  rw [eq]
  simp [addressed, closeOwnFrame, ownFrameCompleted, resetAge]

theorem taking_report (codes : Sensors) (address : BitVec 4) (data : List Byte) (s : State) :
    s.taking codes address (.report data) =
      .plain (if (s.ownFrame address.toNat (.report data)).isSome = true then
        reportCompleted (s.opened codes address (.report data)) else s.opened codes address (.report data)) := by
  show (if _ then _ else _) = _
  split
  · rfl
  · rfl

/-- Settles O21: a report heard changes nothing; the own one ends a part of its request. -/
theorem reportTaken : Obligations.ReportTaken := by
  intro codes address data s running passes hears
  have taken := taking_report codes address data s
  have matched : (s.taking codes address (.report data)).mismatch = false := by rw [taken]; rfl
  have blocks : (s.taking codes address (.report data)).state.table = s.table ∧
      (s.taking codes address (.report data)).state.share = s.share ∧
      (s.taking codes address (.report data)).state.doors = s.doors ∧
      (s.taking codes address (.report data)).state.overrides = (s.opened codes address (.report data)).overrides := by
    rw [taken, plain_state]
    split <;> simp
  obtain ⟨tableTaken, shareTaken, doorsTaken, slotsTaken⟩ := blocks
  obtain ⟨share, doors, overrides⟩ := coursed_blocks (codes := codes) hears
  obtain ⟨event, counters, flags, snapshot, table⟩ := coursed_of_matched hears matched
  have station : address.toNat ≠ 8 := by
    simp only [State.passes, Bool.and_eq_true, decide_eq_true_eq] at passes
    omega
  refine ⟨_, exec_taking rfl running passes, ?_, ?_, ?_, ?_, ?_, fun foreign => ?_, fun f own flying => ?_⟩
  · simpa using table.trans tableTaken
  · simpa using (takenFrom_coursed codes address (.report data) running).supply
  · simpa using doors.trans doorsTaken
  · simp only [finishRunning_frame]
    rw [overrides, slotsTaken, opened_overrides, if_neg station]
  · exact takingEvaluated_of_taken (takenFrom_coursed codes address _ running) rfl (share.trans shareTaken) (.inr rfl)
      (by rw [event, taken]; rfl)
  · have kept : (s.taking codes address (.report data)).state.stats = s.stats := by
      rw [taken, foreign]
      simp
    simp only [finishRunning_frame]
    rw [counters, snapshot, flags, kept]
    exact ⟨rfl, rfl, rfl⟩
  · have plain : (Bulletin.report data).plain := ⟨nofun, nofun⟩
    have stats := coursed_calm_stats hears (.inr (.inr own)) matched plain
    have queued := coursed_calm_hasTx (kind := .report) (by decide) (by decide) hears (.inr (.inr own)) matched plain
    rw [taken, if_pos own, plain_state] at stats queued
    have begun : (s.opened codes address (.report data)).stats = s.stats := by simp
    have inFlight : (s.opened codes address (.report data)).stats.inFlight = some f := by rw [begun, flying]
    obtain ⟨flown, noted, request⟩ := reportCompleted_request inFlight
    obtain ⟨counted, picture⟩ := reportCompleted_stats inFlight
    simp only [finishRunning_frame]
    rw [stats]
    refine ⟨flown, ?_, ?_, ?_, ?_, fun current asked item part noClash => ?_⟩
    · rw [counted, partDone_counters, clearedBy_counters_eq, begun]; rfl
    · rw [noted, clearedBy_flags, begun]
    · obtain ⟨released, kept⟩ := partDone_snapshot f ((s.opened codes address (.report data)).stats.clearedBy f)
      rw [picture]
      by_cases last : f.request.item = .snapshot ∧ f.part = 3
      · rw [released last, if_pos last]
      · rw [kept last, if_neg last, clearedBy_snapshot, begun]
    · rw [request, begun]
    · obtain ⟨st, asks⟩ := reportCompleted_asks inFlight current (begun ▸ asked) item part
      have accepts : ({ s.opened codes address (.report data) with stats := st } : State).acceptsRequests = true :=
        acceptsRequests_of_running ((running_of_member (by simp)).trans running) (by simpa using noClash)
      have grounded := opened_grounded (codes := codes) own
      have runs := (takenFrom_coursed codes address (.report data) running).running
      rw [← finish_of_running runs, hasTx_finish (by decide), queued, asks]
      refine (queueKind_sending .report _ accepts).resolve_right ?_
      rw [flying_queueKind]
      simp [State.flying, grounded]

end Sys2Proof.Machine
end

section
/-! Settles O17 and O20: DRAFT, SNAPSHOT and QUERY. -/

namespace Sys2Proof.Machine

/-! ## Frames of the panel and of the roof -/

theorem me_lt (s : State) : s.me < 8 := s.loader.strap.isLt

section
variable {codes : Sensors} {address : BitVec 4} {b : Bulletin} {s : State}

/-- A station sends from its own address, which is below 8. -/
theorem ownFrame_of_panel (panel : 8 ≤ address.toNat) : s.ownFrame address.toNat b = none := by
  have below := me_lt s
  unfold State.ownFrame
  split
  · rw [if_neg (fun own => by omega)]
  · rfl

theorem hears_of_foreign (foreign : s.ownFrame address.toNat b = none) : s.hears address b := by
  unfold State.hears; rw [foreign]; rfl

theorem calm_of_panel (panel : 8 ≤ address.toNat) : s.calm address b := by
  have below := me_lt s
  exact .inl (by omega)

theorem station_of_passes (sent : b.txKind.isSome = true) (passes : s.passes address.toNat b = true) : address.toNat ≤ 7 := by
  cases b with
  | allowance | override | cancel | snapshot | query | unknown => cases sent
  | lapse | expel | join | status | claim | ret | draft | report =>
    simp only [State.passes, Bool.and_eq_true, decide_eq_true_eq] at passes
    exact passes.1

/-- A frame that is not the panel's leaves the slots as they are. -/
theorem opened_overrides_of_station (station : address.toNat ≤ 7) : (s.opened codes address b).overrides = s.overrides := by
  rw [opened_overrides, if_neg (by omega)]

theorem stationLoad_of_state {x y : State} (member : y.member.state = x.member.state) (loader : y.loader = x.loader)
    (table : y.table = x.table) (share : y.share = x.share) (supply : y.supply = x.supply) (zone : y.zone = x.zone)
    (defrost : y.defrost = x.defrost) :
    y.stationLoad = x.stationLoad ∧ y.spendable = x.spendable := by
  simp only [State.stationLoad, State.airLoad, State.defrostLoad, State.loadsAllowed, State.live, State.running,
    State.request, State.isCab, State.entry, State.spendable, State.borrowedCounts, State.inStep, State.usable,
    State.ownRow, State.me, member, loader, table, share, supply, zone, defrost]
  exact ⟨rfl, rfl⟩

theorem opened_zoneRecord (codes : Sensors) (address : BitVec 4) (b : Bulletin) (s : State) :
    (s.opened codes address b).zoneRecord = s.zoneRecord := by
  have slots := opened_overrides s codes address b
  obtain ⟨loader, table, share, supply, zone, doors, defrost, member, _⟩ := opened_frame s codes address b
  obtain ⟨load, spendable⟩ := stationLoad_of_state member loader table share supply zone defrost
  have same : SameFigures { s with overrides := (s.opened codes address b).overrides } (s.opened codes address b) :=
    ⟨loader, table, supply, doors, defrost, rfl, member, by rw [zone]⟩
  have boost : (s.opened codes address b).boost = s.boost := same.boost
  have factor : (s.opened codes address b).factor = s.factor := same.factor
  have usable : (s.opened codes address b).usable = s.usable := same.usable
  have spill : (s.opened codes address b).spillFigure = s.spillFigure := same.spillFigure
  unfold State.zoneRecord
  rw [slots, zone, doors, share, supply, defrost, boost, factor, usable, spill, load, spendable]
  split <;> rfl

/-! ## SNAPSHOT -/

theorem takeSnapshot_stats (x : State) :
    (takeSnapshot x).stats.snapshot = some (x.stats.snapshot.getD { record := x.zoneRecord, counters := x.stats.counters }) ∧
      (takeSnapshot x).stats.counters = x.stats.counters := by
  unfold takeSnapshot
  split
  · rename_i p latched; rw [latched]; exact ⟨rfl, rfl⟩
  · rename_i empty; rw [empty]; exact ⟨rfl, rfl⟩

/-- SNAPSHOT latches the picture unless one is latched. -/
theorem snapshotTaken (codes : Sensors) (address : BitVec 4) (s : State) (running : s.running = true)
    (panel : 8 ≤ address.toNat) :
    ∃ t, exec (.snapshot codes address) s = .next t ∧
      t.stats.snapshot = some (s.stats.snapshot.getD { record := s.zoneRecord, counters := s.stats.counters }) ∧
      t.stats.counters = s.stats.counters ∧ TakingEvaluated codes s (s.takenInto t s.share) t ∧ t.table = s.table := by
  have hears : s.hears address .snapshot := hears_of_foreign (ownFrame_of_panel panel)
  have taken : s.taking codes address .snapshot = .plain (takeSnapshot (s.opened codes address .snapshot)) := rfl
  obtain ⟨event, counters, _, snapshot, table⟩ := coursed_of_matched (codes := codes) hears rfl
  obtain ⟨latched, counted⟩ := takeSnapshot_stats (s.opened codes address .snapshot)
  have begun : (s.opened codes address .snapshot).stats = s.stats := by simp
  refine ⟨_, exec_taking rfl running (by simpa [State.passes] using panel), ?_, ?_, ?_, ?_⟩
  · simp only [finishRunning_frame]
    rw [snapshot, taken, plain_state, latched, begun, opened_zoneRecord]
  · simp only [finishRunning_frame]
    rw [counters, taken, plain_state, counted, begun]
  · exact takingEvaluated_of_taken (takenFrom_coursed codes address _ running) rfl
      ((coursed_blocks hears).1.trans (by rw [taken]; simp)) (.inr rfl) (by rw [event]; rfl)
  · simp only [finishRunning_frame]
    rw [table, taken]
    simp

/-! ## QUERY -/

theorem takeQuery_of_accepted {x : State} {target item flags : Byte} {i : ReportItem} (known : reportItemOf item = some i)
    (accepted : x.acceptsQuery target i flags = true) :
    takeQuery target item flags x = queueKind .report (replaceRequest (requestOf i flags) x) := by
  unfold takeQuery; rw [known]; exact if_pos accepted

theorem takeQuery_of_refused {x : State} {target item flags : Byte}
    (refused : ∀ i, reportItemOf item = some i → x.acceptsQuery target i flags = false) :
    takeQuery target item flags x = x := by
  unfold takeQuery
  split
  · rename_i i known
    exact if_neg (by simp [refused i known])
  · rfl

theorem acceptsQuery_iff (x : State) (target : Byte) (i : ReportItem) (flags : Byte) :
    x.acceptsQuery target i flags = true ↔
      target.toNat = x.me ∧ (i = .row → (x.table.row? (flags.toNat / 16 % 8)).isSome = true) ∧
        (x.member.state = .catchingUp ∨ x.member.state = .inStep ∨ x.member.state = .mismatched) := by
  have row : queryRow flags = flags.toNat / 16 % 8 := rfl
  rw [← sendsStatus_iff]
  unfold State.acceptsQuery
  rw [row]
  simp only [Bool.and_eq_true, Bool.or_eq_true, beq_iff_eq, bne_iff_ne]
  grind

theorem requestOf_eq (i : ReportItem) (flags : Byte) :
    requestOf i flags =
      { item := i, row := if i = .row then flags.toNat / 16 % 8 else 0
        clear := (i == .zone || i == .page0 || i == .page1) && flags.getLsbD 0
        part := if i = .snapshot then 1 else 0 } := by
  cases i <;> rfl

/-- QUERY of the own station is answered by a report; another one is not. -/
theorem queryTaken (codes : Sensors) (address : BitVec 4) (target item flags : Byte) (s : State) (running : s.running = true)
    (panel : 8 ≤ address.toNat) :
    ∃ t, exec (.query codes address target item flags) s = .next t ∧
      (∀ i, reportItemOf item = some i → target.toNat = s.me →
        (i = .row → (s.table.row? (flags.toNat / 16 % 8)).isSome = true) →
        s.member.state = .catchingUp ∨ s.member.state = .inStep ∨ s.member.state = .mismatched →
        t.stats.request =
            some
              { item := i, row := if i = .row then flags.toNat / 16 % 8 else 0
                clear := (i == .zone || i == .page0 || i == .page1) && flags.getLsbD 0
                part := if i = .snapshot then 1 else 0 } ∧
          t.stats.inFlight = s.stats.inFlight.map (fun f => { f with replaced := true }) ∧ t.sending .report) ∧
      (reportItemOf item = none ∨ target.toNat ≠ s.me ∨
          (reportItemOf item = some .row ∧ s.table.row? (flags.toNat / 16 % 8) = none) ∨
          s.member.state = .listen ∨ s.member.state = .joining ∨ s.member.state = .clash →
        t.stats = s.stats) ∧
      t.stats.snapshot = s.stats.snapshot ∧ t.stats.counters = s.stats.counters ∧
      TakingEvaluated codes s (s.takenInto t s.share) t ∧ t.table = s.table := by
  have hears : s.hears address (.query target item flags) := hears_of_foreign (ownFrame_of_panel panel)
  have calm : s.calm address (.query target item flags) := calm_of_panel panel
  have plain : (Bulletin.query target item flags).plain := ⟨nofun, nofun⟩
  have taken : s.taking codes address (.query target item flags) =
      .plain (takeQuery target item flags (s.opened codes address (.query target item flags))) := rfl
  have stats := coursed_calm_stats (codes := codes) hears calm rfl plain
  obtain ⟨event, _, _, _, table⟩ := coursed_of_matched (codes := codes) hears rfl
  rw [taken, plain_state] at stats
  have begun : (s.opened codes address (.query target item flags)).stats = s.stats := by simp
  have accepts := acceptsQuery_iff (s.opened codes address (.query target item flags)) target
  simp only [opened_me, opened_frame] at accepts
  refine ⟨_, exec_taking rfl running (by simpa [State.passes] using panel), fun i known mine row sends => ?_, fun refused => ?_, ?_,
    ?_, ?_, ?_⟩
  · have asked := takeQuery_of_accepted known ((accepts i flags).mpr ⟨mine, row, sends⟩)
    have accepting : (replaceRequest (requestOf i flags) (s.opened codes address (.query target item flags))).acceptsRequests =
        true := by
      refine acceptsRequests_of _ s.member.state (by simp [replaceRequest]) ?_
      obtain h | h | h := sends <;> rw [h] <;> decide
    have sending := queueKind_sending .report _ accepting
    rw [← asked] at sending
    simp only [finishRunning_frame]
    rw [stats, asked]
    simp only [queueKind_frame]
    refine ⟨congrArg some (requestOf_eq i flags), by simp [replaceRequest], ?_⟩
    rw [← finish_of_running (takenFrom_coursed codes address _ running).running]
    exact finish_keeps _ _ _ _ (by decide) (by decide) (by decide)
      (coursed_calm_keeps hears calm rfl plain (by rw [taken]; exact sending))
  · simp only [finishRunning_frame]
    rw [stats, takeQuery_of_refused, begun]
    intro i known
    rw [← Bool.not_eq_true, accepts]
    rintro ⟨mine, row, sends⟩
    obtain none | other | ⟨rowItem, absent⟩ | idle := refused
    · rw [none] at known; cases known
    · exact other mine
    · rw [rowItem] at known
      have present := row (Option.some.inj known).symm
      rw [absent] at present; cases present
    · obtain h | h | h := idle <;> simp [h] at sends
  · simp only [finishRunning_frame]
    rw [stats]
    simp
  · simp only [finishRunning_frame]
    rw [stats]
    simp
  · exact takingEvaluated_of_taken (takenFrom_coursed codes address _ running) rfl
      ((coursed_blocks hears).1.trans (by rw [taken]; simp)) (.inr rfl) (by rw [event]; rfl)
  · simp only [finishRunning_frame]
    rw [table, taken]
    simp

/-- Settles O20: SNAPSHOT and QUERY touch the statistics unit only. -/
theorem snapshotAndQueryTaken : Obligations.SnapshotAndQueryTaken := ⟨snapshotTaken, queryTaken⟩

/-! ## DRAFT -/

theorem spillsFrom_iff (x : State) (station : Nat) :
    x.spillsFrom station = true ↔
      x.entry.neighbours.contains station = true ∧ station ≠ x.me ∧ (x.table.rowOf station).state ≠ .mismatched := by
  unfold State.spillsFrom
  simp only [Bool.and_eq_true, bne_iff_ne, and_assoc]

/-- What a DRAFT heard makes of the spill entries. -/
theorem takeDraft_doors (station : Nat) (active : Byte) (x : State) :
    (takeDraft station active x).doors =
      { x.doors with
        spill :=
          if x.spillsFrom station = true ∧ active = 1 then
            x.doors.spill.filter (fun e => e.station != station)
              ++ [{ station, timer := some x.loader.vt.spillLimit }]
          else if x.spillsFrom station = true ∧ active = 0 then x.doors.spill.filter (fun e => e.station != station)
          else x.doors.spill } := by
  unfold takeDraft
  by_cases spills : x.spillsFrom station = true
  · by_cases begins : active = 1
    · simp [spills, begins, refreshSpill]
    · by_cases ends : active = 0
      · simp [spills, ends, dropSpill]
      · simp only [spills, begins, ends, if_true, if_false, and_false]
  · simp [spills]

theorem taking_draft (codes : Sensors) (address : BitVec 4) (active : Byte) (s : State) :
    ∃ x, s.taking codes address (.draft active) = .plain x ∧ x.table = s.table ∧ x.share = s.share ∧
      x.overrides = (s.opened codes address (.draft active)).overrides ∧
      x.doors = { (takeDraft address.toNat active (s.opened codes address (.draft active))).doors with
        lastStated := if (s.ownFrame address.toNat (.draft active)).isSome = true then active == 1 else s.doors.lastStated } := by
  unfold State.taking takeBulletin takesDraft
  cases (s.ownFrame address.toNat (.draft active)).isSome with
  | true => exact ⟨_, rfl, by simp, by simp, by simp, rfl⟩
  | false =>
    refine ⟨_, rfl, by simp, by simp, by simp, ?_⟩
    rw [takeDraft_doors]
    simp

/-- Settles O17: DRAFT moves the sender's spill entry. -/
theorem draftTaken : Obligations.DraftTaken := by
  intro codes address active s running passes hears
  obtain ⟨x, taken, tableX, shareX, slotsX, doorsX⟩ := taking_draft codes address active s
  obtain ⟨t, next, done⟩ := frame_taken (c := .draft codes address active) rfl running passes hears
  obtain ⟨_, _, _, _, table⟩ := coursed_of_matched (codes := codes) hears (by rw [taken]; rfl)
  have tableT := done.table.trans table
  have doorsT := done.doors
  have slotsT := done.overrides
  rw [taken, plain_state] at tableT doorsT slotsT
  rw [doorsX, takeDraft_doors] at doorsT
  have spills := spillsFrom_iff (s.opened codes address (.draft active)) address.toNat
  have entry : (s.opened codes address (.draft active)).entry = s.entry := by
    simp only [State.entry, opened_me, opened_frame]
  rw [entry, opened_me, (opened_frame _ _ _ _).2.1] at spills
  refine ⟨t, next, ?_, ?_, ?_, done.evaluated _ (by rw [taken]; exact shareX) (.inr rfl), tableT.trans tableX, done.supply,
    slotsT.trans (slotsX.trans (opened_overrides_of_station (station_of_passes rfl passes)))⟩ <;> rw [doorsT]
  · intro neighbour other matching
    have from_ := spills.mpr ⟨neighbour, other, matching⟩
    refine ⟨fun begins => ?_, fun ends => ?_⟩
    · rw [if_pos ⟨from_, begins⟩]; simp
    · rw [if_neg (by rw [ends]; simp), if_pos ⟨from_, ends⟩]; simp
  · intro still
    rw [if_neg, if_neg]
    · simp
    · rintro ⟨from_, ends⟩
      obtain ⟨neighbour, other, matching⟩ := spills.mp from_
      obtain h | h | h | h := still
      · rw [neighbour] at h; cases h
      · exact other h
      · exact matching h
      · exact h.1 ends
    · rintro ⟨from_, begins⟩
      obtain ⟨neighbour, other, matching⟩ := spills.mp from_
      obtain h | h | h | h := still
      · rw [neighbour] at h; cases h
      · exact other h
      · exact matching h
      · exact h.2 begins

end

end Sys2Proof.Machine
end

section
/-! What recalls and service rounds make of one station's row, and which takings count a recall. -/

namespace Sys2Proof.Machine

/-! ## One row under recall, grant and settlement -/

theorem recallPass_find (give : Row → Nat) (n : Nat) (rows : List Row) : ∀ short, ∃ given,
    (recallPass give short rows).2.find? (fun r => r.station == n) =
        (rows.find? (fun r => r.station == n)).map (fun r => { r with owed := r.owed + given }) ∧
      ∀ r, rows.find? (fun r => r.station == n) = some r → given ≤ give r := by
  induction rows with
  | nil => exact fun _ => ⟨0, rfl, nofun⟩
  | cons x xs ih =>
    intro short
    by_cases here : x.station == n
    · refine ⟨min short (give x), by simp [recallPass, here], fun r found => ?_⟩
      simp only [List.find?_cons, here, Option.some.injEq] at found
      subst found
      exact Nat.min_le_right _ _
    · obtain ⟨given, eq, bound⟩ := ih (short - min short (give x))
      refine ⟨given, by simp [recallPass, here, eq], fun r found => bound r ?_⟩
      simpa [List.find?_cons, here] using found

theorem row?_safetyRecall (t : ShareTable) (short n : Nat) : ∃ given,
    (t.safetyRecall short).row? n = (t.row? n).map (fun r => { r with owed := r.owed + given }) ∧
      ∀ r, t.row? n = some r → given ≤ r.freeToRecall :=
  recallPass_find Row.freeToRecall n t.rows short

theorem row?_recallExcess (t : ShareTable) (n : Nat) : ∃ given,
    t.recallExcess.row? n = (t.row? n).map (fun r => { r with owed := r.owed + given }) := by
  obtain ⟨first, free, _⟩ := recallPass_find Row.freeToRecall n t.rows (t.held - t.pool)
  obtain ⟨second, held, _⟩ := recallPass_find Row.held n (recallPass Row.freeToRecall (t.held - t.pool) t.rows).2
    (recallPass Row.freeToRecall (t.held - t.pool) t.rows).1
  refine ⟨first + second, held.trans ?_⟩
  rw [free, Option.map_map]
  refine congrArg (fun f => Option.map f _) (funext fun r => ?_)
  simp [Nat.add_assoc]

theorem row?_grantHead (t : ShareTable) (e : Entry) (rest : List Entry) (n : Nat) :
    (t.grantHead e rest).row? n =
      (t.row? n).map (fun r => if r.station = e.station then Row.granted e.units e.rank r else r) :=
  row?_update t e.station n (Row.granted e.units e.rank) (fun _ => rfl)

theorem rowOf_of_map {t u : ShareTable} {n : Nat} {f : Row → Row} (eq : u.row? n = (t.row? n).map f)
    (up : ∀ r, r.owed ≤ (f r).owed) : (t.rowOf n).owed ≤ (u.rowOf n).owed := by
  unfold ShareTable.rowOf
  rw [eq]
  cases t.row? n with
  | none => exact Nat.le_refl _
  | some r => exact up r

theorem owed_le_recallExcess (t : ShareTable) (n : Nat) : (t.rowOf n).owed ≤ (t.recallExcess.rowOf n).owed := by
  obtain ⟨given, eq⟩ := row?_recallExcess t n
  exact rowOf_of_map eq fun r => Nat.le_add_right _ _

theorem owed_le_safetyRecall (t : ShareTable) (short n : Nat) :
    (t.rowOf n).owed ≤ ((t.safetyRecall short).rowOf n).owed := by
  obtain ⟨given, eq, _⟩ := row?_safetyRecall t short n
  exact rowOf_of_map eq fun r => Nat.le_add_right _ _

theorem owed_le_grantHead (t : ShareTable) (e : Entry) (rest : List Entry) (n : Nat) :
    (t.rowOf n).owed ≤ ((t.grantHead e rest).rowOf n).owed := by
  refine rowOf_of_map (row?_grantHead t e rest n) fun r => ?_
  split <;> exact Nat.le_refl _

theorem owed_le_serviceRound (t : ShareTable) (n : Nat) : (t.rowOf n).owed ≤ (t.serviceRound.rowOf n).owed :=
  serviceRound_keeps (fun u => (t.rowOf n).owed ≤ (u.rowOf n).owed)
    (fun u e rest _ _ _ up => Nat.le_trans up (owed_le_grantHead u e rest n)) (fun u short up => Nat.le_trans up (owed_le_safetyRecall u short n))
    t (Nat.le_refl _)

/-- Where the rows stand, each station's row stands. -/
theorem rowOf_of_rows {t u : ShareTable} (rows : u.rows = t.rows) (n : Nat) : u.rowOf n = t.rowOf n := by
  unfold ShareTable.rowOf ShareTable.row?; rw [rows]

theorem rowOf_evaluateOverdrawn (statement : Bool) (t : ShareTable) (n : Nat) :
    (t.evaluateOverdrawn statement).rowOf n = t.rowOf n := rfl

theorem owed_le_settle (me : Nat) (statement round : Bool) (t : ShareTable) (n : Nat) :
    (t.rowOf n).owed ≤ ((t.settle me statement round).table.rowOf n).owed := by
  rw [(tableSettle_frame me statement round t).1]
  cases round with
  | true => exact owed_le_serviceRound (t.evaluateOverdrawn statement) n
  | false => exact Nat.le_refl _

/-- The flags of a settlement: the own row's units owed, and borrowed, have risen. -/
theorem settle_recalled (me : Nat) (statement round : Bool) (t : ShareTable) :
    (t.settle me statement round).recalled = true ↔
      (t.rowOf me).owed < ((t.settle me statement round).table.rowOf me).owed := by
  rw [(tableSettle_frame me statement round t).1]
  show decide _ = true ↔ _
  cases round <;> simp [rowOf_evaluateOverdrawn]

theorem nothing_recalled (me : Nat) (t : ShareTable) :
    (Taken.nothing t).recalled = true ↔ (t.rowOf me).owed < ((Taken.nothing t).table.rowOf me).owed := by
  have same : (Taken.nothing t).table.rowOf me = t.rowOf me := rfl
  rw [same]
  simp [Taken.nothing]

/-! ## A cleared row stays cleared -/

/-- The row of a station that has borrowed nothing and waits for nothing. -/
def ShareTable.idleRow (t : ShareTable) (n : Nat) (row : Option Row) : Prop :=
  t.row? n = row ∧ (∀ r, row = some r → r.borrowed = 0 ∧ r.owed = 0) ∧ ∀ e ∈ t.queue, e.station ≠ n

theorem idleRow_safetyRecall {t : ShareTable} {n : Nat} {row : Option Row} (short : Nat) (idle : t.idleRow n row) :
    (t.safetyRecall short).idleRow n row := by
  obtain ⟨found, zero, queue⟩ := idle
  obtain ⟨given, eq, bound⟩ := row?_safetyRecall t short n
  refine ⟨eq.trans ?_, zero, queue⟩
  rw [found]
  cases row with
  | none => rfl
  | some r =>
    have none : given = 0 := by
      have free := bound r found
      obtain ⟨borrowed, _⟩ := zero r rfl
      simp only [Row.freeToRecall, borrowed] at free
      omega
    simp [none]

theorem idleRow_grantHead {t : ShareTable} {n : Nat} {row : Option Row} {e : Entry} {rest : List Entry}
    (queued : t.queue = e :: rest) (idle : t.idleRow n row) : (t.grantHead e rest).idleRow n row := by
  obtain ⟨found, zero, queue⟩ := idle
  have other : e.station ≠ n := queue e (by rw [queued]; exact List.mem_cons_self)
  refine ⟨(row?_grantHead t e rest n).trans ?_, zero, fun x mem => ?_⟩
  · rw [found]
    cases row with
    | none => rfl
    | some r =>
      have station := row?_station found
      simp only [Option.map_some]
      rw [if_neg (by rw [station]; exact other.symm)]
  · obtain ⟨y, inRest, grown⟩ := List.mem_map.mp ((queueOrder_perm _).mem_iff.mp mem)
    rw [← grown]
    exact queue y (by rw [queued]; exact List.mem_cons_of_mem _ inRest)

theorem idleRow_serviceRound {t : ShareTable} {n : Nat} {row : Option Row} (idle : t.idleRow n row) :
    t.serviceRound.idleRow n row :=
  serviceRound_keeps (fun u => u.idleRow n row) (fun _ _ _ _ queued _ idle => idleRow_grantHead queued idle)
    (fun _ short idle => idleRow_safetyRecall short idle) t idle

theorem idleRow_settle {t : ShareTable} {n : Nat} {row : Option Row} (me : Nat) (statement round : Bool)
    (idle : t.idleRow n row) : (t.settle me statement round).table.idleRow n row := by
  rw [(tableSettle_frame me statement round t).1]
  cases round with
  | true => exact idleRow_serviceRound (t := t.evaluateOverdrawn statement) idle
  | false => exact idle

theorem row?_clearRow (t : ShareTable) (station : Nat) (state : RowState) :
    (t.clearRow station state).row? station = (t.row? station).map (Row.cleared state) := by
  refine (row?_update t station station (Row.cleared state) fun _ => rfl).trans ?_
  cases found : t.row? station with
  | none => rfl
  | some r => simp [row?_station found]

theorem idleRow_clearRow (t : ShareTable) (station : Nat) (state : RowState) :
    (t.clearRow station state).idleRow station ((t.row? station).map (Row.cleared state)) := by
  refine ⟨row?_clearRow t station state, fun r cleared => ?_, fun e mem => (mem_dropEntry.mp mem).2⟩
  obtain ⟨x, _, rfl⟩ := Option.map_eq_some_iff.mp cleared
  exact ⟨rfl, rfl⟩

theorem ShareTable.idleRow.hasEntry {t : ShareTable} {n : Nat} {row : Option Row} (idle : t.idleRow n row) :
    t.hasEntry n = false := by
  unfold ShareTable.hasEntry ShareTable.entry?
  rw [Option.isSome_eq_false_iff, Option.isNone_iff_eq_none, List.find?_eq_none]
  intro e mem
  simpa using idle.2.2 e mem

theorem ShareTable.idleRow.owed {t : ShareTable} {n : Nat} {row : Option Row} (idle : t.idleRow n row) :
    (t.rowOf n).owed = 0 := by
  obtain ⟨found, zero, _⟩ := idle
  unfold ShareTable.rowOf
  rw [found]
  cases row with
  | none => rfl
  | some r => exact (zero r rfl).2

/-- Clearing a row leaves the rows of the other stations. -/
theorem rowOf_clearRow_other {t : ShareTable} {station n : Nat} (other : n ≠ station) (state : RowState) :
    (t.clearRow station state).rowOf n = t.rowOf n := by
  have found : (t.clearRow station state).row? n = t.row? n := by
    refine (row?_update t station n (Row.cleared state) fun _ => rfl).trans ?_
    cases eq : t.row? n with
    | none => rfl
    | some r => simp [row?_station eq, other]
  unfold ShareTable.rowOf; rw [found]

/-! ## Which takings recall from the own row -/

/-- Units owed by the own row as a taking of `b` writes it, before any recall. -/
def owedWritten (me sender : Nat) (own : Byte) (learning : Bool) (t : ShareTable) : Bulletin → Nat
  | .status p =>
    if sender = me ∧ p.tag = own ∧ (t.row? me).any (fun r => statementInRange r p &&
        (r.state == .present || (r.state == .absent && learning))) = true then p.owed.toNat
    else (t.rowOf me).owed
  | .ret units safetyUnits =>
    if sender = me ∧ safetyUnits.toNat ≤ units.toNat ∧ (t.row? me).any (fun r => r.state != .absent) = true then
      (t.rowOf me).owed - min units.toNat (t.rowOf me).owed
    else (t.rowOf me).owed
  | _ => (t.rowOf me).owed

/-- A cleared row, settled: what it owes has not risen, and no recall is flagged. -/
theorem clearRow_settle_recalled (me station : Nat) (state : RowState) (round : Bool) (t : ShareTable) :
    (((t.clearRow station state).settle me false round).recalled = true ↔
        (t.rowOf me).owed < (((t.clearRow station state).settle me false round).table.rowOf me).owed) := by
  rw [settle_recalled]
  by_cases mine : me = station
  · subst mine
    have idle := idleRow_clearRow t me state
    rw [idle.owed, (idleRow_settle me false round idle).owed]
    simp
  · rw [rowOf_clearRow_other mine]

theorem update_rowOf_owed {t : ShareTable} {station : Nat} {f : Row → Row} (same : ∀ r, (f r).station = r.station)
    (owed : ∀ r, (f r).owed = r.owed) (n : Nat) : ((t.update station f).rowOf n).owed = (t.rowOf n).owed := by
  unfold ShareTable.rowOf
  rw [row?_update t station n f same]
  cases t.row? n with
  | none => rfl
  | some r =>
    simp only [Option.map_some, Option.getD_some]
    split
    · exact owed r
    · rfl

end Sys2Proof.Machine
end

section
/-! A taking counts a recall just where the own row owes more than the bulletin wrote into it. -/

namespace Sys2Proof.Machine

section
variable (me sender : Nat) (own : Byte) (learning : Bool) (t : ShareTable)

theorem takeAllowance_recalled (units leaseTime fallback tag : Byte) :
    (takeAllowance me units leaseTime fallback tag t).recalled = true ↔
      (t.rowOf me).owed < ((takeAllowance me units leaseTime fallback tag t).table.rowOf me).owed := by
  unfold takeAllowance
  split
  · have stored : (t.storeLease units fallback tag).rowOf me = t.rowOf me := rfl
    have first := owed_le_recallExcess (t.storeLease units fallback tag) me
    have last := owed_le_settle me false true (t.storeLease units fallback tag).recallExcess me
    have flagged := settle_recalled me false true (t.storeLease units fallback tag).recallExcess
    rw [stored] at first
    simp only [Bool.or_eq_true, flagged, owedRose, decide_eq_true_eq, stored]
    omega
  · exact nothing_recalled me t

theorem takeLapse_recalled (tag : Byte) :
    (takeLapse me tag t).recalled = true ↔ (t.rowOf me).owed < ((takeLapse me tag t).table.rowOf me).owed := by
  unfold takeLapse
  split
  · exact decide_eq_true_iff
  · exact nothing_recalled me t

theorem takeExpel_recalled (station : Nat) :
    (takeExpel me station t).recalled = true ↔ (t.rowOf me).owed < ((takeExpel me station t).table.rowOf me).owed := by
  unfold takeExpel
  split
  · exact nothing_recalled me t
  · split
    · exact nothing_recalled me t
    · exact clearRow_settle_recalled me station .absent true t

theorem takeJoin_recalled (tag : Byte) :
    (takeJoin me sender own tag t).recalled = true ↔
      (t.rowOf me).owed < ((takeJoin me sender own tag t).table.rowOf me).owed := by
  unfold takeJoin
  split
  · exact clearRow_settle_recalled me sender .present _ t
  · exact clearRow_settle_recalled me sender .mismatched _ t

theorem takeClaim_recalled (units rank : Byte) :
    (takeClaim me sender units rank t).recalled = true ↔
      (t.rowOf me).owed < ((takeClaim me sender units rank t).table.rowOf me).owed := by
  unfold takeClaim
  split
  · exact nothing_recalled me t
  · split
    · split
      · exact settle_recalled me false true { t with queue := dropEntry sender t.queue }
      · exact nothing_recalled me t
    · split
      · exact nothing_recalled me t
      · rename_i rank' _
        split
        · refine (settle_recalled me false false (t.update sender (Row.granted units.toNat rank'))).trans ?_
          rw [update_rowOf_owed (f := Row.granted units.toNat rank') (fun _ => rfl) (fun _ => rfl)]
        · exact settle_recalled me false true _

theorem update_rowOf_other {t : ShareTable} {station n : Nat} {f : Row → Row} (other : n ≠ station)
    (same : ∀ r, (f r).station = r.station) : (t.update station f).rowOf n = t.rowOf n := by
  unfold ShareTable.rowOf
  rw [row?_update t station n f same]
  cases eq : t.row? n with
  | none => rfl
  | some r => simp [row?_station eq, other]

theorem update_rowOf_same {t : ShareTable} {station : Nat} {f : Row → Row} {r : Row} (found : t.row? station = some r)
    (same : ∀ r, (f r).station = r.station) : (t.update station f).rowOf station = f r := by
  unfold ShareTable.rowOf
  rw [row?_update t station station f same, found]
  simp [row?_station found]

theorem rowOf_of_row? {t : ShareTable} {n : Nat} {r : Row} (found : t.row? n = some r) : t.rowOf n = r := by
  unfold ShareTable.rowOf; rw [found]; rfl

theorem owedWritten_ret (units safetyUnits : Byte) :
    owedWritten me sender own learning t (.ret units safetyUnits) =
      if sender = me ∧ safetyUnits.toNat ≤ units.toNat ∧ (t.row? me).any (fun r => r.state != .absent) = true then
        (t.rowOf me).owed - min units.toNat (t.rowOf me).owed
      else (t.rowOf me).owed := rfl

theorem owedWritten_status (p : StatusPayload) :
    owedWritten me sender own learning t (.status p) =
      if sender = me ∧ p.tag = own ∧ (t.row? me).any (fun r => statementInRange r p &&
          (r.state == .present || (r.state == .absent && learning))) = true then p.owed.toNat
      else (t.rowOf me).owed := rfl

theorem takeReturn_recalled (units safetyUnits : Byte) :
    (takeReturn me sender units safetyUnits t).recalled = true ↔
      owedWritten me sender own learning t (.ret units safetyUnits) <
        ((takeReturn me sender units safetyUnits t).table.rowOf me).owed := by
  rw [owedWritten_ret]
  unfold takeReturn
  split
  · rename_i absent
    rw [if_neg]
    · exact nothing_recalled me t
    · rintro ⟨rfl, _, any⟩
      rw [absent] at any; cases any
  · rename_i r found
    split
    · rename_i refused
      rw [if_neg]
      · exact nothing_recalled me t
      · rintro ⟨rfl, within, any⟩
        rw [found] at any
        simp only [Option.any_some, bne_iff_ne] at any
        obtain low | gone := refused
        · omega
        · exact any gone
    · rename_i taken
      rw [not_or] at taken
      refine (settle_recalled me false true (t.update sender (Row.returned units.toNat safetyUnits.toNat))).trans ?_
      by_cases mine : sender = me
      · subst mine
        rw [if_pos ⟨rfl, by omega, by rw [found]; simpa using taken.2⟩, update_rowOf_same (f := Row.returned units.toNat safetyUnits.toNat) found
          (fun _ => rfl), rowOf_of_row? found]
        rfl
      · rw [if_neg (fun h => mine h.1),
          update_rowOf_other (f := Row.returned units.toNat safetyUnits.toNat) (fun h => mine h.symm) (fun _ => rfl)]

theorem applyStatement_rowOf_owed {t : ShareTable} {station : Nat} {r : Row} (found : t.row? station = some r)
    (p : StatusPayload) (n : Nat) :
    ((t.applyStatement station p).rowOf n).owed = if station = n then p.owed.toNat else (t.rowOf n).owed := by
  have rows : (t.applyStatement station p).rowOf n = (t.update station (Row.stated p)).rowOf n := rfl
  rw [rows]
  by_cases mine : station = n
  · subst mine
    rw [if_pos rfl, update_rowOf_same (f := Row.stated p) found (fun _ => rfl)]; rfl
  · rw [if_neg mine, update_rowOf_other (f := Row.stated p) (fun h => mine h.symm) (fun _ => rfl)]

theorem takeStatus_recalled (p : StatusPayload) :
    (takeStatus me sender own learning p t).recalled = true ↔
      owedWritten me sender own learning t (.status p) <
        ((takeStatus me sender own learning p t).table.rowOf me).owed := by
  have unwritten : ∀ {r : Row}, t.row? sender = some r →
      ¬(p.tag = own ∧ statementInRange r p = true ∧ (r.state = .present ∨ (r.state = .absent ∧ learning = true))) →
      owedWritten me sender own learning t (.status p) = (t.rowOf me).owed := by
    intro r found refused
    rw [owedWritten_status]
    rw [if_neg]
    rintro ⟨rfl, tag, any⟩
    rw [found] at any
    simp only [Option.any_some, Bool.and_eq_true, Bool.or_eq_true, beq_iff_eq] at any
    exact refused ⟨tag, any.1, any.2⟩
  have written : ∀ {r : Row}, t.row? sender = some r → p.tag = own → statementInRange r p = true →
      (r.state = .present ∨ (r.state = .absent ∧ learning = true)) →
      owedWritten me sender own learning t (.status p) = ((t.applyStatement sender p).rowOf me).owed := by
    intro r found tag range state
    rw [applyStatement_rowOf_owed found]
    rw [owedWritten_status]
    by_cases mine : sender = me
    · subst mine
      rw [if_pos ⟨rfl, tag, by rw [found]; simpa using ⟨range, state⟩⟩, if_pos rfl]
    · rw [if_neg (fun h => mine h.1), if_neg mine]
  unfold takeStatus
  split
  · rename_i absent
    have none : owedWritten me sender own learning t (.status p) = (t.rowOf me).owed := by
      rw [owedWritten_status]
      rw [if_neg]
      rintro ⟨rfl, _, any⟩
      rw [absent] at any; cases any
    rw [none]
    exact nothing_recalled me t
  · rename_i r found
    split
    · rename_i foreign
      rw [unwritten found (fun h => foreign h.1)]
      refine (settle_recalled me false (t.hasEntry sender)
        { t.update sender (fun r => { r with state := .mismatched }) with queue := dropEntry sender t.queue }).trans ?_
      have owed : (({ t.update sender (fun r => { r with state := .mismatched }) with
          queue := dropEntry sender t.queue } : ShareTable).rowOf me).owed = (t.rowOf me).owed :=
        update_rowOf_owed (t := t) (station := sender) (f := fun r => { r with state := .mismatched }) (fun _ => rfl)
          (fun _ => rfl) me
      rw [owed]
    · rename_i tag
      rw [Decidable.not_not] at tag
      split
      · rename_i range
        split
        · rename_i state
          rw [written found tag range (.inl state)]
          exact settle_recalled me true true (t.applyStatement sender p)
        · rename_i state
          split
          · rename_i learns
            rw [written found tag range (.inr ⟨state, learns⟩)]
            exact settle_recalled me true true (t.applyStatement sender p)
          · rename_i settled
            rw [unwritten found (fun h => by simp [state, settled] at h)]
            exact nothing_recalled me t
        · rename_i state
          rw [unwritten found (fun h => by simp [state] at h)]
          exact nothing_recalled me t
      · rename_i range
        rw [unwritten found (fun h => range h.2.1)]
        exact nothing_recalled me t

theorem takenBy_recalled (b : Bulletin) :
    (takenBy me sender own learning t b).recalled = true ↔
      owedWritten me sender own learning t b < ((takenBy me sender own learning t b).table.rowOf me).owed := by
  cases b with
  | allowance units leaseTime fallback tag => exact takeAllowance_recalled me t units leaseTime fallback tag
  | lapse tag => exact takeLapse_recalled me t tag
  | expel station => exact takeExpel_recalled me t station.toNat
  | join tag => exact takeJoin_recalled me sender own t tag
  | status p => exact takeStatus_recalled me sender own learning t p
  | claim units rank => exact takeClaim_recalled me sender t units rank
  | ret units safetyUnits => exact takeReturn_recalled me sender own learning t units safetyUnits
  | draft | override | cancel | snapshot | query | report | unknown =>
    show false = true ↔ (t.rowOf me).owed < (t.rowOf me).owed
    simp

theorem dropOwnEntry_recalled :
    (dropOwnEntry me t).recalled = true ↔ (t.rowOf me).owed < ((dropOwnEntry me t).table.rowOf me).owed := by
  unfold dropOwnEntry
  split
  · exact settle_recalled me false true { t with queue := dropEntry me t.queue }
  · exact nothing_recalled me t

theorem owed_le_dropOwnEntry : (t.rowOf me).owed ≤ ((dropOwnEntry me t).table.rowOf me).owed := by
  unfold dropOwnEntry
  split
  · exact owed_le_settle me false true { t with queue := dropEntry me t.queue } me
  · exact Nat.le_refl _

theorem dropOwnEntry_of_noEntry {me : Nat} {t : ShareTable} (noEntry : t.hasEntry me = false) :
    dropOwnEntry me t = Taken.nothing t := by
  unfold dropOwnEntry; rw [if_neg (by simp [noEntry])]

/-- Where the sender has another table tag, the taking does not lower what the own row owes, or the own row is idle. -/
theorem mismatch_owed {b : Bulletin} (mismatch : (takenBy me sender own learning t b).mismatch = true) :
    owedWritten me sender own learning t b ≤ ((takenBy me sender own learning t b).table.rowOf me).owed ∨
      ((dropOwnEntry me (takenBy me sender own learning t b).table).table.rowOf me).owed =
        ((takenBy me sender own learning t b).table.rowOf me).owed := by
  cases b with
  | join tag =>
    have same : tag ≠ own := by
      rintro rfl
      simp [takenBy, takeJoin] at mismatch
    simp only [takenBy, takeJoin, if_neg same]
    by_cases mine : me = sender
    · subst mine
      have idle := idleRow_settle me false (t.rowInUse me) (idleRow_clearRow t me .mismatched)
      rw [dropOwnEntry_of_noEntry idle.hasEntry]
      exact .inr rfl
    · refine .inl (Nat.le_trans (Nat.le_of_eq ?_) (owed_le_settle me false (t.rowInUse sender) (t.clearRow sender .mismatched) me))
      rw [rowOf_clearRow_other mine]
      rfl
  | status p =>
    refine .inl ?_
    have foreign : p.tag ≠ own := by
      intro same
      simp only [takenBy, takeStatus, same, ne_eq, not_true, if_false] at mismatch
      (repeat' split at mismatch) <;> cases mismatch
    rw [owedWritten_status, if_neg (fun h => foreign h.2.1)]
    simp only [takenBy, takeStatus]
    split
    · exact Nat.le_refl _
    · rw [if_pos foreign]
      refine Nat.le_trans (Nat.le_of_eq ?_) (owed_le_settle me false (t.hasEntry sender) _ me)
      exact (update_rowOf_owed (t := t) (station := sender) (f := fun r => { r with state := .mismatched }) (fun _ => rfl)
        (fun _ => rfl) me).symm
  | allowance => simp [takenBy, takeAllowance_mismatch] at mismatch
  | lapse => simp [takenBy, takeLapse_mismatch] at mismatch
  | expel => simp [takenBy, takeExpel_mismatch] at mismatch
  | claim => simp [takenBy, takeClaim_mismatch] at mismatch
  | ret => simp [takenBy, takeReturn_mismatch] at mismatch
  | draft | override | cancel | snapshot | query | report | unknown => cases mismatch

end

/-! ## The count of recalls behind a frame's course -/

section
variable {codes : Sensors} {address : BitVec 4} {b : Bulletin} {s : State}

theorem tableTaken_recalls (taken : Taken) (x : State) :
    (tableTaken taken x).state.stats.counters.recalls =
      if taken.recalled = true then bumped x.loader.vt.counterFreeze 1 x.stats.counters.recalls
      else x.stats.counters.recalls := by
  unfold tableTaken
  simp only [countIf_counters, countIf_frame]
  split <;> split <;> rfl

/-- A taking flags the recall that the table found, and counts it. -/
theorem takeBulletin_recalls {own : Bool} {sender : Nat} {b : Bulletin} (x : State)
    (kept : own = true → ∀ data, b ≠ .report data) :
    (takeBulletin own sender b x).ev.recalled = (takenBy x.me sender x.tag x.learning x.table b).recalled ∧
      (takeBulletin own sender b x).state.stats.counters.recalls =
        if (takenBy x.me sender x.tag x.learning x.table b).recalled = true then
          bumped x.loader.vt.counterFreeze 1 x.stats.counters.recalls
        else x.stats.counters.recalls := by
  cases b with
  | allowance =>
    simp only [takeBulletin, takesAllowance, takenBy]
    split
    · simp only [mapState_state, mapState_ev, leaseRenewed_frame, tableTaken_recalls]; exact ⟨rfl, rfl⟩
    · exact ⟨rfl, tableTaken_recalls _ x⟩
  | lapse =>
    simp only [takeBulletin, takesLapse, takenBy]
    split
    · simp only [mapState_state, mapState_ev, leaseEnded_frame, tableTaken_recalls]; exact ⟨rfl, rfl⟩
    · exact ⟨rfl, tableTaken_recalls _ x⟩
  | expel =>
    simp only [takeBulletin, takesExpel, takenBy]
    split <;> simp only [mapState_state, mapState_ev, forgetStated_frame, dropSpill_frame, tableTaken_recalls] <;>
      exact ⟨rfl, rfl⟩
  | join =>
    simp only [takeBulletin, takesJoin, takenBy]
    (repeat' split) <;>
      simp only [mapState_state, mapState_ev, forgetStated_frame, queueKind_frame, dropSpill_frame, tableTaken_recalls] <;>
      exact ⟨rfl, rfl⟩
  | status =>
    simp only [takeBulletin, takesStatus, takenBy]
    split <;> simp only [mapState_state, mapState_ev, hear_frame, learnOutdoor_frame, dropMismatchedSpill_frame,
      tableTaken_recalls] <;> exact ⟨rfl, rfl⟩
  | claim =>
    simp only [takeBulletin, takesClaim, takenBy]
    split <;> exact ⟨rfl, tableTaken_recalls _ x⟩
  | ret =>
    simp only [takeBulletin, takesReturn, takenBy]
    split
    · simp only [settleReturn_frame, tableTaken_recalls]; exact ⟨rfl, rfl⟩
    · exact ⟨rfl, tableTaken_recalls _ x⟩
  | draft => simp only [takeBulletin, takesDraft, takenBy]; split <;> exact ⟨rfl, by simp [Taken.nothing]⟩
  | override => exact ⟨rfl, by simp [takeBulletin, slotCourse, takenBy, Taken.nothing]⟩
  | cancel => exact ⟨rfl, by simp [takeBulletin, slotCourse, takenBy, Taken.nothing]⟩
  | snapshot => exact ⟨rfl, by simp [takeBulletin, takenBy, Taken.nothing, takeSnapshot_stats]⟩
  | query => exact ⟨rfl, by simp [takeBulletin, takenBy, Taken.nothing]⟩
  | report data =>
    cases own with
    | true => exact absurd rfl (kept rfl data)
    | false => exact ⟨rfl, rfl⟩
  | unknown => exact ⟨rfl, rfl⟩

theorem mismatchResponse_recalls (c : Course) :
    (mismatchResponse c).ev.recalled =
        (c.ev.recalled || (c.mismatch && (dropOwnEntry c.state.me c.state.table).recalled)) ∧
      (mismatchResponse c).state.stats.counters.recalls =
        if c.ev.recalled = false ∧ c.mismatch = true ∧ (dropOwnEntry c.state.me c.state.table).recalled = true then
          bumped c.state.loader.vt.counterFreeze 1 c.state.stats.counters.recalls
        else c.state.stats.counters.recalls := by
  have entered : ∀ x, (enterMismatch x).stats.counters = x.stats.counters := fun x => by simp [enterMismatch, noteConfig]
  unfold mismatchResponse
  cases mismatch : c.mismatch with
  | false => simp
  | true =>
    refine ⟨by simp [dropOwnClaim], ?_⟩
    have counted : (mismatchResponse c).state.stats.counters = (dropOwnClaim c).state.stats.counters := by
      unfold mismatchResponse
      rw [if_pos mismatch, mapState_state]
      split
      · exact entered _
      · rfl
    unfold mismatchResponse at counted
    rw [mismatch] at counted
    rw [counted]
    unfold dropOwnClaim
    simp only [countIf_counters, Bool.and_eq_true, Bool.not_eq_true']
    cases c.ev.recalled <;> cases (dropOwnEntry c.state.me c.state.table).recalled <;> rfl

theorem taking_me (codes : Sensors) (address : BitVec 4) (b : Bulletin) (s : State) :
    (s.taking codes address b).state.me = s.me := me_of_loader (taking_frame codes address b s).1

theorem opened_figures (codes : Sensors) (address : BitVec 4) (b : Bulletin) (s : State) :
    (s.opened codes address b).me = s.me ∧ (s.opened codes address b).tag = s.tag ∧
      (s.opened codes address b).learning = s.learning := by
  simp only [State.me, State.tag, State.learning, opened_frame]
  exact ⟨trivial, trivial, trivial⟩

theorem taking_table (codes : Sensors) (address : BitVec 4) (b : Bulletin) (s : State) :
    (s.taking codes address b).state.table = (takenBy s.me address.toNat s.tag s.learning s.table b).table ∧
      (s.taking codes address b).mismatch = (takenBy s.me address.toNat s.tag s.learning s.table b).mismatch := by
  obtain ⟨table, mismatch⟩ := takeBulletin_table (s.ownFrame address.toNat b).isSome address.toNat b (s.opened codes address b)
  obtain ⟨me, tag, learning⟩ := opened_figures codes address b s
  rw [me, tag, learning, (opened_frame s codes address b).2.1] at table mismatch
  exact ⟨table, mismatch⟩

theorem coursed_table (hears : s.hears address b) :
    (s.coursed codes address b).state.table = tableAfter s.me address.toNat s.tag s.learning s.table b := by
  have heard : takenBulletin ((s.heardFrame codes).ownFrame address.toNat b) b = b :=
    takenBulletin_of_hears address b (s.heardFrame codes) hears
  unfold State.coursed
  rw [course_table, heard]
  rfl

/-- Behind a frame's course, one recall more is counted just where the own row owes more than was written. -/
theorem coursed_recalls (hears : s.hears address b) (kept : (s.ownFrame address.toNat b).isSome = true → ∀ data, b ≠ .report data) :
    ((s.coursed codes address b).ev.recalled = true ↔
        owedWritten s.me address.toNat s.tag s.learning s.table b < ((s.coursed codes address b).state.table.rowOf s.me).owed) ∧
      (s.coursed codes address b).state.stats.counters.recalls =
        if (s.coursed codes address b).ev.recalled = true then
          bumped s.loader.vt.counterFreeze 1 s.stats.counters.recalls
        else s.stats.counters.recalls := by
  obtain ⟨flag, counted⟩ := takeBulletin_recalls (own := (s.ownFrame address.toNat b).isSome) (sender := address.toNat)
    (s.opened codes address b) kept
  obtain ⟨me, tag, learning⟩ := opened_figures codes address b s
  rw [me, tag, learning, (opened_frame s codes address b).2.1] at flag counted
  have begun : (s.opened codes address b).stats = s.stats := by simp
  rw [begun, (opened_frame s codes address b).1] at counted
  have found := takenBy_recalled s.me address.toNat s.tag s.learning s.table b
  obtain ⟨table, mismatch⟩ := taking_table codes address b s
  obtain ⟨responded, count⟩ := mismatchResponse_recalls
    ((s.taking codes address b).mapState (expelSettled (s.ownFrame address.toNat b)))
  have event : (s.coursed codes address b).ev.recalled = (mismatchResponse
      ((s.taking codes address b).mapState (expelSettled (s.ownFrame address.toNat b)))).ev.recalled := by
    rw [coursed_eq hears]; rfl
  have counters : (s.coursed codes address b).state.stats.counters = (mismatchResponse
      ((s.taking codes address b).mapState (expelSettled (s.ownFrame address.toNat b)))).state.stats.counters := by
    rw [coursed_eq hears]; simp [memberResponse]
  have settledMe : (expelSettled (s.ownFrame address.toNat b) (s.taking codes address b).state).me = s.me :=
    (me_of_loader (by simp)).trans (taking_me codes address b s)
  simp only [mapState_state, mapState_ev, mapState_mismatch, expelSettled_frame, settledMe, table, mismatch] at responded count
  rw [(taking_frame codes address b s).1] at count
  rw [event, counters, coursed_table hears, count, responded]
  unfold tableAfter
  have again := dropOwnEntry_recalled s.me (takenBy s.me address.toNat s.tag s.learning s.table b).table
  have rises := owed_le_dropOwnEntry s.me (takenBy s.me address.toNat s.tag s.learning s.table b).table
  have first : (s.taking codes address b).ev.recalled = (takenBy s.me address.toNat s.tag s.learning s.table b).recalled := flag
  have taken : (s.taking codes address b).state.stats.counters.recalls = _ := counted
  have lowered := mismatch_owed s.me address.toNat s.tag s.learning s.table (b := b)
  rw [first, taken]
  cases other : (takenBy s.me address.toNat s.tag s.learning s.table b).mismatch with
  | false => simp [found]
  | true =>
    simp only [Bool.true_and, Bool.or_eq_true, found, again, if_true, true_and]
    have lowered := lowered other
    refine ⟨by omega, ?_⟩
    cases firstRecall : (takenBy s.me address.toNat s.tag s.learning s.table b).recalled with
    | true => 
      rw [firstRecall] at found
      simp [found.mp rfl]
    | false =>
      rw [firstRecall] at found
      have unraised : ¬owedWritten s.me address.toNat s.tag s.learning s.table b <
          ((takenBy s.me address.toNat s.tag s.learning s.table b).table.rowOf s.me).owed := fun h => by
        have := found.mpr h; cases this
      simp [unraised]

end

end Sys2Proof.Machine
end

section
/-! Behind a taking: the count of recalls and the defrost unit's look, in the words of the statements. -/

namespace Sys2Proof.Machine

/-! ## The defrost unit under a taking -/

theorem setMember_defrost {m : MemberState} (noClash : m ≠ .clash) (x : State) : (setMember m x).defrost = x.defrost := by
  have left : (if x.member.state = .inStep then leaveInStep x else x).defrost = x.defrost := by split <;> simp
  unfold setMember
  dsimp only
  cases m with
  | clash => exact absurd rfl noClash
  | undecided | unconfigured | listen | joining | catchingUp | inStep | mismatched => simp [entered, left]

theorem mismatchResponse_defrost (c : Course) : (mismatchResponse c).state.defrost = c.state.defrost := by
  have dropped : (dropOwnClaim c).state.defrost = c.state.defrost := by simp [dropOwnClaim]
  have entered : ∀ x, (enterMismatch x).defrost = x.defrost := fun x => by
    unfold enterMismatch
    rw [setMember_defrost (by decide)]
    simp [noteConfig]
  unfold mismatchResponse
  split
  · rw [mapState_state]
    split
    · rw [entered, dropped]
    · exact dropped
  · rfl

theorem joinResponse_defrost (own : Bool) (b : Bulletin) (x : State) : (joinResponse own b x).defrost = x.defrost := by
  unfold joinResponse
  (repeat' split)
  · exact setMember_defrost (by decide) _
  · rfl
  · unfold selfExpelled
    rw [(queueKind_frame _ _).2.2.2.2.2.2.2.2.2.1]
    exact setMember_defrost (by decide) _
  · rfl
  · rfl

theorem catchUpResponse_defrost (m : MemberState) (x : State) : (catchUpResponse m x).defrost = x.defrost := by
  unfold catchUpResponse checkCatchUp
  (repeat' split)
  · exact setMember_defrost (by decide) _
  · rfl
  · rfl

/-- Bulletins that are not for the override slots. -/
def Bulletin.slotless (b : Bulletin) : Prop :=
  (∀ kind mask value duration, b ≠ .override kind mask value duration) ∧ ∀ kind mask, b ≠ .cancel kind mask

theorem takeBulletin_defrost (own : Bool) (sender : Nat) {b : Bulletin} (slotless : b.slotless) (x : State) :
    (takeBulletin own sender b x).state.defrost = x.defrost := by
  cases b with
  | allowance => simp only [takeBulletin, takesAllowance]; split <;> simp
  | lapse => simp only [takeBulletin, takesLapse]; split <;> simp
  | expel => simp only [takeBulletin, takesExpel]; split <;> simp
  | join => simp only [takeBulletin, takesJoin]; (repeat' split) <;> simp
  | status => simp only [takeBulletin, takesStatus]; split <;> simp
  | claim => simp only [takeBulletin, takesClaim]; split <;> simp
  | ret => simp only [takeBulletin, takesReturn]; split <;> simp
  | draft => simp only [takeBulletin, takesDraft]; split <;> simp
  | override kind mask value duration => exact absurd rfl (slotless.1 kind mask value duration)
  | cancel kind mask => exact absurd rfl (slotless.2 kind mask)
  | report => simp only [takeBulletin]; split <;> simp
  | snapshot | query | unknown => simp [takeBulletin]

section
variable {codes : Sensors} {address : BitVec 4} {b : Bulletin} {s t : State}

theorem memberResponse_clash {own : Bool} {b : Bulletin} {c : Course} (clash : c.state.member.state = .clash) :
    (memberResponse own b c).state.member.state = .clash := by
  have dropped : (dropOwnClaim c).state.member = c.state.member := by simp [dropOwnClaim]
  have matched : (mismatchResponse c).state.member.state = .clash := by
    unfold mismatchResponse
    split
    · rw [mapState_state, if_neg (by simp [State.mindsMismatch, dropped, clash]), dropped]; exact clash
    · exact clash
  have joined : ∀ x : State, x.member.state = .clash → (joinResponse own b x).member.state = .clash := by
    intro x clash
    unfold joinResponse
    (repeat' split)
    · rename_i joining; simp [clash] at joining
    · exact clash
    · rename_i expelled; simp [clash] at expelled
    · exact clash
    · exact clash
  unfold memberResponse
  rw [mapState_state]
  exact catchUpResponse_clash (x := syncHeard (joinResponse own b (syncAges (mismatchResponse c).state)))
    (joined (syncAges (mismatchResponse c).state) matched) _

/-- Without a foreign frame on the own address nothing comes behind the membership unit's response. -/
theorem coursed_of_calm (hears : s.hears address b) (calm : s.calm address b) :
    (s.coursed codes address b).state =
      (memberResponse (s.ownFrame address.toNat b).isSome b
        ((s.taking codes address b).mapState (expelSettled (s.ownFrame address.toNat b)))).state := by
  obtain ⟨loader, member⟩ := taking_frame codes address b s
  rw [coursed_eq hears, mapState_state]
  refine clashResponse_of_calm ?_
  obtain other | clash | own := calm
  · refine .inr (.inl ?_)
    rw [me_of_loader (s := s)]
    · exact other
    · simp [loader]
  · refine .inr (.inr (memberResponse_clash ?_))
    simp [member, clash]
  · exact .inl own

theorem coursed_defrost (hears : s.hears address b) (calm : s.calm address b) (slotless : b.slotless) :
    (s.coursed codes address b).state.defrost = s.defrost := by
  have taken : (s.taking codes address b).state.defrost = s.defrost :=
    (takeBulletin_defrost _ _ slotless _).trans (by simp)
  rw [coursed_of_calm hears calm]
  unfold memberResponse
  rw [mapState_state, catchUpResponse_defrost]
  show (joinResponse _ _ _).defrost = _
  rw [joinResponse_defrost]
  show (mismatchResponse _).state.defrost = _
  rw [mismatchResponse_defrost]
  simpa using taken

/-- The flags of an event that only the taking sets. -/
theorem coursed_flags (hears : s.hears address b) :
    (s.coursed codes address b).ev.cleared = (s.taking codes address b).ev.cleared ∧
      (s.coursed codes address b).ev.returnDone = (s.taking codes address b).ev.returnDone := by
  rw [coursed_eq hears]
  unfold memberResponse mismatchResponse
  split
  · exact ⟨rfl, rfl⟩
  · exact ⟨rfl, rfl⟩

/-- No own return has ended but by the own RETURN. -/
theorem taking_returnDone (other : (s.ownFrame address.toNat b).isSome = false ∨ ∀ units safetyUnits, b ≠ .ret units safetyUnits) :
    (s.taking codes address b).ev.returnDone = false := by
  unfold State.taking
  cases b with
  | allowance => simp only [takeBulletin, takesAllowance]; split <;> rfl
  | lapse => simp only [takeBulletin, takesLapse]; split <;> rfl
  | expel => simp only [takeBulletin, takesExpel]; split <;> rfl
  | join => simp only [takeBulletin, takesJoin]; (repeat' split) <;> rfl
  | status => simp only [takeBulletin, takesStatus]; split <;> rfl
  | claim => simp only [takeBulletin, takesClaim]; split <;> rfl
  | ret units safetyUnits =>
    obtain foreign | none := other
    · simp only [takeBulletin, takesReturn, foreign]; rfl
    · exact absurd rfl (none units safetyUnits)
  | draft => simp only [takeBulletin, takesDraft]; split <;> rfl
  | report => simp only [takeBulletin]; split <;> rfl
  | override | cancel | snapshot | query | unknown => rfl

theorem FrameTaken.loader (done : FrameTaken codes address b s t) : t.loader = s.loader := by
  rw [← done.ended]
  simp [State.coursed]

theorem FrameTaken.me (done : FrameTaken codes address b s t) : t.me = s.me := me_of_loader done.loader

theorem FrameTaken.ownRow (done : FrameTaken codes address b s t) :
    t.ownRow = (s.coursed codes address b).state.table.rowOf s.me := by
  rw [State.ownRow, done.me, done.table]

/-- One recall more is counted just where the own row owes more than the bulletin wrote into it. -/
theorem FrameTaken.recalls (done : FrameTaken codes address b s t) (hears : s.hears address b)
    (kept : (s.ownFrame address.toNat b).isSome = true → ∀ data, b ≠ .report data) :
    t.stats.counters.recalls =
      if owedWritten s.me address.toNat s.tag s.learning s.table b < t.ownRow.owed then
        bumped s.loader.vt.counterFreeze 1 s.stats.counters.recalls
      else s.stats.counters.recalls := by
  obtain ⟨flagged, counted⟩ := coursed_recalls (codes := codes) hears kept
  rw [done.stats, done.ownRow, counted]
  exact ite_congr (propext flagged) (fun _ => rfl) fun _ => rfl

/-- The loss of units under way, as the statement puts it. -/
theorem losesUnits_iff {ev : Ev} {r u : State} {cleared : Prop} (notReturned : ev.returnDone = false)
    (recalled : ev.recalled = true → r.ownRow.owed < u.ownRow.owed) (clear : ev.cleared = true ↔ cleared) :
    u.losesUnits ev r ↔ (cleared ∨ r.ownRow.owed < u.ownRow.owed) ∧ u.safetyHeld < r.safetyKept := by
  unfold State.losesUnits owedRaised
  rw [notReturned]
  simp only [Bool.not_false, Bool.true_and, Bool.or_eq_true, decide_eq_true_eq, clear]
  grind

/-- The defrost unit's look at a taking that left its block: it leaves waiting, or falls back to it, or stands. -/
theorem defrostSees_of_served {ev : Ev} {r u : State} {cleared : Prop} (begun : SameFigures s r)
    (loader : u.loader = s.loader) (defrost : u.defrost = s.defrost) (ended : finishRunning ev r u = t)
    (lost : u.losesUnits ev r ↔ (cleared ∨ r.ownRow.owed < u.ownRow.owed) ∧ u.safetyHeld < r.safetyKept) :
    DefrostSees cleared s t := by
  have entry : u.isCab = s.isCab := by simp only [State.isCab, State.entry, State.me, loader]
  have row : t.ownRow = u.ownRow := by rw [← ended]; simp only [State.ownRow, State.me, finishRunning_frame]
  have held : t.safetyHeld = u.safetyHeld := by simp only [State.safetyHeld, row]
  have served : t.defrost = (u.served ev r).defrost := by rw [← ended, finishRunning_defrost_eq]
  have ramped : u.rampedDefrost = s.rampedDefrost := rampedDefrost_congr loader defrost
  unfold DefrostSees
  rw [defrostRamps_iff, row, held, ← begun.ownRow, ← begun.safetyKept, ← lost, served]
  refine ⟨fun quiet => ?_, fun cab waiting => ?_, fun cab under => ?_⟩
  · rw [← entry, ← defrost] at quiet
    rw [served_of_quiet quiet, defrost]
  · rw [← entry] at cab
    rw [← defrost] at waiting
    rw [served_of_waiting cab waiting, loader, ramped, defrost]
    exact ⟨fun enough => if_pos enough, fun short => if_neg (by omega)⟩
  · rw [← entry] at cab
    rw [← defrost] at under
    refine ⟨fun lost short => ?_, fun kept => (served_of_kept under kept).trans defrost⟩
    rw [served_of_lost cab under lost, loader, if_neg (by omega), defrost]

/-- A taking that wrote nothing into the own row's units owed. -/
theorem FrameTaken.defrostSees {cleared : Prop} (done : FrameTaken codes address b s t) (hears : s.hears address b)
    (calm : s.calm address b) (slotless : b.slotless)
    (kept : (s.ownFrame address.toNat b).isSome = true → ∀ data, b ≠ .report data)
    (other : (s.ownFrame address.toNat b).isSome = false ∨ ∀ units safetyUnits, b ≠ .ret units safetyUnits)
    (clear : (s.taking codes address b).ev.cleared = true ↔ cleared)
    (written : owedWritten s.me address.toNat s.tag s.learning s.table b = s.ownRow.owed) : DefrostSees cleared s t := by
  obtain ⟨clearedFlag, returned⟩ := coursed_flags (codes := codes) hears
  have loader : (s.coursed codes address b).state.loader = s.loader := by simp [State.coursed]
  have begun : SameFigures s (s.heardFrame codes) := ⟨rfl, rfl, rfl, rfl, rfl, rfl, rfl, rfl⟩
  have row : (s.coursed codes address b).state.ownRow = (s.coursed codes address b).state.table.rowOf s.me := by
    rw [State.ownRow, me_of_loader loader]
  refine defrostSees_of_served begun loader (coursed_defrost hears calm slotless) done.ended
    (losesUnits_iff (returned.trans (taking_returnDone other)) (fun recalled => ?_) (clearedFlag ▸ clear))
  have raised := (coursed_recalls (codes := codes) hears kept).1.mp recalled
  rw [written] at raised
  rwa [begun.ownRow, row]

end

end Sys2Proof.Machine
end

section
/-! Settles O15: CLAIM. -/

namespace Sys2Proof.Machine

section
variable {codes : Sensors} {address : BitVec 4} {b : Bulletin} {s t : State}

/-- An evaluation runs no timer of the share unit but the return timer. -/
theorem FrameTaken.lease (done : FrameTaken codes address b s t) (hears : s.hears address b) :
    t.share.leaseExpired = (s.taking codes address b).state.share.leaseExpired ∧
      t.share.leaseTimer = (s.taking codes address b).state.share.leaseTimer ∧
      t.share.spacingTimer = (s.taking codes address b).state.share.spacingTimer := by
  rw [← done.ended]
  simp only [finishRunning_lease, coursed_blocks hears]
  exact ⟨trivial, trivial, trivial⟩

theorem FrameTaken.matchedTable (done : FrameTaken codes address b s t) (hears : s.hears address b)
    (matched : (takenBy s.me address.toNat s.tag s.learning s.table b).mismatch = false) :
    t.table = (takenBy s.me address.toNat s.tag s.learning s.table b).table := by
  rw [done.table, coursed_table hears]
  unfold tableAfter
  rw [if_neg (by simp [matched])]

end

/-! ## The table under a claim -/

section
variable {me station : Nat} {units rank : Byte} {t : ShareTable} {r : Row}

theorem claimRank_iff (r : Row) (units rank : Byte) (k : Rank) :
    claimRank r units rank = some k ↔
      r.state = .present ∧ units.toNat ≤ 63 ∧ rankOf rank.toNat = some k ∧ (k = .safety → r.role = .cab) := by
  unfold claimRank
  by_cases refused : r.state ≠ .present ∨ 63 < units.toNat
  · rw [if_pos refused]
    refine ⟨nofun, fun ⟨present, within, _⟩ => ?_⟩
    obtain gone | many := refused
    · exact absurd present gone
    · omega
  · rw [if_neg refused]
    rw [not_or, Decidable.not_not] at refused
    obtain ⟨present, within⟩ := refused
    cases rankOf rank.toNat with
    | none => simp
    | some given =>
      have few : units.toNat ≤ 63 := by omega
      cases given with
      | safety => by_cases cab : r.role = .cab <;> cases k <;> simp [present, few, cab]
      | draft => cases k <;> simp [present, few]
      | normal => cases k <;> simp [present, few]

/-- A claim that the table refuses. -/
theorem takeClaim_refused (found : t.row? station = some r)
    (refused : r.state ≠ .present ∨ 63 < units.toNat ∨
      (units ≠ 0 ∧ (rankOf rank.toNat = none ∨ (rankOf rank.toNat = some .safety ∧ r.role ≠ .cab)))) :
    takeClaim me station units rank t = Taken.nothing t := by
  unfold takeClaim
  rw [found]
  dsimp only
  by_cases none : units = 0
  · rw [if_pos none, if_neg]
    rintro ⟨present, _⟩
    obtain gone | many | ⟨asks, _⟩ := refused
    · exact gone present
    · rw [none] at many; simp at many
    · exact asks none
  · rw [if_neg none]
    have rankless : claimRank r units rank = Option.none := by
      rw [Option.eq_none_iff_forall_ne_some]
      intro k given
      obtain ⟨present, within, ranked, cab⟩ := (claimRank_iff r units rank k).mp given
      obtain gone | many | ⟨_, unranked | ⟨safety, saloon⟩⟩ := refused
      · exact gone present
      · omega
      · rw [unranked] at ranked; cases ranked
      · rw [safety] at ranked
        exact saloon (cab (Option.some.inj ranked).symm)
    rw [rankless]

/-- A claim of nothing withdraws the entry. -/
theorem takeClaim_none (found : t.row? station = some r) (present : r.state = .present) :
    (takeClaim me station 0 rank t).table =
      if t.hasEntry station then
        ((({ t with queue := dropEntry station t.queue } : ShareTable).evaluateOverdrawn false).serviceRound).evaluateOverdrawn
          false
      else t.evaluateOverdrawn false := by
  unfold takeClaim
  rw [found]
  dsimp only
  rw [if_pos rfl]
  by_cases waits : t.hasEntry station = true
  · rw [if_pos ⟨present, waits⟩, if_pos waits]; rfl
  · rw [if_neg (fun h => waits h.2), if_neg waits]; rfl

theorem grantsAtOnce_iff (t : ShareTable) (units : Nat) :
    t.grantsAtOnce units = true ↔
      t.queue = [] ∧ t.overdrawn = false ∧ t.leaseState = .current ∧ units ≤ t.free := by
  unfold ShareTable.grantsAtOnce
  cases t.queue <;> simp [and_assoc]

/-- A claim that is in order is granted at once or takes its place in the queue. -/
theorem takeClaim_ranked {k : Rank} (found : t.row? station = some r) (asks : units ≠ 0)
    (ranked : claimRank r units rank = some k) :
    (takeClaim me station units rank t).table =
      if t.queue = [] ∧ t.overdrawn = false ∧ t.leaseState = .current ∧ units.toNat ≤ t.free then
        (t.update station (Row.granted units.toNat k)).evaluateOverdrawn false
      else
        ((({ t with
            queue := setEntry { station, units := units.toNat, rank := k, standing := t.keptStanding station } t.queue } :
          ShareTable).evaluateOverdrawn false).serviceRound).evaluateOverdrawn false := by
  unfold takeClaim
  rw [found]
  dsimp only
  rw [if_neg asks, ranked]
  dsimp only
  by_cases atOnce : t.grantsAtOnce units.toNat = true
  · rw [if_pos atOnce, if_pos ((grantsAtOnce_iff t units.toNat).mp atOnce)]
    exact evaluateOverdrawn_twice _
  · rw [if_neg atOnce, if_neg (fun h => atOnce ((grantsAtOnce_iff t units.toNat).mpr h))]
    rfl

end

theorem taking_claim (codes : Sensors) (address : BitVec 4) (units rank : Byte) (s : State) :
    (s.taking codes address (.claim units rank)).state.doors = s.doors ∧
      (s.taking codes address (.claim units rank)).state.overrides =
        (s.opened codes address (.claim units rank)).overrides ∧
      (s.taking codes address (.claim units rank)).ev.cleared = false ∧
      (s.taking codes address (.claim units rank)).state.share =
        { s.share with
          spacingTimer :=
            if (s.ownFrame address.toNat (.claim units rank)).isSome ∧ 1 ≤ units.toNat ∧ units.toNat ≤ 63 then
              some s.loader.vt.claimSpacing
            else s.share.spacingTimer } := by
  show (takesClaim _ _ _ _ _).state.doors = _ ∧ (takesClaim _ _ _ _ _).state.overrides = _ ∧
    (takesClaim _ _ _ _ _).ev.cleared = _ ∧ (takesClaim _ _ _ _ _).state.share = _
  unfold takesClaim
  dsimp only
  split
  · refine ⟨by simp, by simp, rfl, ?_⟩
    simp only [mapState_state, tableTaken_frame, opened_frame]
  · refine ⟨by simp, by simp, rfl, ?_⟩
    simp only [tableTaken_frame, opened_frame]

/-- Settles O15: CLAIM is granted at once, queued or refused. -/
theorem claimTaken : Obligations.ClaimTaken := by
  intro codes address units rank s r running passes hears found
  obtain ⟨t, next, done⟩ := frame_taken (c := .claim codes address units rank) rfl running passes hears
  have table : t.table = (takeClaim s.me address.toNat units rank s.table).table :=
    done.matchedTable hears (takeClaim_mismatch ..)
  obtain ⟨doors, overrides, cleared, share⟩ := taking_claim codes address units rank s
  obtain ⟨_, _, spacing⟩ := done.lease hears
  rw [share] at spacing
  have written : owedWritten s.me address.toNat s.tag s.learning s.table (.claim units rank) = s.ownRow.owed := rfl
  have recalls := done.recalls hears (fun _ => nofun)
  have evaluated := done.evaluated { s.share with spacingTimer := t.share.spacingTimer } (share.trans (by rw [spacing])) (.inr rfl)
  refine ⟨t, next, fun refused => ?_, fun present none => ?_, fun k present asks within ranked cab => ?_, spacing,
    fun _ => recalls, fun _ calm => ?_, evaluated, done.supply, done.doors.trans doors,
    (done.overrides.trans overrides).trans (opened_overrides_of_station (station_of_passes rfl passes))⟩
  · rw [takeClaim_refused found refused] at table
    exact ⟨table, fun law => table.trans (nothing_of_flagLaw law)⟩
  · subst none
    exact table.trans (takeClaim_none found present)
  · exact table.trans (takeClaim_ranked found asks ((claimRank_iff r units rank k).mpr ⟨present, within, ranked, cab⟩))
  · exact done.defrostSees hears calm ⟨nofun, nofun⟩ (fun _ => nofun) (.inr nofun) (by simp [cleared]) written

end Sys2Proof.Machine
end

section
/-! Settles O10 and O11: ALLOWANCE and LAPSE. -/

namespace Sys2Proof.Machine

/-! ## Lease news and the own LAPSE behind a taking -/

section
variable {codes : Sensors} {address : BitVec 4} {b : Bulletin} {s t : State}

theorem joinResponse_leaseNews (own : Bool) (b : Bulletin) (x : State) :
    (joinResponse own b x).member.leaseNews = x.member.leaseNews := by
  unfold joinResponse
  (repeat' split)
  · simp [ownJoinTaken]
  · rfl
  · simp
  · rfl
  · rfl

theorem catchUpResponse_leaseNews (m : MemberState) (x : State) :
    (catchUpResponse m x).member.leaseNews = x.member.leaseNews := by
  unfold catchUpResponse
  split
  · simp
  · rfl

theorem mismatchResponse_leaseNews (c : Course) :
    (mismatchResponse c).state.member.leaseNews = c.state.member.leaseNews := by
  have dropped : (dropOwnClaim c).state.member = c.state.member := by simp [dropOwnClaim]
  unfold mismatchResponse
  split
  · rw [mapState_state]
    split
    · rw [(enterMismatch_ages _).2, dropped]
    · rw [dropped]
  · rfl

theorem expelSettled_leaseNews (own : Option OwnFrame) (x : State) :
    (expelSettled own x).member.leaseNews = x.member.leaseNews := by
  unfold expelSettled
  (repeat' split) <;> rfl

theorem coursed_leaseNews (hears : s.hears address b) :
    (s.coursed codes address b).state.member.leaseNews = (s.taking codes address b).state.member.leaseNews := by
  rw [coursed_eq hears, mapState_state, (clashResponse_ages _ _ _).2]
  unfold memberResponse
  rw [mapState_state, catchUpResponse_leaseNews]
  show (joinResponse _ _ _).member.leaseNews = _
  rw [joinResponse_leaseNews]
  show (mismatchResponse _).state.member.leaseNews = _
  rw [mismatchResponse_leaseNews, mapState_state, expelSettled_leaseNews]

theorem opened_leaseNews (codes : Sensors) (address : BitVec 4) (b : Bulletin) (s : State) :
    (s.opened codes address b).member.leaseNews = s.member.leaseNews := by
  unfold State.opened
  simp only [hearPanel_frame]
  unfold addressed closeOwnFrame
  cases s.ownFrame address.toNat b <;> rfl

theorem FrameTaken.leaseNews (done : FrameTaken codes address b s t) (hears : s.hears address b) :
    t.member.leaseNews = (s.taking codes address b).state.member.leaseNews := by
  rw [← done.ended, (finishRunning_member _ _ _).2.2.2.2.2.1, coursed_leaseNews hears]

/-- A clash empties the queue. -/
theorem hasTx_setMember_clash (kind : TxKind) (x : State) : (setMember .clash x).hasTx kind = false := by
  obtain ⟨⟨_, queue, _⟩, _⟩ := setMember_clash x
  simp [State.hasTx, queue]

theorem hasTx_clashResponse {kind : TxKind} (own : Bool) (address : Nat) {x : State} (unasked : x.hasTx kind = false) :
    (clashResponse own address x).hasTx kind = false := by
  unfold clashResponse
  split
  · exact hasTx_setMember_clash kind _
  · exact unasked

/-- Entering step asks for LAPSE only where the lease ran out. -/
theorem hasTx_lapse_catchUpResponse {x : State} (unasked : x.hasTx .lapse = false)
    (current : x.member.state ≠ .catchingUp ∨ x.share.leaseExpired = false) :
    (catchUpResponse x.member.state x).hasTx .lapse = false := by
  by_cases catching : x.member.state = .catchingUp
  · have current := current.resolve_left (not_not_intro catching)
    unfold catchUpResponse checkCatchUp
    rw [if_pos catching]
    split
    · unfold setMember entered enterInStep
      rw [if_neg (by simp [catching])]
      dsimp only
      rw [if_neg (by simp [current]), hasTx_startStatus (by decide)]
      exact unasked
    · exact unasked
  · rw [catchUpResponse_of_other catching]; exact unasked

theorem FrameTaken.noLapse (done : FrameTaken codes address b s t) (hears : s.hears address b) (plain : b.plain)
    (matched : (s.taking codes address b).mismatch = false) (running : s.running = true)
    (unasked : (s.taking codes address b).state.hasTx .lapse = false)
    (current : s.member.state ≠ .catchingUp ∨ (s.taking codes address b).state.share.leaseExpired = false) :
    t.hasTx .lapse = false := by
  have unmoved := mismatchResponse_of_none ((s.taking codes address b).mapState (expelSettled (s.ownFrame address.toNat b)))
    matched
  rw [← done.ended, ← finish_of_running (takenFrom_coursed codes address b running).running, hasTx_finish (by decide),
    coursed_eq hears, mapState_state]
  refine hasTx_clashResponse _ _ ?_
  unfold memberResponse
  rw [unmoved]
  simp only [mapState_state, joinResponse_of_plain plain]
  refine hasTx_lapse_catchUpResponse
    (x := syncHeard (syncAges (expelSettled (s.ownFrame address.toNat b) (s.taking codes address b).state))) ?_ ?_
  · exact (hasTx_of_queue (by simp) _).trans unasked
  · have member : (syncHeard (syncAges (expelSettled (s.ownFrame address.toNat b) (s.taking codes address b).state))).member.state =
        s.member.state := (expelSettled_member_state _ _).trans (taking_frame codes address b s).2
    rw [member]
    simpa using current

/-- Where the own LAPSE is not in flight, or is the frame that ends, withdrawing it takes it off the queue. -/
theorem withdrawn_lapse (grounded : s.flying .lapse = false ∨ (s.ownFrame address.toNat b).isSome = true) {x : State}
    (bus : x.bus = (s.opened codes address b).bus) : (withdrawKind .lapse x).hasTx .lapse = false := by
  refine withdrawKind_gone .lapse x ?_
  have read : x.flying .lapse = (s.opened codes address b).flying .lapse := by simp only [State.flying, bus]
  rw [read]
  cases own : s.ownFrame address.toNat b with
  | some f => simp [State.flying, opened_grounded (codes := codes) (by rw [own]; rfl)]
  | none =>
    rw [own] at grounded
    have same : (s.opened codes address b).bus.inFlight = s.bus.inFlight := by
      unfold State.opened
      rw [own]
      simp [addressed, closeOwnFrame, resetAge]
      rfl
    have flying : s.flying .lapse = false := grounded.resolve_right (by simp)
    rw [← flying]
    simp only [State.flying, same]

end

/-! ## ALLOWANCE -/

theorem allowanceValid_iff (leaseTime tag : Byte) :
    allowanceValid leaseTime tag = true ↔ 1 ≤ leaseTime.toNat ∧ leaseTime.toNat ≤ 10 ∧ tag ≠ 0 := by
  unfold allowanceValid
  simp [and_assoc]

section
variable {codes : Sensors} {address : BitVec 4} {units leaseTime fallback tag : Byte} {s : State}

theorem taking_allowance_valid (valid : allowanceValid leaseTime tag = true) :
    s.taking codes address (.allowance units leaseTime fallback tag) =
      (tableTaken (takeAllowance s.me units leaseTime fallback tag s.table)
        (s.opened codes address (.allowance units leaseTime fallback tag))).mapState (leaseRenewed leaseTime.toNat) := by
  have figures := opened_figures codes address (.allowance units leaseTime fallback tag) s
  have table := (opened_frame s codes address (.allowance units leaseTime fallback tag)).2.1
  unfold State.taking takeBulletin takesAllowance
  dsimp only
  rw [figures.1, table]
  unfold takeAllowance
  rw [if_pos valid]

theorem taking_allowance_void (void : ¬allowanceValid leaseTime tag = true) :
    s.taking codes address (.allowance units leaseTime fallback tag) =
      tableTaken (Taken.nothing s.table) (s.opened codes address (.allowance units leaseTime fallback tag)) := by
  have table := (opened_frame s codes address (.allowance units leaseTime fallback tag)).2.1
  unfold State.taking takeBulletin takesAllowance
  dsimp only
  rw [table]
  unfold takeAllowance
  rw [if_neg void]
  rfl

end

/-- Settles O10: a valid ALLOWANCE renews the lease and recalls what exceeds the pool. -/
theorem allowanceTaken : Obligations.AllowanceTaken := by
  intro codes units leaseTime fallback tag s running
  have panel : 8 ≤ (9 : BitVec 4).toNat := by decide
  have hears : s.hears 9 (.allowance units leaseTime fallback tag) := hears_of_foreign (ownFrame_of_panel panel)
  obtain ⟨t, next, done⟩ := frame_taken (c := .allowance codes 9 units leaseTime fallback tag) rfl running rfl hears
  have table : t.table = (takeAllowance s.me units leaseTime fallback tag s.table).table :=
    done.matchedTable hears (takeAllowance_mismatch ..)
  obtain ⟨expired, timer, _⟩ := done.lease hears
  have news := done.leaseNews hears
  have recalls := done.recalls hears (fun _ => nofun)
  have rest : (s.taking codes 9 (.allowance units leaseTime fallback tag)).state.doors = s.doors ∧
      (s.taking codes 9 (.allowance units leaseTime fallback tag)).state.overrides = s.overrides ∧
      (s.taking codes 9 (.allowance units leaseTime fallback tag)).ev.cleared = false ∧
      (s.taking codes 9 (.allowance units leaseTime fallback tag)).state.share =
        { s.share with leaseTimer := t.share.leaseTimer, leaseExpired := t.share.leaseExpired } := by
    rw [expired, timer]
    by_cases valid : allowanceValid leaseTime tag = true
    · rw [taking_allowance_valid valid]
      refine ⟨by simp, by simp [opened_overrides], rfl, by simp [leaseRenewed]⟩
    · rw [taking_allowance_void valid]
      refine ⟨by simp, by simp [opened_overrides], rfl, by simp⟩
  obtain ⟨doors, overrides, cleared, share⟩ := rest
  refine ⟨t, next, fun valid => ?_, fun void => ?_, fun _ => ⟨recalls, ?_⟩, done.evaluated _ share (.inr rfl), done.supply,
    done.doors.trans doors, done.overrides.trans overrides⟩
  · have valid := (allowanceValid_iff leaseTime tag).mpr valid
    have taken := taking_allowance_valid (codes := codes) (address := 9) (units := units) (fallback := fallback) (s := s) valid
    have stored : t.table =
        ((({ s.table with
            allowance := units.toNat, fallback := fallback.toNat, leaseTag := tag, leaseState := .current } :
          ShareTable).recallExcess.evaluateOverdrawn false).serviceRound).evaluateOverdrawn false := by
      rw [table, takeAllowance, if_pos valid]; rfl
    refine ⟨stored, ?_, ?_, ?_, ?_, ?_, ?_, ?_, fun grounded => ?_⟩
    · rw [stored]; simp
    · rw [stored]; simp
    · rw [stored]; simp
    · rw [stored]; simp
    · rw [timer, taken]; simp [leaseRenewed]
    · rw [expired, taken]; simp [leaseRenewed]
    · rw [news, taken]; simp [leaseRenewed]
    · refine done.noLapse hears ⟨nofun, nofun⟩ (by rw [taken, mapState_mismatch]; exact takeAllowance_mismatch ..) running ?_
        (.inr (by rw [taken]; simp [leaseRenewed]))
      rw [taken]
      exact withdrawn_lapse (codes := codes) (address := 9) (b := .allowance units leaseTime fallback tag) (.inl grounded) (by simp)
  · have void : ¬allowanceValid leaseTime tag = true := fun valid => void ((allowanceValid_iff leaseTime tag).mp valid)
    have taken := taking_allowance_void (codes := codes) (address := 9) (units := units) (fallback := fallback) (s := s) void
    rw [takeAllowance, if_neg void] at table
    refine ⟨table, fun law => table.trans (nothing_of_flagLaw law), ?_, ?_, ?_⟩
    · rw [timer, taken]; simp
    · rw [expired, taken]; simp
    · rw [news, taken]; simp [opened_leaseNews]
  · exact done.defrostSees hears (calm_of_panel panel) ⟨nofun, nofun⟩ (fun _ => nofun) (.inr nofun) (by rw [cleared]; simp) rfl

/-! ## LAPSE -/

/-- Rows of which nothing is held owe all that they borrowed. -/
theorem rows_of_held_zero {t : ShareTable} (law : RowsLaw t) (none : t.held = 0) :
    ∀ r ∈ t.rows, r.owed = r.borrowed := by
  intro r mem
  have zero := List.sum_eq_zero_iff_forall_eq_nat.mp none r.held (List.mem_map_of_mem mem)
  have within := (law r mem).1
  simp only [Row.held] at zero
  omega

/-- When the lease lapses all that is borrowed is recalled. -/
theorem recallExcess_lapsed {t : ShareTable} (law : RowsLaw t) (lapsed : t.leaseState = .lapsed) :
    t.recallExcess.held = 0 ∧ t.recallExcess.rows = t.rows.map (fun r => { r with owed := r.borrowed }) := by
  obtain ⟨held, kept, _, rows, _⟩ := (allowanceRecallMeetsPool t).1 law
  have none : t.recallExcess.held = 0 := by rw [held, pool_of_lapsed lapsed]; exact Nat.min_zero _
  refine ⟨none, ?_⟩
  have owes := rows_of_held_zero kept none
  calc t.recallExcess.rows
      = t.recallExcess.rows.map (fun r => { r with owed := r.borrowed }) := by
        refine (List.map_id _).symm.trans (List.map_congr_left fun r mem => ?_)
        exact (congrArg (fun owed => ({ r with owed } : Row)) (owes r mem) :)
    _ = (t.recallExcess.rows.map (fun r => { r with owed := 0 })).map (fun r => { r with owed := r.borrowed }) := by
        rw [List.map_map]; rfl
    _ = t.rows.map (fun r => { r with owed := r.borrowed }) := by
        rw [rows, List.map_map]; rfl

section
variable {me : Nat} {tag : Byte} {t : ShareTable}

theorem lapseApplies_iff (t : ShareTable) (tag : Byte) :
    t.lapseApplies tag = true ↔ t.leaseState = .current ∧ t.leaseTag = tag := by
  unfold ShareTable.lapseApplies
  simp

theorem takeLapse_table (applies : t.lapseApplies tag = true) :
    (takeLapse me tag t).table =
      (({ ({ t with leaseState := .lapsed } : ShareTable).recallExcess with queue := [] } :
        ShareTable).evaluateOverdrawn false).evaluateOverdrawn false := by
  unfold takeLapse
  rw [if_pos applies]
  rfl

/-- The table behind a lapse: nothing waits, and all that is borrowed is owed. -/
theorem takeLapse_applied (applies : t.lapseApplies tag = true) :
    (takeLapse me tag t).table.leaseState = .lapsed ∧ (takeLapse me tag t).table.queue = [] ∧
      (takeLapse me tag t).table.allowance = t.allowance ∧ (takeLapse me tag t).table.fallback = t.fallback ∧
      (takeLapse me tag t).table.leaseTag = t.leaseTag ∧
      (RowsLaw t →
        (takeLapse me tag t).table.rows = t.rows.map (fun r => { r with owed := r.borrowed }) ∧
          (takeLapse me tag t).table.overdrawn = false) := by
  rw [takeLapse_table applies]
  refine ⟨rfl, rfl, rfl, rfl, rfl, fun law => ?_⟩
  obtain ⟨none, rows⟩ := recallExcess_lapsed (t := { t with leaseState := .lapsed }) law rfl
  refine ⟨rows, ?_⟩
  have held : (({ ({ t with leaseState := .lapsed } : ShareTable).recallExcess with queue := [] } :
      ShareTable).evaluateOverdrawn false).held = 0 := none
  rw [ShareTable.evaluateOverdrawn, held, if_pos (Nat.zero_le _)]

end

section
variable {codes : Sensors} {address : BitVec 4} {tag : Byte} {s : State}

theorem taking_lapse_applied (applies : s.table.lapseApplies tag = true) :
    s.taking codes address (.lapse tag) =
      (tableTaken (takeLapse s.me tag s.table) (s.opened codes address (.lapse tag))).mapState leaseEnded := by
  have figures := opened_figures codes address (.lapse tag) s
  have table := (opened_frame s codes address (.lapse tag)).2.1
  unfold State.taking takeBulletin takesLapse
  dsimp only
  rw [figures.1, table]
  unfold takeLapse
  rw [if_pos applies]
  rfl

theorem taking_lapse_other (other : ¬s.table.lapseApplies tag = true) :
    s.taking codes address (.lapse tag) = tableTaken (Taken.nothing s.table) (s.opened codes address (.lapse tag)) := by
  have table := (opened_frame s codes address (.lapse tag)).2.1
  unfold State.taking takeBulletin takesLapse
  dsimp only
  rw [table]
  unfold takeLapse
  rw [if_neg other]
  rfl

end

/-- Settles O11: LAPSE of the current lease ends it: the queue goes and all is recalled. -/
theorem lapseTaken : Obligations.LapseTaken := by
  intro codes address tag s running passes hears
  obtain ⟨t, next, done⟩ := frame_taken (c := .lapse codes address tag) rfl running passes hears
  have table : t.table = (takeLapse s.me tag s.table).table := done.matchedTable hears (takeLapse_mismatch ..)
  obtain ⟨expired, timer, _⟩ := done.lease hears
  have news := done.leaseNews hears
  have recalls := done.recalls hears (fun _ => nofun)
  have station := station_of_passes rfl passes
  have rest : (s.taking codes address (.lapse tag)).state.doors = s.doors ∧
      (s.taking codes address (.lapse tag)).state.overrides = s.overrides ∧
      (s.taking codes address (.lapse tag)).ev.cleared = false ∧
      (s.taking codes address (.lapse tag)).state.share = { s.share with leaseTimer := t.share.leaseTimer } := by
    rw [timer]
    by_cases applies : s.table.lapseApplies tag = true
    · rw [taking_lapse_applied applies]
      exact ⟨by simp, by simp [opened_overrides_of_station station], rfl, by simp [leaseEnded]⟩
    · rw [taking_lapse_other applies]
      exact ⟨by simp, by simp [opened_overrides_of_station station], rfl, by simp⟩
  obtain ⟨doors, overrides, cleared, share⟩ := rest
  have unexpired : (s.taking codes address (.lapse tag)).state.share.leaseExpired = s.share.leaseExpired := by rw [share]
  refine ⟨t, next, fun applies => ?_, fun other => ?_, fun _ => recalls, fun _ calm => ?_, done.evaluated _ share (.inr rfl),
    expired.trans unexpired, done.supply, done.doors.trans doors, done.overrides.trans overrides⟩
  · have applies := (lapseApplies_iff s.table tag).mpr applies
    have taken := taking_lapse_applied (codes := codes) (address := address) applies
    obtain ⟨state, queue, allowance, fallback, leaseTag, recalled⟩ := takeLapse_applied (me := s.me) applies
    rw [table]
    refine ⟨state, queue, allowance, fallback, leaseTag, ?_, ?_, fun grounded current => ?_, recalled⟩
    · rw [timer, taken]; simp [leaseEnded]
    · rw [news, taken]; simp [leaseEnded]
    · refine done.noLapse hears ⟨nofun, nofun⟩ (by rw [taken, mapState_mismatch]; exact takeLapse_mismatch ..) running ?_
        (by rw [unexpired]; exact current)
      rw [taken]
      exact withdrawn_lapse (codes := codes) (address := address) (b := .lapse tag) grounded (by simp)
  · have other : ¬s.table.lapseApplies tag = true := fun applies => other ((lapseApplies_iff s.table tag).mp applies)
    have taken := taking_lapse_other (codes := codes) (address := address) other
    rw [takeLapse, if_neg other] at table
    refine ⟨table, fun law => table.trans (nothing_of_flagLaw law), ?_, ?_⟩
    · rw [timer, taken]; simp
    · rw [news, taken]; simp [opened_leaseNews]
  · exact done.defrostSees hears calm ⟨nofun, nofun⟩ (fun _ => nofun) (.inr nofun) (by rw [cleared]; simp) rfl

end Sys2Proof.Machine
end

section
/-! Settles O12 and O13: EXPEL and JOIN. -/

namespace Sys2Proof.Machine

/-! ## The own DRAFT behind the membership unit's response -/

/-- Requests that no change of the membership state touches, but for a clash. -/
def TxKind.untouched (kind : TxKind) : Prop :=
  kind ∉ [TxKind.claim, .lapse, .expel, .status, .report, .join]

theorem draft_untouched : TxKind.draft.untouched := by simp [TxKind.untouched]

theorem withdraws_other {kind other : TxKind} (untouched : kind.untouched)
    (withdrawn : other ∈ [TxKind.claim, .lapse, .expel, .status, .report, .join]) : other ≠ kind := by
  rintro rfl
  exact untouched withdrawn

theorem setMember_keeps {m : MemberState} (noClash : m ≠ .clash) {kind : TxKind} (untouched : kind.untouched) {x : State}
    (sends : x.sending kind) : (setMember m x).sending kind := by
  have others := fun other => withdraws_other (other := other) untouched
  have left : (if x.member.state = .inStep then leaveInStep x else x).sending kind := by
    split
    · unfold leaveInStep
      exact withdrawKind_keeps _ _ _ (others .expel (by simp)) (withdrawKind_keeps _ _ _ (others .lapse (by simp))
        (withdrawKind_keeps _ _ _ (others .claim (by simp)) sends))
    · exact sends
  unfold setMember
  dsimp only
  generalize (if x.member.state = .inStep then leaveInStep x else x) = w at left
  have stopped : (stopStatus { w with member := { w.member with state := m } }).sending kind := by
    unfold stopStatus dropReport
    exact withdrawKind_keeps _ _ _ (others .report (by simp)) (sending_of_bus_eq (s := withdrawKind .status _) rfl
      (withdrawKind_keeps _ _ _ (others .status (by simp)) left))
  have started : (startStatus { w with member := { w.member with state := m } }).sending kind :=
    queueKind_keeps .status kind _ left
  cases m with
  | clash => exact absurd rfl noClash
  | undecided | unconfigured => exact left
  | listen | joining => exact stopped
  | catchingUp | mismatched => exact started
  | inStep =>
    show (enterInStep _).sending kind
    unfold enterInStep
    split
    · exact queueKind_keeps _ _ _ started
    · exact started

theorem joinResponse_keeps {own : Bool} {b : Bulletin} {kind : TxKind} (untouched : kind.untouched) {x : State}
    (sends : x.sending kind) : (joinResponse own b x).sending kind := by
  unfold joinResponse
  (repeat' split)
  · exact setMember_keeps (by decide) untouched sends
  · exact sends
  · exact queueKind_keeps _ _ _ (setMember_keeps (by decide) untouched sends)
  · exact sends
  · exact sends

theorem catchUpResponse_keeps {m : MemberState} {kind : TxKind} (untouched : kind.untouched) {x : State}
    (sends : x.sending kind) : (catchUpResponse m x).sending kind := by
  unfold catchUpResponse checkCatchUp
  (repeat' split)
  · exact setMember_keeps (by decide) untouched sends
  · exact sends
  · exact sends

theorem mismatchResponse_keeps {kind : TxKind} (untouched : kind.untouched) {c : Course}
    (sends : c.state.sending kind) : (mismatchResponse c).state.sending kind := by
  have dropped : (dropOwnClaim c).state.sending kind := sending_of_bus_eq (by simp [dropOwnClaim]) sends
  unfold mismatchResponse
  split
  · rw [mapState_state]
    split
    · unfold enterMismatch
      refine setMember_keeps (by decide) untouched ?_
      exact sending_of_bus_eq (s := withdrawKind .join (dropOwnClaim c).state) (by simp [noteConfig])
        (withdrawKind_keeps _ _ _ (withdraws_other untouched (by simp)) dropped)
    · exact dropped
  · exact sends

section
variable {codes : Sensors} {address : BitVec 4} {b : Bulletin} {s t : State}

theorem clashResponse_of_unclashed {own : Bool} {address : Nat} {x : State}
    (noClash : (clashResponse own address x).member.state ≠ .clash) : clashResponse own address x = x := by
  unfold clashResponse at noClash ⊢
  split
  · rename_i clashes
    rw [if_pos clashes] at noClash
    exact absurd (setMember_state .clash x) noClash
  · rfl

theorem FrameTaken.memberState (done : FrameTaken codes address b s t) :
    t.member.state = (s.coursed codes address b).state.member.state := by
  rw [← done.ended, (finishRunning_member _ _ _).1]

theorem coursed_of_unclashed (hears : s.hears address b) (noClash : (s.coursed codes address b).state.member.state ≠ .clash) :
    (s.coursed codes address b).state =
      (memberResponse (s.ownFrame address.toNat b).isSome b
        ((s.taking codes address b).mapState (expelSettled (s.ownFrame address.toNat b)))).state := by
  rw [coursed_eq hears, mapState_state] at noClash ⊢
  exact clashResponse_of_unclashed noClash

/-- A request that the taking leaves stands to the end of the command, unless a clash comes. -/
theorem FrameTaken.keeps (done : FrameTaken codes address b s t) (hears : s.hears address b) (running : s.running = true)
    {kind : TxKind} (untouched : kind.untouched) (ret : kind ≠ .ret) (noClash : t.member.state ≠ .clash)
    (sends : (s.taking codes address b).state.sending kind) : t.sending kind := by
  rw [done.memberState] at noClash
  have settled : (expelSettled (s.ownFrame address.toNat b) (s.taking codes address b).state).sending kind :=
    sending_of_bus_eq (by simp) sends
  have responded : (s.coursed codes address b).state.sending kind := by
    rw [coursed_of_unclashed hears noClash]
    exact catchUpResponse_keeps untouched (x := syncHeard (joinResponse _ b (syncAges (mismatchResponse _).state)))
      (joinResponse_keeps (x := syncAges (mismatchResponse _).state) untouched (mismatchResponse_keeps untouched settled))
  rw [← done.ended, ← finish_of_running (takenFrom_coursed codes address b running).running]
  exact finish_keeps _ _ _ _ (withdraws_other untouched (by simp)).symm ret (withdraws_other untouched (by simp)).symm responded

/-- A clash that stands before the frame stands behind it. -/
theorem FrameTaken.clash (done : FrameTaken codes address b s t) (hears : s.hears address b) (clash : s.member.state = .clash) :
    t.member.state = .clash := by
  rw [done.memberState, coursed_of_calm hears (.inr (.inl clash))]
  refine memberResponse_clash ?_
  simp [(taking_frame codes address b s).2, clash]

theorem forgetStated_sending {x : State} (accepts : x.acceptsRequests = true) (boosts : x.doors.oneShot ≠ .idle) :
    (forgetStated x).sending .draft := by
  have active : ({ x with doors := { x.doors with lastStated := false } } : State).boostActive = true :=
    (boostActive_iff _).mpr boosts
  unfold forgetStated
  dsimp only
  rw [if_pos active]
  exact queueKind_sending .draft _ accepts

theorem forgetStated_doors (x : State) : (forgetStated x).doors = { x.doors with lastStated := false } := by
  unfold forgetStated
  dsimp only
  split
  · simp
  · rfl

theorem accepts_of_member {x : State} (member : x.member.state = s.member.state) (running : s.running = true)
    (noClash : s.member.state ≠ .clash) : x.acceptsRequests = true :=
  acceptsRequests_of_running ((running_of_member member).trans running) (by rw [member]; exact noClash)

end

/-! ## EXPEL -/

section
variable {codes : Sensors} {address : BitVec 4} {station : Byte} {s : State}

theorem taking_expel (codes : Sensors) (address : BitVec 4) (station : Byte) (s : State) :
    s.taking codes address (.expel station) =
      if station.toNat = s.me then
        { (tableTaken (takeExpel s.me station.toNat s.table) (s.opened codes address (.expel station))).mapState
            (fun x => forgetStated (dropSpill station.toNat x)) with
          ev := { (tableTaken (takeExpel s.me station.toNat s.table) (s.opened codes address (.expel station))).ev with
            cleared := s.ownRow.state != .absent } }
      else (tableTaken (takeExpel s.me station.toNat s.table) (s.opened codes address (.expel station))).mapState
        (dropSpill station.toNat) := by
  have me := opened_me s codes address (.expel station)
  have table := (opened_frame s codes address (.expel station)).2.1
  have row : (s.opened codes address (.expel station)).ownRow = s.ownRow := by rw [State.ownRow, me, table]; rfl
  show takesExpel station _ = _
  unfold takesExpel
  dsimp only
  rw [me, table, row]
  rfl

theorem takeExpel_of_absent {me station : Nat} {t : ShareTable}
    (absent : (t.row? station).all (fun r => r.state == .absent) = true) :
    takeExpel me station t = Taken.nothing t := by
  unfold takeExpel
  split
  · rfl
  · rename_i r found
    rw [found] at absent
    rw [if_pos (by simpa using absent)]

theorem takeExpel_of_row {me station : Nat} {t : ShareTable} {r : Row} (found : t.row? station = some r)
    (there : r.state ≠ .absent) : takeExpel me station t = (t.clearRow station .absent).settle me false true := by
  unfold takeExpel
  rw [found]
  exact if_neg there

end

/-- Settles O12: EXPEL clears the row of the station named. -/
theorem expelTaken : Obligations.ExpelTaken := by
  intro codes address station s running passes hears
  obtain ⟨t, next, done⟩ := frame_taken (c := .expel codes address station) rfl running passes hears
  have table : t.table = (takeExpel s.me station.toNat s.table).table := done.matchedTable hears (takeExpel_mismatch ..)
  have recalls := done.recalls hears (fun _ => nofun)
  have slots := opened_overrides_of_station (codes := codes) (b := .expel station) (s := s) (station_of_passes rfl passes)
  have taken := taking_expel codes address station s
  have rest : (s.taking codes address (.expel station)).state.share = s.share ∧
      (s.taking codes address (.expel station)).state.overrides = s.overrides ∧
      (s.taking codes address (.expel station)).state.doors =
        { s.doors with
          spill := s.doors.spill.filter (fun e => e.station != station.toNat)
          lastStated := if station.toNat = s.me then false else s.doors.lastStated } ∧
      ((s.taking codes address (.expel station)).ev.cleared = true ↔
        station.toNat = s.me ∧ s.ownRow.state ≠ .absent) := by
    rw [taken]
    by_cases mine : station.toNat = s.me
    · rw [if_pos mine, if_pos mine]
      refine ⟨by simp, by simp [slots], ?_, by simp [mine]⟩
      rw [mapState_state, forgetStated_doors]
      simp [dropSpill]
    · rw [if_neg mine, if_neg mine]
      refine ⟨by simp, by simp [slots], by simp [dropSpill], ?_⟩
      simp only [mine, false_and, iff_false]
      exact Bool.false_ne_true
  obtain ⟨share, overrides, doors, cleared⟩ := rest
  refine ⟨t, next, fun r found there => ?_, fun absent => ?_, done.doors.trans doors, fun mine boosts noClash => ?_, fun _ => recalls,
    done.evaluated _ share (.inr rfl), fun _ calm => ?_, done.supply, done.overrides.trans overrides⟩
  · rw [takeExpel_of_row found there] at table
    have idle := idleRow_settle s.me false true (idleRow_clearRow s.table station.toNat .absent)
    rw [← table] at idle
    refine ⟨table, ?_, idle.hasEntry⟩
    refine rowOf_of_row? (idle.1.trans ?_)
    rw [found]; rfl
  · rw [takeExpel_of_absent absent] at table
    exact ⟨table, fun law => table.trans (nothing_of_flagLaw law)⟩
  · have open_ : s.member.state ≠ .clash := fun clash => noClash (done.clash hears clash)
    refine done.keeps hears running draft_untouched (by decide) noClash ?_
    rw [taken, if_pos mine]
    refine forgetStated_sending ?_ ?_
    · exact accepts_of_member (by simp) running open_
    · simpa [dropSpill] using boosts
  · exact done.defrostSees hears calm ⟨nofun, nofun⟩ (fun _ => nofun) (.inr nofun) cleared rfl

/-! ## JOIN -/

theorem taking_join (codes : Sensors) (address : BitVec 4) (tag : Byte) (s : State) :
    s.taking codes address (.join tag) =
      if (s.ownFrame address.toNat (.join tag)).isSome = true then
        { (tableTaken (takeJoin s.me address.toNat s.tag tag s.table) (s.opened codes address (.join tag))).mapState
            (fun x => forgetStated (dropSpill address.toNat x)) with
          ev := { (tableTaken (takeJoin s.me address.toNat s.tag tag s.table) (s.opened codes address (.join tag))).ev with
            cleared := true } }
      else if s.sendsStatus then
        (tableTaken (takeJoin s.me address.toNat s.tag tag s.table) (s.opened codes address (.join tag))).mapState
          (fun x => queueKind .status (dropSpill address.toNat x))
      else (tableTaken (takeJoin s.me address.toNat s.tag tag s.table) (s.opened codes address (.join tag))).mapState
        (dropSpill address.toNat) := by
  obtain ⟨me, own, _⟩ := opened_figures codes address (.join tag) s
  have table := (opened_frame s codes address (.join tag)).2.1
  have sends : (s.opened codes address (.join tag)).sendsStatus = s.sendsStatus := by
    simp only [State.sendsStatus, opened_frame]
  show takesJoin _ _ tag _ = _
  unfold takesJoin
  dsimp only
  rw [me, own, table, sends]
  rfl

section
variable {me station : Nat} {own tag : Byte} {t : ShareTable}

theorem settle_table_of_use (me : Nat) (used : Bool) (t : ShareTable) :
    (t.settle me false used).table = if used = true then t.roundServed else t.evaluateOverdrawn false := by
  rw [(tableSettle_frame me false used t).1]
  cases used with
  | true => rfl
  | false => exact evaluateOverdrawn_twice t

theorem idleRow_dropOwnEntry {n : Nat} {row : Option Row} (me : Nat) (idle : t.idleRow n row) :
    (dropOwnEntry me t).table.idleRow n row := by
  unfold dropOwnEntry
  split
  · refine idleRow_settle me false true ⟨idle.1, idle.2.1, fun e mem => idle.2.2 e (mem_dropEntry.mp mem).1⟩
  · exact idle

theorem takeJoin_matched (same : tag = own) :
    takeJoin me station own tag t = (t.clearRow station .present).settle me false (t.rowInUse station) := if_pos same

theorem takeJoin_other (other : tag ≠ own) :
    takeJoin me station own tag t =
      { (t.clearRow station .mismatched).settle me false (t.rowInUse station) with mismatch := true } := if_neg other

/-- JOIN clears the sender's row: it has borrowed nothing and waits for nothing, whatever is served behind it. -/
theorem idleRow_join (me station : Nat) (own tag : Byte) (learning : Bool) (t : ShareTable) :
    (tableAfter me station own learning t (.join tag)).idleRow station
      ((t.row? station).map (Row.cleared (if tag = own then .present else .mismatched))) := by
  unfold tableAfter
  by_cases same : tag = own
  · have taken : takenBy me station own learning t (.join tag) = _ := takeJoin_matched same
    rw [taken, if_pos same, if_neg (by simp)]
    exact idleRow_settle me false _ (idleRow_clearRow t station .present)
  · have taken : takenBy me station own learning t (.join tag) = _ := takeJoin_other same
    rw [taken, if_neg same, if_pos rfl]
    exact idleRow_dropOwnEntry me (idleRow_settle me false _ (idleRow_clearRow t station .mismatched))

theorem tableAfter_join_matched (learning : Bool) (same : tag = own) :
    tableAfter me station own learning t (.join tag) =
      if t.rowInUse station then (t.clearRow station .present).roundServed
      else (t.clearRow station .present).evaluateOverdrawn false := by
  have taken : takenBy me station own learning t (.join tag) = _ := takeJoin_matched same
  unfold tableAfter
  rw [taken, if_neg (by simp)]
  exact settle_table_of_use me _ _

theorem settle_evaluated (me : Nat) (statement round : Bool) (t : ShareTable) :
    (t.settle me statement round).table.evaluateOverdrawn false = (t.settle me statement round).table := by
  rw [(tableSettle_frame me statement round t).1]
  exact evaluateOverdrawn_twice _

theorem tableAfter_join_other (learning : Bool) (other : tag ≠ own) :
    tableAfter me station own learning t (.join tag) =
      (if t.rowInUse station then (t.clearRow station .mismatched).roundServed
        else (t.clearRow station .mismatched).evaluateOverdrawn false).withoutEntryOf me := by
  have taken : takenBy me station own learning t (.join tag) = _ := takeJoin_other other
  unfold tableAfter
  rw [taken, if_pos rfl, ← settle_table_of_use me]
  exact dropOwnEntry_table me (settle_evaluated me false _ _)

theorem rowInUse_iff (t : ShareTable) (station : Nat) :
    t.rowInUse station = true ↔ 0 < (t.rowOf station).borrowed ∨ t.hasEntry station = true := by
  unfold ShareTable.rowInUse
  simp

end

/-- Settles O13: JOIN clears the sender's row; another table tag marks it and takes the own entry away. -/
theorem joinTaken : Obligations.JoinTaken := by
  intro codes address tag s running passes hears
  obtain ⟨t, next, done⟩ := frame_taken (c := .join codes address tag) rfl running passes hears
  have table : t.table = tableAfter s.me address.toNat s.tag s.learning s.table (.join tag) :=
    done.table.trans (coursed_table hears)
  have idle := idleRow_join s.me address.toNat s.tag tag s.learning s.table
  rw [← table] at idle
  have recalls := done.recalls hears (fun _ => nofun)
  have slots := opened_overrides_of_station (codes := codes) (b := .join tag) (s := s) (station_of_passes rfl passes)
  have taken := taking_join codes address tag s
  have rest : (s.taking codes address (.join tag)).state.share = s.share ∧
      (s.taking codes address (.join tag)).state.overrides = s.overrides ∧
      (s.taking codes address (.join tag)).state.doors =
        { s.doors with
          spill := s.doors.spill.filter (fun e => e.station != address.toNat)
          lastStated :=
            if (s.ownFrame address.toNat (.join tag)).isSome = true then false else s.doors.lastStated } ∧
      ((s.taking codes address (.join tag)).ev.cleared = true ↔
        (s.ownFrame address.toNat (.join tag)).isSome = true) := by
    rw [taken]
    by_cases own : (s.ownFrame address.toNat (.join tag)).isSome = true
    · rw [if_pos own, if_pos own]
      refine ⟨by simp, by simp [slots], ?_, by simp [own]⟩
      rw [mapState_state, forgetStated_doors]
      simp [dropSpill]
    · rw [if_neg own, if_neg own]
      have uncleared : (tableTaken (takeJoin s.me address.toNat s.tag tag s.table) (s.opened codes address (.join tag))).ev.cleared =
        false := rfl
      split
      · exact ⟨by simp, by simp [slots], by simp [dropSpill], by simp [uncleared, own]⟩
      · exact ⟨by simp, by simp [slots], by simp [dropSpill], by simp [uncleared, own]⟩
  obtain ⟨share, overrides, doors, cleared⟩ := rest
  refine ⟨t, next, rowInUse_iff _ _, fun same => table.trans (tableAfter_join_matched _ same),
    fun other => table.trans (tableAfter_join_other _ other), fun r found => ?_, idle.hasEntry, done.doors.trans doors,
    fun own boosts noClash => ?_, fun _ => recalls, done.evaluated _ share (.inr rfl), fun _ calm => ?_, done.supply,
    done.overrides.trans overrides⟩
  · refine rowOf_of_row? (idle.1.trans ?_)
    rw [found]; rfl
  · have open_ : s.member.state ≠ .clash := fun clash => noClash (done.clash hears clash)
    refine done.keeps hears running draft_untouched (by decide) noClash ?_
    rw [taken, if_pos own]
    refine forgetStated_sending ?_ ?_
    · exact accepts_of_member (by simp) running open_
    · simpa [dropSpill] using boosts
  · exact done.defrostSees hears calm ⟨nofun, nofun⟩ (fun _ => nofun) (.inr nofun) cleared rfl

end Sys2Proof.Machine
end

section
/-! Settles O16: RETURN. -/

namespace Sys2Proof.Machine

section
variable {me station : Nat} {units safetyUnits : Byte} {t : ShareTable} {r : Row}

theorem takeReturn_refused (found : t.row? station = some r) (refused : units.toNat < safetyUnits.toNat ∨ r.state = .absent) :
    takeReturn me station units safetyUnits t = Taken.nothing t := by
  unfold takeReturn
  rw [found]
  exact if_pos refused

theorem takeReturn_taken (found : t.row? station = some r) (within : safetyUnits.toNat ≤ units.toNat)
    (there : r.state ≠ .absent) :
    takeReturn me station units safetyUnits t =
      (t.update station (Row.returned units.toNat safetyUnits.toNat)).settle me false true := by
  unfold takeReturn
  rw [found]
  exact if_neg (not_or.mpr ⟨by omega, there⟩)

theorem owedWritten_return (own : Byte) (learning : Bool) (found : t.row? station = some r) :
    owedWritten me station own learning t (.ret units safetyUnits) =
      if station = me ∧ safetyUnits.toNat ≤ units.toNat ∧ r.state ≠ .absent then
        (t.rowOf me).owed - min units.toNat (t.rowOf me).owed
      else (t.rowOf me).owed := by
  rw [owedWritten_ret]
  by_cases mine : station = me
  · subst mine
    rw [found]
    simp
  · rw [if_neg (fun h => mine h.1), if_neg (fun h => mine h.1)]

end

section
variable {codes : Sensors} {address : BitVec 4} {units safetyUnits : Byte} {s : State}

theorem taking_ret (codes : Sensors) (address : BitVec 4) (units safetyUnits : Byte) (s : State) :
    s.taking codes address (.ret units safetyUnits) =
      if (s.ownFrame address.toNat (.ret units safetyUnits)).isSome = true then
        { (tableTaken (takeReturn s.me address.toNat units safetyUnits s.table)
            (s.opened codes address (.ret units safetyUnits))).mapState (settleReturn units.toNat) with
          ev := { (tableTaken (takeReturn s.me address.toNat units safetyUnits s.table)
            (s.opened codes address (.ret units safetyUnits))).ev with returnDone := true } }
      else tableTaken (takeReturn s.me address.toNat units safetyUnits s.table)
        (s.opened codes address (.ret units safetyUnits)) := by
  have me := opened_me s codes address (.ret units safetyUnits)
  have table := (opened_frame s codes address (.ret units safetyUnits)).2.1
  show takesReturn _ _ units safetyUnits _ = _
  unfold takesReturn
  dsimp only
  rw [me, table]
  rfl

theorem taking_ret_blocks (codes : Sensors) (address : BitVec 4) (units safetyUnits : Byte) (s : State) :
    (s.taking codes address (.ret units safetyUnits)).state.doors = s.doors ∧
      (s.taking codes address (.ret units safetyUnits)).state.overrides =
        (s.opened codes address (.ret units safetyUnits)).overrides ∧
      (s.taking codes address (.ret units safetyUnits)).ev.cleared = false := by
  rw [taking_ret]
  split
  · exact ⟨by simp, by simp, rfl⟩
  · exact ⟨by simp, by simp, rfl⟩

theorem taking_ret_foreign (foreign : s.ownFrame address.toNat (.ret units safetyUnits) = none) :
    (s.taking codes address (.ret units safetyUnits)).state.share = s.share := by
  rw [taking_ret, foreign]
  simp

/-- The own RETURN, heard: the units are settled, and the event ends the return. -/
theorem taking_ret_own (own : (s.ownFrame address.toNat (.ret units safetyUnits)).isSome = true) :
    (s.taking codes address (.ret units safetyUnits)).state.share = s.returnSettled units.toNat ∧
      (s.taking codes address (.ret units safetyUnits)).ev.returnDone = true := by
  rw [taking_ret, if_pos own]
  refine ⟨?_, rfl⟩
  rw [mapState_state, settleReturn_share]
  unfold State.returnSettled
  simp only [tableTaken_frame, opened_frame]

end

/-- Behind the own RETURN the defrost unit leaves waiting where its units are held, and does nothing else. -/
theorem FrameTaken.defrost_of_returned {codes : Sensors} {address : BitVec 4} {b : Bulletin} {s t : State}
    (done : FrameTaken codes address b s t) (hears : s.hears address b) (calm : s.calm address b) (slotless : b.slotless)
    (returned : (s.taking codes address b).ev.returnDone = true) (uncleared : (s.taking codes address b).ev.cleared = false) :
    t.defrost =
      if s.isCab = true ∧ s.defrost.state = .waiting ∧ s.loader.vt.defrostUnits ≤ t.safetyHeld then s.rampedDefrost
      else s.defrost := by
  obtain ⟨clearedFlag, returnedFlag⟩ := coursed_flags (codes := codes) hears
  have loader : (s.coursed codes address b).state.loader = s.loader := by simp [State.coursed]
  have defrost := coursed_defrost (codes := codes) hears calm slotless
  have isCab : (s.coursed codes address b).state.isCab = s.isCab := by
    simp only [State.isCab, State.entry, State.me, loader]
  have raised : (owedRaised (s.coursed codes address b).ev (s.heardFrame codes) (s.coursed codes address b).state ||
      (s.coursed codes address b).ev.cleared) = false := by
    rw [owedRaised_of_returnDone (returnedFlag.trans returned), clearedFlag, uncleared]; rfl
  have held : t.safetyHeld = (s.coursed codes address b).state.safetyHeld := by
    rw [← done.ended]; simp only [State.safetyHeld, State.ownRow, State.me, finishRunning_frame]
  rw [held, ← done.ended, finishRunning_defrost_eq, served_of_unraised raised, isCab, defrost, loader,
    rampedDefrost_congr loader defrost]

/-- Settles O16: RETURN gives units back; the own one settles what was set aside. -/
theorem returnTaken : Obligations.ReturnTaken := by
  intro codes address units safetyUnits s r running passes hears found
  obtain ⟨t, next, done⟩ := frame_taken (c := .ret codes address units safetyUnits) rfl running passes hears
  have table : t.table = (takeReturn s.me address.toNat units safetyUnits s.table).table :=
    done.matchedTable hears (takeReturn_mismatch ..)
  have recalls := done.recalls hears (fun _ => nofun)
  have written := owedWritten_return (me := s.me) (units := units) (safetyUnits := safetyUnits) s.tag s.learning found
  obtain ⟨doors, overrides, cleared⟩ := taking_ret_blocks codes address units safetyUnits s
  refine ⟨t, next, fun refused => ?_, fun within there => ?_, fun _ => ?_, fun _ other => ?_, fun foreign => ?_, fun own => ?_,
    done.supply, done.doors.trans doors,
    (done.overrides.trans overrides).trans (opened_overrides_of_station (station_of_passes rfl passes))⟩
  · rw [takeReturn_refused found refused] at table
    exact ⟨table, fun law => table.trans (nothing_of_flagLaw law)⟩
  · rw [table, takeReturn_taken found within there]; rfl
  · rw [recalls, written]; rfl
  · have foreign : (s.ownFrame address.toNat (.ret units safetyUnits)).isSome = false := by
      unfold State.ownFrame
      split
      · rw [if_neg (fun own => other own.1)]; rfl
      · rfl
    exact done.defrostSees hears (.inl other) ⟨nofun, nofun⟩ (fun _ => nofun) (.inl foreign) (by simp [cleared])
      (written.trans (if_neg (fun h => other h.1)))
  · exact done.evaluated _ (taking_ret_foreign foreign) (.inr rfl)
  · obtain ⟨share, returned⟩ := taking_ret_own (codes := codes) own
    have returnedFlag := (coursed_flags (codes := codes) hears).2.trans returned
    have shared := (coursed_blocks (codes := codes) hears).1.trans share
    have defrost := done.defrost_of_returned hears (.inr (.inr own)) ⟨nofun, nofun⟩ returned cleared
    refine ⟨done.evaluated _ share (.inl returnedFlag), ?_, fun still => ?_, fun cab waiting enough => ?_⟩
    · refine shareDecided_of_taken (takenFrom_coursed codes address _ running) done.ended shared (.inl returnedFlag) (.inr ?_)
      simp [evaluatesShare, returnedFlag]
    · rw [defrost, if_neg]
      rintro ⟨cab, waiting, enough⟩
      obtain saloon | idle | short := still
      · rw [saloon] at cab; cases cab
      · exact idle waiting
      · omega
    · rw [defrostRamps_iff, defrost, if_pos ⟨cab, waiting, enough⟩]

end Sys2Proof.Machine
end

section
/-! The table under STATUS. -/

namespace Sys2Proof.Machine

/-! ## A statement's figures -/

theorem rankOf_iff (n : Nat) (k : Rank) : rankOf n = some k ↔ n = k.code := by
  unfold rankOf
  split <;> cases k <;> simp_all [Rank.code]

theorem rankCode_lt (p : StatusPayload) : statusRankCode p < 4 := by
  have bound := p.rankAttention.isLt
  unfold statusRankCode
  omega

theorem rankOf_none_iff (p : StatusPayload) : rankOf (statusRankCode p) = none ↔ p.rankAttention.toNat / 64 = 0 := by
  have small := rankCode_lt p
  show _ ↔ statusRankCode p = 0
  generalize statusRankCode p = n at small ⊢
  unfold rankOf
  split <;> simp_all
  omega

theorem statementInRange_iff (r : Row) (p : StatusPayload) :
    statementInRange r p = true ↔
      p.safety.toNat ≤ p.borrowed.toNat ∧ p.owed.toNat ≤ p.borrowed.toNat ∧ p.waiting.toNat ≤ 63 ∧
        (p.waiting ≠ 0 → p.rankAttention.toNat / 64 ≠ 0) ∧ (p.rankAttention.toNat / 64 = 1 → r.role = .cab) := by
  unfold statementInRange
  cases given : rankOf (statusRankCode p) with
  | none =>
    have zero := (rankOf_none_iff p).mp given
    simp [zero, and_assoc]
  | some k =>
    have code : p.rankAttention.toNat / 64 = k.code := (rankOf_iff _ k).mp given
    cases k <;> simp [code, Rank.code, and_assoc]

theorem statedEntry_of_range {r : Row} {p : StatusPayload} (range : statementInRange r p = true) (station : Nat) :
    (p.waiting = 0 ∧ statedEntry station p = none) ∨
      (p.waiting ≠ 0 ∧ ∃ k, rankOf (statusRankCode p) = some k ∧
        statedEntry station p = some { station, units := p.waiting.toNat, rank := k, standing := p.standing.toNat }) := by
  unfold statedEntry
  by_cases none : p.waiting = 0
  · exact .inl ⟨none, if_pos none⟩
  · obtain ⟨_, _, _, ranked, _⟩ := (statementInRange_iff r p).mp range
    refine .inr ⟨none, ?_⟩
    rw [if_neg none]
    cases given : rankOf (statusRankCode p) with
    | none => exact absurd ((rankOf_none_iff p).mp given) (ranked none)
    | some k => exact ⟨k, rfl, rfl⟩

theorem entry?_station {t : ShareTable} {n : Nat} {e : Entry} (found : t.entry? n = some e) : e.station = n := by
  simpa using List.find?_some found

theorem differs_iff {t : ShareTable} {r : Row} {p : StatusPayload} (range : statementInRange r p = true) :
    t.differs r p = true ↔
      r.borrowed ≠ p.borrowed.toNat ∨ r.safety ≠ p.safety.toNat ∨ r.owed ≠ p.owed.toNat ∨
        (p.waiting = 0 ∧ t.hasEntry r.station = true) ∨
        (p.waiting ≠ 0 ∧ ¬∃ e, t.entry? r.station = some e ∧ e.units = p.waiting.toNat ∧
          e.rank.code = p.rankAttention.toNat / 64 ∧ e.standing = p.standing.toNat) := by
  have entry : t.entry? r.station ≠ statedEntry r.station p ↔
      (p.waiting = 0 ∧ t.hasEntry r.station = true) ∨
        (p.waiting ≠ 0 ∧ ¬∃ e, t.entry? r.station = some e ∧ e.units = p.waiting.toNat ∧
          e.rank.code = p.rankAttention.toNat / 64 ∧ e.standing = p.standing.toNat) := by
    obtain ⟨zero, stated⟩ | ⟨some, k, ranked, stated⟩ := statedEntry_of_range range r.station
    · rw [stated]
      simp [zero, ShareTable.hasEntry, Option.isSome_iff_ne_none]
    · have code : statusRankCode p = k.code := (rankOf_iff _ k).mp ranked
      have shown : p.rankAttention.toNat / 64 = k.code := code
      rw [stated, shown]
      simp only [some, false_and, false_or, not_false_eq_true, true_and, ne_eq]
      refine not_congr ⟨fun same => ⟨_, same, rfl, rfl, rfl⟩, fun ⟨e, found, units, rank, standing⟩ => ?_⟩
      have station := entry?_station found
      have same : e.rank = k := by
        have given := (rankOf_iff _ e.rank).mpr (code.trans rank.symm)
        exact Option.some.inj (given.symm.trans ranked)
      rw [found, ← station, ← units, ← standing, ← same]
  unfold ShareTable.differs
  simp only [Bool.or_eq_true, decide_eq_true_eq, or_assoc]
  rw [entry]

/-! ## The table -/

section
variable {me station : Nat} {own : Byte} {learning : Bool} {p : StatusPayload} {t : ShareTable} {r : Row}

theorem takeStatus_stated (found : t.row? station = some r) (same : p.tag = own) (range : statementInRange r p = true)
    (listens : r.state = .present ∨ (r.state = .absent ∧ learning = true)) :
    (takeStatus me station own learning p t).table = ((t.applyStatement station p).settle me true true).table ∧
      (takeStatus me station own learning p t).repaired = (r.state == .present && t.differs r p) := by
  unfold takeStatus
  rw [found]
  dsimp only
  rw [if_neg (not_not_intro same), if_pos range]
  obtain present | ⟨absent, learns⟩ := listens
  · rw [present]; exact ⟨rfl, rfl⟩
  · rw [absent, learns]; exact ⟨rfl, rfl⟩

theorem takeStatus_refused (found : t.row? station = some r) (same : p.tag = own)
    (refused : statementInRange r p = false ∨ r.state = .mismatched ∨ (r.state = .absent ∧ learning = false)) :
    takeStatus me station own learning p t = Taken.nothing t := by
  unfold takeStatus
  rw [found]
  dsimp only
  rw [if_neg (not_not_intro same)]
  split
  · rename_i range
    obtain out | mismatched | ⟨absent, settled⟩ := refused
    · rw [range] at out; cases out
    · rw [mismatched]
    · rw [absent, settled]; rfl
  · rfl

/-- The table in which the sender's row is marked and its entry is gone. -/
def ShareTable.marked (t : ShareTable) (station : Nat) : ShareTable :=
  { t.update station (fun r => { r with state := .mismatched }) with queue := dropEntry station t.queue }

theorem takeStatus_other (found : t.row? station = some r) (other : p.tag ≠ own) :
    takeStatus me station own learning p t =
      { (t.marked station).settle me false (t.hasEntry station) with mismatch := true } := by
  unfold takeStatus
  rw [found]
  exact if_pos other

theorem takeStatus_mismatch_of_tag (same : p.tag = own) : (takeStatus me station own learning p t).mismatch = false := by
  unfold takeStatus
  (repeat' split)
  · rfl
  · rename_i other; exact absurd same other
  · rfl
  · rfl
  · rfl
  · rfl
  · rfl

end

/-! ## What service rounds leave of a row -/

/-- A station's row as `r` but for the units it owes, and nothing of it waits. -/
def ShareTable.keepsRow (t : ShareTable) (n : Nat) (r : Row) : Prop :=
  (∃ owed, t.row? n = some { r with owed }) ∧ ∀ e ∈ t.queue, e.station ≠ n

theorem keepsRow_serviceRound {t : ShareTable} {n : Nat} {r : Row} (kept : t.keepsRow n r) : t.serviceRound.keepsRow n r := by
  refine serviceRound_keeps (fun u => u.keepsRow n r) ?_ ?_ t kept
  · rintro u e rest _ queued _ ⟨⟨owed, found⟩, queue⟩
    have other : e.station ≠ n := queue e (by rw [queued]; exact List.mem_cons_self)
    refine ⟨⟨owed, ?_⟩, fun x mem => ?_⟩
    · have station := row?_station found
      rw [row?_grantHead, found, Option.map_some, if_neg (by rw [station]; exact other.symm)]
    · obtain ⟨y, inRest, grown⟩ := List.mem_map.mp ((queueOrder_perm _).mem_iff.mp mem)
      rw [← grown]
      exact queue y (by rw [queued]; exact List.mem_cons_of_mem _ inRest)
  · rintro u short ⟨⟨owed, found⟩, queue⟩
    obtain ⟨given, eq, _⟩ := row?_safetyRecall u short n
    exact ⟨⟨owed + given, by rw [eq, found]; rfl⟩, queue⟩

theorem keepsRow_settle {t : ShareTable} {n : Nat} {r : Row} (me : Nat) (statement round : Bool) (kept : t.keepsRow n r) :
    (t.settle me statement round).table.keepsRow n r := by
  rw [(tableSettle_frame me statement round t).1]
  cases round with
  | true => exact keepsRow_serviceRound (t := t.evaluateOverdrawn statement) kept
  | false => exact kept

theorem keepsRow_dropOwnEntry {t : ShareTable} {n : Nat} {r : Row} (me : Nat) (kept : t.keepsRow n r) :
    (dropOwnEntry me t).table.keepsRow n r := by
  unfold dropOwnEntry
  split
  · exact keepsRow_settle me false true ⟨kept.1, fun e mem => kept.2 e (mem_dropEntry.mp mem).1⟩
  · exact kept

theorem keepsRow_marked {t : ShareTable} {station : Nat} {r : Row} (found : t.row? station = some r) :
    (t.marked station).keepsRow station { r with state := .mismatched } := by
  refine ⟨⟨r.owed, ?_⟩, fun e mem => (mem_dropEntry.mp mem).2⟩
  refine (row?_update t station station (fun r => { r with state := .mismatched }) fun _ => rfl).trans ?_
  rw [found, Option.map_some, if_pos (row?_station found)]

theorem ShareTable.keepsRow.rowOf {t : ShareTable} {n : Nat} {r : Row} (kept : t.keepsRow n r) :
    (t.rowOf n).state = r.state ∧ (t.rowOf n).borrowed = r.borrowed ∧ (t.rowOf n).safety = r.safety := by
  obtain ⟨⟨owed, found⟩, _⟩ := kept
  rw [rowOf_of_row? found]
  exact ⟨rfl, rfl, rfl⟩

theorem ShareTable.keepsRow.hasEntry {t : ShareTable} {n : Nat} {r : Row} (kept : t.keepsRow n r) : t.hasEntry n = false := by
  unfold ShareTable.hasEntry ShareTable.entry?
  rw [Option.isSome_eq_false_iff, Option.isNone_iff_eq_none, List.find?_eq_none]
  intro e mem
  simpa using kept.2 e mem

/-- Service rounds leave the states of the rows. -/
theorem rowState_settle (me : Nat) (statement round : Bool) (t : ShareTable) (n : Nat) :
    ((t.settle me statement round).table.rowOf n).state = (t.rowOf n).state := by
  have plates : (t.settle me statement round).table.rows.map Row.plate = t.rows.map Row.plate := by
    rw [(tableSettle_frame me statement round t).1]
    cases round with
    | true => exact serviceRound_map Row.plate (fun _ _ _ _ => rfl) (t.evaluateOverdrawn statement)
    | false => rfl
  rw [rowOf_state_eq, plates, ← rowOf_state_eq]

end Sys2Proof.Machine
end

section
/-! The membership unit behind a taking: the end of catching up, and what a STATUS leaves. -/

namespace Sys2Proof.Machine

/-! ## Catching up -/

theorem otherPresent_all (x : State) (P : Nat → Bool) :
    x.otherPresent.all P = true ↔
      ∀ r ∈ x.table.rows, r.state = .present → r.station ≠ x.me → P r.station = true := by
  unfold State.otherPresent
  simp only [List.all_map, List.all_eq_true, List.mem_filter, Bool.and_eq_true, beq_iff_eq, bne_iff_ne, Function.comp]
  exact ⟨fun all r mem present other => all r ⟨mem, present, other⟩, fun all r ⟨mem, present, other⟩ => all r mem present other⟩

theorem caughtUp_iff (x : State) :
    x.caughtUp = true ↔
      (∀ r ∈ x.table.rows, r.state = .present → r.station ≠ x.me → ∃ h ∈ x.member.heard, h.station = r.station) ∧
        (x.member.leaseNews = true ∨ ∀ h ∈ x.member.heard, h.tagZero = true) := by
  unfold State.caughtUp
  rw [Bool.and_eq_true, otherPresent_all]
  simp only [List.any_eq_true, beq_iff_eq, Bool.or_eq_true, List.all_eq_true]

theorem setMember_inStep_heard (x : State) : (setMember .inStep x).member.heard = x.member.heard := by
  unfold setMember entered
  dsimp only
  split <;> simp [leaveInStep]

/-- A station that catches up: with every other present station heard, and news of the lease, it enters step. -/
theorem catchUpResponse_catching {x : State} (catching : x.member.state = .catchingUp) :
    (catchUpResponse .catchingUp x).member.heard = x.member.heard ∧
      (x.caughtUp = true →
        (catchUpResponse .catchingUp x).member.state = .inStep ∧ (catchUpResponse .catchingUp x).member.catchUp = none ∧
          (x.share.leaseExpired = true → (catchUpResponse .catchingUp x).sending .lapse)) ∧
      (x.caughtUp = false → catchUpResponse .catchingUp x = x) := by
  unfold catchUpResponse checkCatchUp
  rw [if_pos rfl]
  cases done : x.caughtUp with
  | true =>
    rw [if_pos ⟨catching, rfl⟩]
    refine ⟨setMember_inStep_heard _, fun _ => ⟨setMember_state _ _, ?_, fun expired => ?_⟩, nofun⟩
    · rw [setMember_inStep_catchUp]
    · exact setMember_inStep_sending_lapse (s := { x with member := { x.member with catchUp := none } }) expired
  | false =>
    rw [if_neg (by simp)]
    exact ⟨rfl, nofun, fun _ => rfl⟩

section
variable {codes : Sensors} {address : BitVec 4} {b : Bulletin} {s t : State}

/-- The state in which a station that catches up looks whether it has caught up. -/
def State.caught (s : State) (codes : Sensors) (address : BitVec 4) (b : Bulletin) : State :=
  syncHeard (syncAges (expelSettled (s.ownFrame address.toNat b) (s.taking codes address b).state))

theorem caught_frame (codes : Sensors) (address : BitVec 4) (b : Bulletin) (s : State) :
    (s.caught codes address b).loader = s.loader ∧ (s.caught codes address b).member.state = s.member.state ∧
      (s.caught codes address b).table = (s.taking codes address b).state.table ∧
      (s.caught codes address b).share = (s.taking codes address b).state.share ∧
      (s.caught codes address b).bus = (s.taking codes address b).state.bus ∧
      (s.caught codes address b).member.leaseNews = (s.taking codes address b).state.member.leaseNews ∧
      (s.caught codes address b).member.catchUp = (s.taking codes address b).state.member.catchUp ∧
      (s.caught codes address b).member.heard =
        (s.taking codes address b).state.member.heard.filter
          (fun h => ((s.taking codes address b).state.table.rowOf h.station).state == .present) := by
  obtain ⟨loader, member⟩ := taking_frame codes address b s
  rw [← loader, ← member]
  unfold State.caught expelSettled
  (repeat' split) <;> exact ⟨rfl, rfl, rfl, rfl, rfl, rfl, rfl, rfl⟩

/-- What of catching up is left at the end of the command, where the course is the plain one. -/
theorem FrameTaken.follows (done : FrameTaken codes address b s t) (running : s.running = true)
    (catching : s.member.state = .catchingUp)
    (course : (s.coursed codes address b).state = catchUpResponse .catchingUp (s.caught codes address b)) :
    t.member.heard = (s.caught codes address b).member.heard ∧
      t.member.leaseNews = (s.taking codes address b).state.member.leaseNews ∧
      ((∀ x ∈ t.table.rows, x.state = .present → x.station ≠ s.me → ∃ h ∈ t.member.heard, h.station = x.station) ∧
          (t.member.leaseNews = true ∨ ∀ h ∈ t.member.heard, h.tagZero = true) →
        t.member.state = .inStep ∧ t.member.catchUp = none ∧
          ((s.taking codes address b).state.share.leaseExpired = true → t.sending .lapse)) ∧
      (¬((∀ x ∈ t.table.rows, x.state = .present → x.station ≠ s.me → ∃ h ∈ t.member.heard, h.station = x.station) ∧
          (t.member.leaseNews = true ∨ ∀ h ∈ t.member.heard, h.tagZero = true)) →
        t.member.state = .catchingUp ∧ t.member.catchUp = (s.taking codes address b).state.member.catchUp) := by
  obtain ⟨loader, member, table, share, bus, news, catchUp, _⟩ := caught_frame codes address b s
  obtain ⟨heard, steps, stays⟩ := catchUpResponse_catching (member.trans catching)
  have me : (s.caught codes address b).me = s.me := me_of_loader loader
  have heardT : t.member.heard = (s.caught codes address b).member.heard := by
    rw [← done.ended, (finishRunning_member _ _ _).2.2.2.2.1, course, heard]
  have newsT : t.member.leaseNews = (s.caught codes address b).member.leaseNews := by
    rw [← done.ended, (finishRunning_member _ _ _).2.2.2.2.2.1, course, catchUpResponse_leaseNews]
  have tableT : t.table = (s.caught codes address b).table := by
    rw [done.table, course, (catchUpResponse_frame _ _).2.2.2.2.1]
  have caught := caughtUp_iff (s.caught codes address b)
  rw [me, ← heardT, ← newsT, ← tableT] at caught
  refine ⟨heardT, newsT.trans news, fun all => ?_, fun some => ?_⟩
  · obtain ⟨state, timer, lapse⟩ := steps (caught.mpr all)
    refine ⟨done.memberState.trans (by rw [course, state]), ?_, fun expired => ?_⟩
    · rw [← done.ended, (finishRunning_member _ _ _).2.2.1, course, timer]
    · rw [← done.ended, ← finish_of_running (takenFrom_coursed codes address b running).running]
      refine finish_keeps _ _ _ _ (by decide) (by decide) (by decide) ?_
      rw [course]
      exact lapse (by rw [share]; exact expired)
  · have still := stays (by rw [← Bool.not_eq_true, caught]; exact some)
    rw [still] at course
    refine ⟨done.memberState.trans (by rw [course, member, catching]), ?_⟩
    rw [← done.ended, (finishRunning_member _ _ _).2.2.1, course, catchUp]

theorem coursed_caught (hears : s.hears address b) (calm : s.calm address b)
    (matched : (s.taking codes address b).mismatch = false) (plain : b.plain) (catching : s.member.state = .catchingUp) :
    (s.coursed codes address b).state = catchUpResponse .catchingUp (s.caught codes address b) := by
  have member := (taking_frame codes address b s).2
  rw [coursed_calm hears calm matched plain, expelSettled_member_state, member, catching]
  rfl

end

end Sys2Proof.Machine
end

section
/-! Settles O14: STATUS. -/

namespace Sys2Proof.Machine

section
variable {codes : Sensors} {address : BitVec 4} {p : StatusPayload} {s t : State}

/-- The state in which a statement has been taken over by table, spill and outdoor figure. -/
def State.statement (s : State) (codes : Sensors) (address : BitVec 4) (p : StatusPayload) : State :=
  learnOutdoor address.toNat p (dropMismatchedSpill address.toNat
    (tableTaken (takeStatus s.me address.toNat s.tag s.learning p s.table) (s.opened codes address (.status p))).state)

theorem taking_status (codes : Sensors) (address : BitVec 4) (p : StatusPayload) (s : State) :
    (s.taking codes address (.status p)).state =
      (if (s.ownFrame address.toNat (.status p)).isSome = true ∧ s.sendsStatus = true then
        { hear address.toNat p (s.statement codes address p) with
          member := { (hear address.toNat p (s.statement codes address p)).member with statusPeriod := some 2000 } }
      else hear address.toNat p (s.statement codes address p)) ∧
      (s.taking codes address (.status p)).ev.cleared = false := by
  obtain ⟨me, own, learning⟩ := opened_figures codes address (.status p) s
  have table := (opened_frame s codes address (.status p)).2.1
  have sends : (s.opened codes address (.status p)).sendsStatus = s.sendsStatus := by
    simp only [State.sendsStatus, opened_frame]
  show (takesStatus _ _ p _).state = _ ∧ (takesStatus _ _ p _).ev.cleared = _
  unfold takesStatus
  dsimp only
  rw [me, own, learning, table, sends]
  have uncleared : (tableTaken (takeStatus s.me address.toNat s.tag s.learning p s.table)
      (s.opened codes address (.status p))).ev.cleared = false := rfl
  unfold State.statement
  generalize tableTaken (takeStatus s.me address.toNat s.tag s.learning p s.table) (s.opened codes address (.status p)) = c
    at uncleared
  by_cases stated : (s.ownFrame address.toNat (.status p)).isSome = true ∧ s.sendsStatus = true
  · rw [if_pos (by simpa using stated), if_pos stated]
    exact ⟨rfl, uncleared⟩
  · rw [if_neg (by simpa using stated), if_neg stated]
    exact ⟨rfl, uncleared⟩

theorem statement_frame (codes : Sensors) (address : BitVec 4) (p : StatusPayload) (s : State) :
    (s.statement codes address p).loader = s.loader ∧ (s.statement codes address p).share = s.share ∧
      (s.statement codes address p).table = (takeStatus s.me address.toNat s.tag s.learning p s.table).table ∧
      (s.statement codes address p).overrides = (s.opened codes address (.status p)).overrides ∧
      (s.statement codes address p).member = (s.opened codes address (.status p)).member ∧
      (s.statement codes address p).stats.counters.repairs =
        if (takeStatus s.me address.toNat s.tag s.learning p s.table).repaired = true then
          bumped s.loader.vt.counterFreeze 1 s.stats.counters.repairs
        else s.stats.counters.repairs := by
  unfold State.statement
  simp only [learnOutdoor_frame, dropMismatchedSpill_frame, tableTaken_frame, tableTaken_table, opened_frame]
  refine ⟨trivial, trivial, trivial, trivial, trivial, ?_⟩
  unfold tableTaken
  simp only [countIf_counters, countIf_frame, opened_frame]
  split <;> split <;> rfl

/-- What a taking leaves of a statement: all but the membership unit's figures. -/
theorem taking_status_blocks (codes : Sensors) (address : BitVec 4) (p : StatusPayload) (s : State) :
    (s.taking codes address (.status p)).state.share = s.share ∧
      (s.taking codes address (.status p)).state.overrides = (s.opened codes address (.status p)).overrides ∧
      (s.taking codes address (.status p)).state.doors = (s.statement codes address p).doors ∧
      (s.taking codes address (.status p)).state.stats.counters = (s.statement codes address p).stats.counters ∧
      (s.taking codes address (.status p)).state.member.heard =
        (hear address.toNat p (s.statement codes address p)).member.heard ∧
      (s.taking codes address (.status p)).state.member.leaseNews = s.member.leaseNews ∧
      (s.taking codes address (.status p)).state.member.catchUp = s.member.catchUp := by
  obtain ⟨loader, share, table, overrides, member, _⟩ := statement_frame codes address p s
  have opened : (s.opened codes address (.status p)).member.catchUp = s.member.catchUp := by
    unfold State.opened
    simp only [hearPanel_frame]
    unfold addressed closeOwnFrame
    cases s.ownFrame address.toNat (.status p) <;> rfl
  have heard : (hear address.toNat p (s.statement codes address p)).member.leaseNews = s.member.leaseNews ∧
      (hear address.toNat p (s.statement codes address p)).member.catchUp = s.member.catchUp := by
    rw [← opened_leaseNews codes address (.status p) s, ← opened, ← member]
    unfold hear
    split <;> exact ⟨rfl, rfl⟩
  rw [(taking_status codes address p s).1]
  split
  · simp only [hear_frame, share, overrides, heard]
    exact ⟨trivial, trivial, trivial, trivial, trivial, trivial, trivial⟩
  · simp only [hear_frame, share, overrides, heard]
    exact ⟨trivial, trivial, trivial, trivial, trivial, trivial, trivial⟩

/-! ## The spill entry and the outdoor figure -/

theorem cabStation_of_map {x y : State} (same : y.table.rows.map (fun r => (r.station, r.role)) =
    x.table.rows.map (fun r => (r.station, r.role))) : y.cabStation = x.cabStation := by
  have read : ∀ z : State, z.cabStation =
      ((z.table.rows.map (fun r => (r.station, r.role))).find? (fun q => q.2 == .cab)).map (·.1) := by
    intro z
    unfold State.cabStation
    rw [List.find?_map, Option.map_map]
    rfl
  rw [read, read, same]

theorem takeStatus_roles (me station : Nat) (own : Byte) (learning : Bool) (p : StatusPayload) (t : ShareTable) :
    (takeStatus me station own learning p t).table.rows.map (fun r => (r.station, r.role)) =
      t.rows.map (fun r => (r.station, r.role)) := by
  have settled : ∀ (statement round : Bool) (u : ShareTable),
      u.rows.map (fun r => (r.station, r.role)) = t.rows.map (fun r => (r.station, r.role)) →
      (u.settle me statement round).table.rows.map (fun r => (r.station, r.role)) =
        t.rows.map (fun r => (r.station, r.role)) := by
    intro statement round u same
    rw [← same, (tableSettle_frame me statement round u).1]
    cases round with
    | true => exact serviceRound_map (fun r => (r.station, r.role)) (fun _ _ _ _ => rfl) (u.evaluateOverdrawn statement)
    | false => rfl
  have stated : (t.applyStatement station p).rows.map (fun r => (r.station, r.role)) = t.rows.map (fun r => (r.station, r.role)) :=
    updateRow_map (fun r : Row => (r.station, r.role)) (Row.stated p) (fun _ => rfl) station t.rows
  have marked : (t.marked station).rows.map (fun r => (r.station, r.role)) = t.rows.map (fun r => (r.station, r.role)) :=
    updateRow_map (fun r : Row => (r.station, r.role)) (fun r => { r with state := .mismatched }) (fun _ => rfl) station t.rows
  unfold takeStatus
  (repeat' split)
  · rfl
  · exact settled false _ _ marked
  · exact settled true true _ stated
  · exact settled true true _ stated
  · rfl
  · rfl
  · rfl

/-- Spill entry and outdoor figure under a statement. -/
theorem statement_doors (codes : Sensors) (address : BitVec 4) (p : StatusPayload) (s : State) :
    (s.statement codes address p).doors =
      { s.doors with
        spill :=
          if ((takeStatus s.me address.toNat s.tag s.learning p s.table).table.rowOf address.toNat).state = .mismatched then
            s.doors.spill.filter (fun e => e.station != address.toNat)
          else s.doors.spill
        outdoor :=
          if s.isCab = false ∧ s.cabStation = some address.toNat ∧ p.tag = s.tag then tempOf p.outdoor
          else s.doors.outdoor
        outdoorAge :=
          if s.isCab = false ∧ s.cabStation = some address.toNat ∧ p.tag = s.tag then some 10000
          else s.doors.outdoorAge } := by
  unfold State.statement
  have blocks := tableTaken_frame (takeStatus s.me address.toNat s.tag s.learning p s.table) (s.opened codes address (.status p))
  have table := tableTaken_table (takeStatus s.me address.toNat s.tag s.learning p s.table) (s.opened codes address (.status p))
  generalize (tableTaken (takeStatus s.me address.toNat s.tag s.learning p s.table) (s.opened codes address (.status p))).state = x
    at blocks table ⊢
  have doors : x.doors = s.doors := by simp [blocks]
  have loader : x.loader = s.loader := by simp [blocks]
  have dropped : (dropMismatchedSpill address.toNat x).doors =
      { s.doors with
        spill :=
          if ((takeStatus s.me address.toNat s.tag s.learning p s.table).table.rowOf address.toNat).state = .mismatched then
            s.doors.spill.filter (fun e => e.station != address.toNat)
          else s.doors.spill } := by
    unfold dropMismatchedSpill
    rw [table]
    split
    · rw [dropSpill, doors]
    · exact doors
  have isCab : (dropMismatchedSpill address.toNat x).isCab = s.isCab := by
    simp only [State.isCab, State.entry, State.me, dropMismatchedSpill_frame, loader]
  have tag : (dropMismatchedSpill address.toNat x).tag = s.tag := by
    simp only [State.tag, dropMismatchedSpill_frame, loader]
  have cab : (dropMismatchedSpill address.toNat x).cabStation = s.cabStation := by
    refine cabStation_of_map ?_
    simp only [dropMismatchedSpill_frame, table]
    exact takeStatus_roles ..
  unfold learnOutdoor
  rw [isCab, tag, cab]
  by_cases learns : s.isCab = false ∧ s.cabStation = some address.toNat ∧ p.tag = s.tag
  · rw [if_pos (by simpa [and_assoc] using learns)]
    simp only [setOutdoor, dropped, if_pos learns]
    rfl
  · rw [if_neg (by simpa [and_assoc] using learns)]
    simp only [dropped, if_neg learns]

/-- The sender's row state where its table tag is the own one. -/
theorem takeStatus_state {me station : Nat} {own : Byte} {learning : Bool} {t : ShareTable} {r : Row}
    (found : t.row? station = some r) (same : p.tag = own) :
    ((takeStatus me station own learning p t).table.rowOf station).state =
      if statementInRange r p = true ∧ r.state = .absent ∧ learning = true then .present else r.state := by
  have stated : ∀ state, ((t.applyStatement station p).settle me true true).table.rowOf station = state →
      state.state = .present := by
    rintro _ rfl
    rw [rowState_settle]
    have row : (t.applyStatement station p).rowOf station = Row.stated p r :=
      update_rowOf_same (t := t) (f := Row.stated p) found (fun _ => rfl)
    rw [row]; rfl
  have stands : ((Taken.nothing t).table.rowOf station).state = r.state := congrArg Row.state (rowOf_of_row? found)
  by_cases listens : statementInRange r p = true ∧ (r.state = .present ∨ (r.state = .absent ∧ learning = true))
  · obtain ⟨range, state⟩ := listens
    rw [(takeStatus_stated found same range state).1, stated _ rfl]
    obtain present | absent := state
    · rw [if_neg (by simp [present]), present]
    · rw [if_pos ⟨range, absent⟩]
  · rw [if_neg (fun h => listens ⟨h.1, .inr h.2⟩), takeStatus_refused found same, stands]
    cases range : statementInRange r p with
    | false => exact .inl rfl
    | true =>
      rw [range] at listens
      simp only [true_and, not_or, not_and, Bool.not_eq_true] at listens
      cases state : r.state with
      | present => exact absurd state listens.1
      | absent => exact .inr (.inr ⟨rfl, listens.2 state⟩)
      | mismatched => exact .inr (.inl rfl)

end

end Sys2Proof.Machine
end

section
/-! Settles O14: STATUS. -/

namespace Sys2Proof.Machine

/-! ## The statement period behind the own STATUS -/

theorem setMember_period {m : MemberState} (sends : m = .catchingUp ∨ m = .inStep ∨ m = .mismatched) (x : State) :
    (setMember m x).member.statusPeriod = some 2000 := by
  unfold setMember entered
  obtain rfl | rfl | rfl := sends
  · exact (congrArg Membership.statusPeriod (startStatus_member _))
  · exact (congrArg Membership.statusPeriod (enterInStep_member _))
  · exact (congrArg Membership.statusPeriod (startStatus_member _))

theorem catchUpResponse_period {x : State} (runs : x.member.statusPeriod = some 2000) (m : MemberState) :
    (catchUpResponse m x).member.statusPeriod = some 2000 := by
  unfold catchUpResponse checkCatchUp
  (repeat' split)
  · exact setMember_period (.inr (.inl rfl)) _
  · exact runs
  · exact runs

theorem mismatchResponse_period {c : Course} (runs : c.state.member.statusPeriod = some 2000) :
    (mismatchResponse c).state.member.statusPeriod = some 2000 := by
  have dropped : (dropOwnClaim c).state.member = c.state.member := by simp [dropOwnClaim]
  unfold mismatchResponse
  split
  · rw [mapState_state]
    split
    · exact setMember_period (.inr (.inr rfl)) _
    · rw [dropped]; exact runs
  · exact runs

section
variable {codes : Sensors} {address : BitVec 4} {p : StatusPayload} {s t : State}

theorem FrameTaken.status_period (done : FrameTaken codes address (.status p) s t) (hears : s.hears address (.status p))
    (own : (s.ownFrame address.toNat (.status p)).isSome = true)
    (sends : s.member.state = .catchingUp ∨ s.member.state = .inStep ∨ s.member.state = .mismatched) :
    t.member.statusPeriod = some 2000 := by
  have taken : (s.taking codes address (.status p)).state.member.statusPeriod = some 2000 := by
    rw [(taking_status codes address p s).1, if_pos ⟨own, (sendsStatus_iff s).mpr sends⟩]
  have settled : (expelSettled (s.ownFrame address.toNat (.status p)) (s.taking codes address (.status p)).state).member.statusPeriod =
      some 2000 := by
    unfold expelSettled
    (repeat' split) <;> exact taken
  have plain : (Bulletin.status p).plain := ⟨nofun, nofun⟩
  rw [← done.ended, (finishRunning_member _ _ _).2.2.2.1, coursed_of_calm hears (.inr (.inr own))]
  unfold memberResponse
  rw [mapState_state, joinResponse_of_plain plain]
  exact catchUpResponse_period (x := syncHeard (syncAges (mismatchResponse _).state))
    (mismatchResponse_period (c := (s.taking codes address (.status p)).mapState _) settled) _

/-! ## Statements heard while the station catches up -/

theorem hear_heard {x : State} {station : Nat} (catching : x.member.state = .catchingUp) (other : station ≠ x.me)
    (same : p.tag = x.tag) :
    (hear station p x).member.heard =
      if (x.table.rowOf station).state = .present then
        x.member.heard.filter (fun h => h.station != station) ++ [{ station, tagZero := p.leaseTagSeen == 0 }]
      else x.member.heard := by
  unfold hear
  by_cases present : (x.table.rowOf station).state = .present
  · rw [if_pos ⟨catching, other, same, present⟩, if_pos present]
  · rw [if_neg (fun h => present h.2.2.2), if_neg present]

theorem opened_heard (codes : Sensors) (address : BitVec 4) (b : Bulletin) (s : State) :
    (s.opened codes address b).member.heard = s.member.heard := by
  unfold State.opened
  simp only [hearPanel_frame]
  unfold addressed closeOwnFrame
  cases s.ownFrame address.toNat b <;> rfl

theorem owedWritten_statement {t : ShareTable} {me station : Nat} {own : Byte} {learning : Bool} {r : Row}
    (found : t.row? station = some r) :
    owedWritten me station own learning t (.status p) =
      if station = me ∧ p.tag = own ∧ statementInRange r p = true ∧
          (r.state = .present ∨ (r.state = .absent ∧ learning = true)) then p.owed.toNat
      else (t.rowOf me).owed := by
  rw [owedWritten_status]
  by_cases mine : station = me
  · subst mine
    rw [found]
    simp
  · rw [if_neg (fun h => mine h.1), if_neg (fun h => mine h.1)]

theorem learning_iff (s : State) : s.learning = true ↔ s.member.state = .listen ∨ s.member.state = .joining := by
  unfold State.learning
  simp

/-- The table behind a statement of another table tag. -/
theorem tableAfter_status_other {me station : Nat} {own : Byte} {learning : Bool} {t : ShareTable} {r : Row}
    (found : t.row? station = some r) (other : p.tag ≠ own) :
    tableAfter me station own learning t (.status p) =
        (if t.hasEntry station = true then (t.marked station).roundServed
        else (t.marked station).evaluateOverdrawn false).withoutEntryOf me ∧
      (tableAfter me station own learning t (.status p)).keepsRow station { r with state := .mismatched } := by
  have taken : takenBy me station own learning t (.status p) = _ := takeStatus_other found other
  unfold tableAfter
  rw [taken, if_pos rfl]
  refine ⟨?_, keepsRow_dropOwnEntry me (keepsRow_settle me false _ (keepsRow_marked found))⟩
  rw [← settle_table_of_use me]
  exact dropOwnEntry_table me (settle_evaluated me false _ _)

end

/-- Settles O14: STATUS states the sender's row and entry. -/
theorem statusTaken : Obligations.StatusTaken := by
  intro codes address p s r running passes hears found
  obtain ⟨t, next, done⟩ := frame_taken (c := .status codes address p) rfl running passes hears
  have station := row?_station found
  obtain ⟨share, overrides, doors, counters, heard, news, catchUp⟩ := taking_status_blocks codes address p s
  obtain ⟨loaderX, _, tableX, _, memberX, repairs⟩ := statement_frame codes address p s
  have doorsT := done.doors.trans (doors.trans (statement_doors codes address p s))
  have same_table : p.tag = s.tag → t.table = (takeStatus s.me address.toNat s.tag s.learning p s.table).table := fun same =>
    done.matchedTable hears (takeStatus_mismatch_of_tag same)
  have plain : (Bulletin.status p).plain := ⟨nofun, nofun⟩
  have written := owedWritten_statement (p := p) (me := s.me) (own := s.tag) (learning := s.learning) found
  have recalls := done.recalls hears (fun _ => nofun)
  have spilled : p.tag ≠ s.tag → ((takeStatus s.me address.toNat s.tag s.learning p s.table).table.rowOf address.toNat).state =
      .mismatched := by
    intro other
    rw [takeStatus_other found other]
    exact (keepsRow_settle s.me false _ (keepsRow_marked found)).rowOf.1
  refine ⟨statementInRange_iff r p, fun range => ?_, t, next, fun same range listens => ?_, fun same refused => ?_, fun other => ?_,
    fun marked => ?_, fun same fine => ?_, fun saloon cab same => ?_, fun unlearned => ?_, fun catching other same => ?_,
    fun _ => ?_, fun own sends => done.status_period hears own sends, done.evaluated _ share (.inr rfl), done.supply,
    (done.overrides.trans overrides).trans (opened_overrides_of_station (station_of_passes rfl passes))⟩
  · have differs := differs_iff (t := s.table) range
    rwa [station] at differs
  · have listens : r.state = .present ∨ (r.state = .absent ∧ s.learning = true) := by rwa [learning_iff]
    obtain ⟨table, repaired⟩ := takeStatus_stated (me := s.me) found same range listens
    refine ⟨(same_table same).trans table, ?_⟩
    obtain ⟨_, counted, _⟩ := coursed_of_matched (codes := codes) hears
      ((taking_table codes address (.status p) s).2.trans (takeStatus_mismatch_of_tag same))
    rw [done.stats, counted, counters, repairs, repaired]
    simp
  · have refused : statementInRange r p = false ∨ r.state = .mismatched ∨ (r.state = .absent ∧ s.learning = false) := by
      rw [← Bool.not_eq_true s.learning, learning_iff, not_or]
      exact refused
    have table := same_table same
    rw [takeStatus_refused found same refused] at table
    exact ⟨table, fun law => table.trans (nothing_of_flagLaw law)⟩
  · obtain ⟨table, kept⟩ := tableAfter_status_other (p := p) (me := s.me) (own := s.tag) (learning := s.learning) found other
    have after := done.table.trans (coursed_table hears)
    rw [← after] at table kept
    obtain ⟨state, borrowed, safety⟩ := kept.rowOf
    exact ⟨state, borrowed, safety, kept.hasEntry, table⟩
  · rw [doorsT]
    refine if_pos ?_
    by_cases other : p.tag ≠ s.tag
    · exact spilled other
    · rw [Decidable.not_not] at other
      have mismatched := marked.resolve_left (not_not_intro other)
      rw [takeStatus_state found other, if_neg (by simp [mismatched]), mismatched]
  · rw [doorsT]
    refine if_neg ?_
    rw [takeStatus_state found same]
    split
    · decide
    · exact fine
  · rw [doorsT]
    exact ⟨if_pos ⟨saloon, cab, same⟩, if_pos ⟨saloon, cab, same⟩⟩
  · have unlearned : ¬(s.isCab = false ∧ s.cabStation = some address.toNat ∧ p.tag = s.tag) := by
      rintro ⟨saloon, cab, same⟩
      obtain isCab | other | foreign := unlearned
      · rw [saloon] at isCab; cases isCab
      · exact other cab
      · exact foreign same
    rw [doorsT]
    exact ⟨if_neg unlearned, if_neg unlearned⟩
  · have matched := (taking_table codes address (.status p) s).2.trans (takeStatus_mismatch_of_tag same)
    obtain ⟨heardT, newsT, steps, stays⟩ := done.follows running catching
      (coursed_caught hears (.inl other) matched plain catching)
    have state : ((s.statement codes address p).table.rowOf address.toNat).state = r.state := by
      rw [tableX, takeStatus_state found same, if_neg (fun h => by
        have learns := (learning_iff s).mp h.2.2
        simp [catching] at learns)]
    have caughtHeard := (caught_frame codes address (.status p) s).2.2.2.2.2.2.2
    have tableT : t.table = (s.taking codes address (.status p)).state.table :=
      (same_table same).trans (taking_table codes address (.status p) s).1.symm
    have listened := hear_heard (p := p) (x := s.statement codes address p) (station := address.toNat)
      (by rw [memberX]; simpa using catching) (by rw [me_of_loader loaderX]; exact other)
      (by rw [same, State.tag, State.tag, loaderX])
    rw [state, memberX, opened_heard] at listened
    rw [heard, listened, ← tableT] at caughtHeard
    rw [share] at steps
    rw [catchUp] at stays
    rw [newsT, news] at steps stays
    exact ⟨heardT.trans caughtHeard, steps, stays⟩
  · rw [recalls, written]
    simp only [learning_iff]
    rfl

end Sys2Proof.Machine
end

section
/-! Settles O22: ages, expulsion and catching up behind a frame; a frame that the filter holds back. -/

namespace Sys2Proof.Machine

/-! ## Any frame, taken as the station takes it -/

section
variable {codes : Sensors} {address : BitVec 4} {b : Bulletin} {s t : State}

/-- A station takes its own frame's bulletin: the frame counts as one heard as it was sent. -/
theorem heard_as (s : State) (address : BitVec 4) (b : Bulletin) :
    ∃ b', s.hears address b' ∧ s.ownFrame address.toNat b' = s.ownFrame address.toNat b ∧
      (s.hears address b → b' = b) ∧
      ∀ codes, s.coursed codes address b' = s.coursed codes address b := by
  cases own : s.ownFrame address.toNat b with
  | none => exact ⟨b, hears_of_foreign own, own, fun _ => rfl, fun _ => rfl⟩
  | some f =>
    have kind : f.bulletin.txKind = b.txKind := by
      have taken := takenBulletin_txKind address.toNat b s
      rwa [own] at taken
    have same : s.ownFrame address.toNat f.bulletin = some f := by
      have sameKind : ∀ g : OwnFrame, g.bulletin.sameKind f.bulletin = g.bulletin.sameKind b := fun g => by
        simp only [Bulletin.sameKind, kind]
      rw [← own]
      unfold State.ownFrame
      simp only [sameKind]
    refine ⟨f.bulletin, ?_, same, fun hears => ?_, fun codes => ?_⟩
    · unfold State.hears
      rw [same]
      simp
    · unfold State.hears at hears
      rw [own] at hears
      simpa using hears
    · have heardOwn : (s.heardFrame codes).ownFrame address.toNat b = some f := own
      have heardSame : (s.heardFrame codes).ownFrame address.toNat f.bulletin = some f := same
      unfold State.coursed course
      rw [heardOwn, heardSame]
      rfl

theorem frame_taken_as {c : Instr} (frame : frameOf c = some (codes, address, b)) (running : s.running = true)
    (passes : s.passes address.toNat b = true) :
    ∃ b' t, exec c s = .next t ∧ FrameTaken codes address b' s t ∧ s.hears address b' ∧ (s.hears address b → b' = b) ∧
      s.ownFrame address.toNat b' = s.ownFrame address.toNat b := by
  obtain ⟨b', hears, own, same, course⟩ := heard_as s address b
  obtain ⟨shared, doors, overrides⟩ := coursed_blocks (codes := codes) hears
  have taken := takenFrom_coursed codes address b running
  have next := exec_taking frame running passes
  rw [← course codes] at next taken
  refine ⟨b', _, next, ⟨rfl, ?_, ?_, ?_, ?_, ?_, fun share same raise => ?_⟩, hears, same, own⟩
  · simp [taken.supply]
  · simp [doors]
  · simp [overrides]
  · simp
  · simp
  · exact takingEvaluated_of_taken taken rfl (shared.trans same) raise (coursed_notPeriodic hears)

end

end Sys2Proof.Machine
end

section
/-! Settles O22: ages, expulsion and catching up behind a frame; a frame that the filter holds back. -/

namespace Sys2Proof.Machine

/-! ## The ages -/

theorem takeBulletin_ages (own : Bool) (sender : Nat) (b : Bulletin) (x : State) :
    (takeBulletin own sender b x).state.member.ages = x.member.ages := by
  have heard : ∀ (station : Nat) (p : StatusPayload) (y : State), (hear station p y).member.ages = y.member.ages := by
    intro station p y; unfold hear; split <;> rfl
  cases b with
  | allowance => simp only [takeBulletin, takesAllowance]; split <;> simp [leaseRenewed]
  | lapse => simp only [takeBulletin, takesLapse]; split <;> simp [leaseEnded]
  | expel => simp only [takeBulletin, takesExpel]; split <;> simp
  | join => simp only [takeBulletin, takesJoin]; (repeat' split) <;> simp
  | status => simp only [takeBulletin, takesStatus]; split <;> simp [heard]
  | claim => simp only [takeBulletin, takesClaim]; split <;> simp
  | ret => simp only [takeBulletin, takesReturn]; split <;> simp
  | draft => simp only [takeBulletin, takesDraft]; split <;> simp
  | report => simp only [takeBulletin]; split <;> simp
  | override | cancel => simp [takeBulletin, slotCourse]
  | snapshot | query | unknown => simp [takeBulletin]

theorem closeOwnFrame_member (own : Option OwnFrame) (x : State) : (closeOwnFrame own x).member = x.member := by
  unfold closeOwnFrame
  cases own <;> rfl

/-- The sender's age begins anew. -/
def agesHeard (station : Nat) (ages : List Age) : List Age :=
  ages.map (fun a => if a.station = station then ageZero station else a)

theorem addressed_ages (own : Option OwnFrame) (station : Nat) (x : State) :
    (addressed own station x).member.ages = agesHeard station x.member.ages := by
  unfold addressed resetAge
  rw [closeOwnFrame_member]
  rfl

theorem opened_ages (codes : Sensors) (address : BitVec 4) (b : Bulletin) (s : State) :
    (s.opened codes address b).member.ages = agesHeard address.toNat s.member.ages := by
  unfold State.opened
  rw [(hearPanel_frame _ _).2.2.2.2.2.2.2.2.2.2.1, addressed_ages]
  rfl

theorem mismatchResponse_ages (c : Course) : (mismatchResponse c).state.member.ages = c.state.member.ages := by
  have dropped : (dropOwnClaim c).state.member = c.state.member := by simp [dropOwnClaim]
  unfold mismatchResponse
  split
  · rw [mapState_state]
    split
    · rw [(enterMismatch_ages _).1, dropped]
    · rw [dropped]
  · rfl

theorem expelSettled_ages (own : Option OwnFrame) (x : State) : (expelSettled own x).member.ages = x.member.ages := by
  unfold expelSettled
  (repeat' split) <;> rfl

theorem catchUpResponse_ages (m : MemberState) (x : State) : (catchUpResponse m x).member.ages = x.member.ages := by
  unfold catchUpResponse
  split
  · simp
  · rfl

theorem joinResponse_ages (own : Bool) (b : Bulletin) (x : State) :
    (joinResponse own b x).member.ages = x.member.ages ∨ (joinResponse own b x).member.ages = x.otherPresent.map ageZero := by
  unfold joinResponse
  (repeat' split)
  · exact .inr (setMember_ages _ _).1
  · exact .inl rfl
  · exact .inl (selfExpelled_ages _).1
  · exact .inl rfl
  · exact .inl rfl

section
variable {codes : Sensors} {address : BitVec 4} {b : Bulletin} {s t : State}

/-- Behind a frame's course every other present station has an age: its own, or a new one. -/
theorem coursed_ages (hears : s.hears address b) :
    ∃ age : Nat → Age, (s.coursed codes address b).state.member.ages = (s.coursed codes address b).state.otherPresent.map age ∧
      ∀ n, (age n).station = n ∧ (age n = ageZero n ∨ age n ∈ agesHeard address.toNat s.member.ages) := by
  have taken : (s.taking codes address b).state.member.ages = agesHeard address.toNat s.member.ages :=
    (takeBulletin_ages _ _ _ _).trans (opened_ages codes address b s)
  have loader : (s.coursed codes address b).state.loader = s.loader := by simp [State.coursed]
  have course := coursed_eq (codes := codes) hears
  generalize responded : mismatchResponse ((s.taking codes address b).mapState (expelSettled (s.ownFrame address.toNat b))) = c
  have ages : c.state.member.ages = agesHeard address.toNat s.member.ages := by
    rw [← responded, mismatchResponse_ages, mapState_state, expelSettled_ages, taken]
  have agesC : (s.coursed codes address b).state.member.ages =
      (joinResponse (s.ownFrame address.toNat b).isSome b (syncAges c.state)).member.ages := by
    rw [course, mapState_state, (clashResponse_ages _ _ _).1]
    unfold memberResponse
    rw [responded, mapState_state, catchUpResponse_ages]
    rfl
  have table : (s.coursed codes address b).state.table = c.state.table := by
    rw [course, mapState_state, (clashResponse_frame _ _ _).2.2.2.2.1]
    simp [memberResponse, responded]
  have loaderC : c.state.loader = s.loader := by
    rw [← responded, (mismatchResponse_blocks _).2.2.2.1]
    simpa using (taking_frame codes address b s).1
  have present : (s.coursed codes address b).state.otherPresent = c.state.otherPresent := by
    unfold State.otherPresent
    rw [table, me_of_loader (loader.trans loaderC.symm)]
  rw [agesC, present]
  obtain kept | anew := joinResponse_ages (s.ownFrame address.toNat b).isSome b (syncAges c.state)
  · refine ⟨fun n => (c.state.member.ages.find? (fun a : Age => a.station == n)).getD (ageZero n), kept, fun n => ?_⟩
    dsimp only
    cases found : c.state.member.ages.find? (fun a : Age => a.station == n) with
    | none => exact ⟨rfl, .inl rfl⟩
    | some a => exact ⟨by simpa using List.find?_some found, .inr (ages ▸ List.mem_of_find?_eq_some found)⟩
  · exact ⟨ageZero, anew, fun n => ⟨rfl, .inl rfl⟩⟩

theorem mem_agesHeard {station : Nat} {ages : List Age} {a : Age} (mem : a ∈ agesHeard station ages) :
    a = ageZero station ∨ (a.station ≠ station ∧ a ∈ ages) := by
  obtain ⟨x, inAges, eq⟩ := List.mem_map.mp mem
  by_cases mine : x.station = station
  · rw [if_pos mine] at eq; exact .inl eq.symm
  · rw [if_neg mine] at eq; subst eq; exact .inr ⟨mine, inAges⟩

theorem FrameTaken.ages (done : FrameTaken codes address b s t) (hears : s.hears address b) :
    (∀ a ∈ t.member.ages, a.station = address.toNat → a.left = some 12000) ∧
      (∀ a ∈ t.member.ages, a.left = some 12000 ∨ a ∈ s.member.ages) ∧
      t.member.ages.map (·.station) =
        (t.table.rows.filter (fun r => r.state == .present && r.station != s.me)).map (·.station) := by
  obtain ⟨age, eq, each⟩ := coursed_ages (codes := codes) hears
  have ages : t.member.ages = (s.coursed codes address b).state.otherPresent.map age := by
    rw [← done.ended, (finishRunning_member _ _ _).2.2.2.2.2.2, eq]
  have zero : ∀ n, (ageZero n).left = some 12000 := fun _ => rfl
  refine ⟨fun a mem mine => ?_, fun a mem => ?_, ?_⟩
  · rw [ages] at mem
    obtain ⟨n, _, rfl⟩ := List.mem_map.mp mem
    obtain anew | heard := (each n).2
    · rw [anew]; exact zero n
    · obtain anew | ⟨other, _⟩ := mem_agesHeard heard
      · rw [anew]; exact zero _
      · exact absurd mine other
  · rw [ages] at mem
    obtain ⟨n, _, rfl⟩ := List.mem_map.mp mem
    obtain anew | heard := (each n).2
    · rw [anew]; exact .inl (zero n)
    · obtain anew | ⟨_, old⟩ := mem_agesHeard heard
      · rw [anew]; exact .inl (zero _)
      · exact .inr old
  · have loader : (s.coursed codes address b).state.loader = s.loader := by simp [State.coursed]
    rw [ages, List.map_map, done.table]
    have station : (fun a : Age => a.station) ∘ age = id := funext fun n => (each n).1
    rw [station, List.map_id]
    unfold State.otherPresent
    rw [me_of_loader loader]

/-! ## Expulsion -/

/-- A station that is not silent is not proposed, and a proposal of it is dropped unless it is on its way. -/
theorem checkExpulsion_spares {x : State} {n : Nat} (grounded : x.flying .expel = false)
    (fresh : ∀ a ∈ x.member.ages, a.station = n → a.left = some 12000) : (checkExpulsion x).member.expulsion ≠ some n := by
  have heard : x.silentRow n = false := by
    unfold State.silentRow
    rw [List.any_eq_false]
    intro a mem
    simp only [Bool.and_eq_true, beq_iff_eq, not_and, Bool.not_eq_true]
    intro mine
    simp [Age.silent, fresh a mem mine]
  have dropped : (dropSettledExpulsion x).member.expulsion ≠ some n ∧ (dropSettledExpulsion x).member.ages = x.member.ages := by
    unfold dropSettledExpulsion
    split
    · rename_i p proposed
      by_cases mine : p = n
      · subst mine
        rw [if_neg (by simp [heard, grounded])]
        simp
      · split
        · exact ⟨by rw [proposed]; simpa using mine, rfl⟩
        · simp
    · rename_i none
      exact ⟨by rw [none]; simp, rfl⟩
  unfold checkExpulsion proposeExpulsion
  split
  · split
    · rename_i p lowest
      rw [(queueKind_frame _ _).2.2.2.2.2.2.2.2.2.2.2.1]
      have silent := (List.min?_eq_some_iff.mp lowest).1
      obtain ⟨a, mem, station⟩ := List.mem_map.mp silent
      obtain ⟨inAges, quiet⟩ := List.mem_filter.mp mem
      rw [dropped.2] at inAges
      intro mine
      have timer := fresh a inAges (station.trans (Option.some.inj mine))
      simp [Age.silent, timer] at quiet
    · exact dropped.1
  · exact dropped.1

theorem opened_flying {kind : TxKind} (grounded : s.flying kind = false) :
    (s.opened codes address b).flying kind = false := by
  cases own : s.ownFrame address.toNat b with
  | some f => simp [State.flying, opened_grounded (codes := codes) (by rw [own]; rfl)]
  | none =>
    have same : (s.opened codes address b).bus.inFlight = s.bus.inFlight := by
      unfold State.opened
      rw [own]
      simp [addressed, closeOwnFrame, resetAge]
      rfl
    rw [← grounded]
    simp only [State.flying, same]

end

end Sys2Proof.Machine
end

section
/-! Settles O22: a station that catches up, behind any frame. -/

namespace Sys2Proof.Machine

section
variable {codes : Sensors} {address : BitVec 4} {b : Bulletin} {s t : State}

/-! ## What a taking leaves of catching up -/

theorem takeBulletin_catchUp (own : Bool) (sender : Nat) (b : Bulletin) (x : State) :
    (takeBulletin own sender b x).state.member.catchUp = x.member.catchUp := by
  have heard : ∀ (station : Nat) (p : StatusPayload) (y : State), (hear station p y).member.catchUp = y.member.catchUp := by
    intro station p y; unfold hear; split <;> rfl
  cases b with
  | allowance => simp only [takeBulletin, takesAllowance]; split <;> simp [leaseRenewed]
  | lapse => simp only [takeBulletin, takesLapse]; split <;> simp [leaseEnded]
  | expel => simp only [takeBulletin, takesExpel]; split <;> simp
  | join => simp only [takeBulletin, takesJoin]; (repeat' split) <;> simp
  | status => simp only [takeBulletin, takesStatus]; split <;> simp [heard]
  | claim => simp only [takeBulletin, takesClaim]; split <;> simp
  | ret => simp only [takeBulletin, takesReturn]; split <;> simp
  | draft => simp only [takeBulletin, takesDraft]; split <;> simp
  | report => simp only [takeBulletin]; split <;> simp
  | override | cancel => simp [takeBulletin, slotCourse]
  | snapshot | query | unknown => simp [takeBulletin]

theorem takeBulletin_heard (own : Bool) (sender : Nat) {b : Bulletin} (other : ∀ p, b ≠ .status p) (x : State) :
    (takeBulletin own sender b x).state.member.heard = x.member.heard := by
  cases b with
  | allowance => simp only [takeBulletin, takesAllowance]; split <;> simp [leaseRenewed]
  | lapse => simp only [takeBulletin, takesLapse]; split <;> simp [leaseEnded]
  | expel => simp only [takeBulletin, takesExpel]; split <;> simp
  | join => simp only [takeBulletin, takesJoin]; (repeat' split) <;> simp
  | status p => exact absurd rfl (other p)
  | claim => simp only [takeBulletin, takesClaim]; split <;> simp
  | ret => simp only [takeBulletin, takesReturn]; split <;> simp
  | draft => simp only [takeBulletin, takesDraft]; split <;> simp
  | report => simp only [takeBulletin]; split <;> simp
  | override | cancel => simp [takeBulletin, slotCourse]
  | snapshot | query | unknown => simp [takeBulletin]

theorem takeBulletin_leaseNews (own : Bool) (sender : Nat) {b : Bulletin}
    (unrenewed : ∀ units leaseTime fallback tag, b ≠ .allowance units leaseTime fallback tag)
    (unlapsed : ∀ tag, b ≠ .lapse tag) (x : State) :
    (takeBulletin own sender b x).state.member.leaseNews = x.member.leaseNews := by
  have heard : ∀ (station : Nat) (p : StatusPayload) (y : State), (hear station p y).member.leaseNews = y.member.leaseNews := by
    intro station p y; unfold hear; split <;> rfl
  cases b with
  | allowance units leaseTime fallback tag => exact absurd rfl (unrenewed units leaseTime fallback tag)
  | lapse tag => exact absurd rfl (unlapsed tag)
  | expel => simp only [takeBulletin, takesExpel]; split <;> simp
  | join => simp only [takeBulletin, takesJoin]; (repeat' split) <;> simp
  | status => simp only [takeBulletin, takesStatus]; split <;> simp [heard]
  | claim => simp only [takeBulletin, takesClaim]; split <;> simp
  | ret => simp only [takeBulletin, takesReturn]; split <;> simp
  | draft => simp only [takeBulletin, takesDraft]; split <;> simp
  | report => simp only [takeBulletin]; split <;> simp
  | override | cancel => simp [takeBulletin, slotCourse]
  | snapshot | query | unknown => simp [takeBulletin]

theorem opened_catchUp (codes : Sensors) (address : BitVec 4) (b : Bulletin) (s : State) :
    (s.opened codes address b).member.catchUp = s.member.catchUp := by
  unfold State.opened
  simp only [hearPanel_frame]
  unfold addressed closeOwnFrame
  cases s.ownFrame address.toNat b <;> rfl

/-! ## The course of a station that catches up -/

/-- A station that catches up and finds its own table tag, unexpelled, looks whether it has caught up. -/
theorem memberResponse_caught (catching : s.member.state = .catchingUp) (matched : (s.taking codes address b).mismatch = false)
    (spared : ∀ station, b = .expel station → station.toNat ≠ s.me) :
    (memberResponse (s.ownFrame address.toNat b).isSome b
        ((s.taking codes address b).mapState (expelSettled (s.ownFrame address.toNat b)))).state =
      catchUpResponse .catchingUp (s.caught codes address b) := by
  have unmoved := mismatchResponse_of_none ((s.taking codes address b).mapState (expelSettled (s.ownFrame address.toNat b)))
    matched
  obtain ⟨loader, member⟩ := taking_frame codes address b s
  unfold State.caught
  have state : (syncAges (expelSettled (s.ownFrame address.toNat b) (s.taking codes address b).state)).member.state =
      .catchingUp := (expelSettled_member_state _ _).trans (member.trans catching)
  have me : (syncAges (expelSettled (s.ownFrame address.toNat b) (s.taking codes address b).state)).me = s.me :=
    (me_of_loader (by simp [syncAges])).trans (me_of_loader loader)
  have idle : joinResponse (s.ownFrame address.toNat b).isSome b
      (syncAges (expelSettled (s.ownFrame address.toNat b) (s.taking codes address b).state)) =
      syncAges (expelSettled (s.ownFrame address.toNat b) (s.taking codes address b).state) := by
    unfold joinResponse
    split
    · rw [if_neg (by simp [state])]
    · rename_i station
      rw [if_neg (fun expelled => spared station rfl (expelled.1.trans me))]
    · rfl
  unfold memberResponse
  rw [unmoved, mapState_state, mapState_state, idle]
  have settled : (expelSettled (s.ownFrame address.toNat b) (s.taking codes address b).state).member.state =
      .catchingUp := state
  rw [settled]

theorem catchUpResponse_of_still {m : MemberState} {x : State} (idle : m ≠ .catchingUp ∨ x.member.state ≠ .catchingUp) :
    catchUpResponse m x = x := by
  unfold catchUpResponse checkCatchUp
  split
  · rename_i catches
    rw [if_neg (fun h => idle.resolve_left (not_not_intro catches) h.1)]
  · rfl

theorem selfExpelled_state (x : State) : (selfExpelled x).member.state = .joining := by
  unfold selfExpelled
  simp

/-- A taking that finds another table tag: the station that minds it is out of step, and nothing more is done. -/
theorem memberResponse_mismatch {own : Bool} {b : Bulletin} {c : Course} (mismatch : c.mismatch = true)
    (minds : c.state.mindsMismatch = true) :
    (memberResponse own b c).state = syncHeard (syncAges (enterMismatch (dropOwnClaim c).state)) := by
  have dropped : (dropOwnClaim c).state.mindsMismatch = true := by
    rw [← minds]
    simp [State.mindsMismatch, dropOwnClaim]
  have responded : (mismatchResponse c).state = enterMismatch (dropOwnClaim c).state := by
    unfold mismatchResponse
    rw [if_pos mismatch, mapState_state, if_pos dropped]
  have state : ∀ x : State, (enterMismatch x).member.state = .mismatched := fun x => by simp [enterMismatch]
  have idle : joinResponse own b (syncAges (enterMismatch (dropOwnClaim c).state)) =
      syncAges (enterMismatch (dropOwnClaim c).state) := by
    have mismatched : (syncAges (enterMismatch (dropOwnClaim c).state)).member.state = .mismatched := state _
    unfold joinResponse
    split
    · rw [if_neg (by simp [mismatched])]
    · rw [if_neg (by simp [mismatched])]
    · rfl
  unfold memberResponse
  rw [mapState_state, responded, idle, catchUpResponse_of_still (.inl (by rw [state]; decide))]

/-- The own EXPEL: the station leaves the table, and nothing more is done. -/
theorem memberResponse_expelled {own : Bool} {station : Byte} {c : Course} (matched : c.mismatch = false)
    (mine : station.toNat = c.state.me) (there : c.state.member.state = .catchingUp ∨ c.state.member.state = .inStep) :
    (memberResponse own (.expel station) c).state = syncHeard (selfExpelled (syncAges c.state)) := by
  have expels : joinResponse own (.expel station) (syncAges c.state) = selfExpelled (syncAges c.state) := if_pos ⟨mine, there⟩
  unfold memberResponse
  rw [mismatchResponse_of_none c matched, mapState_state, expels]
  refine catchUpResponse_of_still (.inr ?_)
  show (selfExpelled _).member.state ≠ _
  rw [selfExpelled_state]
  decide

/-- A station that catches up, and that does or enters step behind the frame, has just looked whether it has caught up. -/
theorem coursed_of_follows (hears : s.hears address b) (catching : s.member.state = .catchingUp)
    (goesOn : (s.coursed codes address b).state.member.state = .catchingUp ∨
      (s.coursed codes address b).state.member.state = .inStep) :
    (s.coursed codes address b).state = catchUpResponse .catchingUp (s.caught codes address b) := by
  have noClash : (s.coursed codes address b).state.member.state ≠ .clash := by
    obtain h | h := goesOn <;> rw [h] <;> decide
  obtain ⟨loader, member⟩ := taking_frame codes address b s
  have settled : ((s.taking codes address b).mapState (expelSettled (s.ownFrame address.toNat b))).state.member.state =
      .catchingUp := (expelSettled_member_state _ _).trans (member.trans catching)
  have course := coursed_of_unclashed (codes := codes) hears noClash
  rw [course] at goesOn ⊢
  have settledMe : ((s.taking codes address b).mapState (expelSettled (s.ownFrame address.toNat b))).state.me = s.me :=
    (me_of_loader (by simp)).trans (me_of_loader loader)
  generalize entry : (s.taking codes address b).mapState (expelSettled (s.ownFrame address.toNat b)) = c at *
  have same : c.mismatch = (s.taking codes address b).mismatch := by rw [← entry]; rfl
  have matched : c.mismatch = false := by
    refine Bool.eq_false_iff.mpr fun mismatch => ?_
    rw [memberResponse_mismatch mismatch (by simp [State.mindsMismatch, settled])] at goesOn
    simp [syncHeard, syncAges, enterMismatch] at goesOn
  rw [← entry]
  refine memberResponse_caught catching (same.symm.trans matched) fun station eq mine => ?_
  subst eq
  rw [memberResponse_expelled matched (mine.trans settledMe.symm) (.inl settled)] at goesOn
  have state : (syncHeard (selfExpelled (syncAges c.state))).member.state = .joining := selfExpelled_state _
  rw [state] at goesOn
  simp at goesOn

/-- Catching up behind any frame that the station takes. -/
theorem FrameTaken.catchUpFollows (done : FrameTaken codes address b s t) (hears : s.hears address b)
    (running : s.running = true) : CatchUpFollows s t := by
  intro catching goesOn
  rw [done.memberState] at goesOn
  obtain ⟨_, _, steps, stays⟩ := done.follows running catching (coursed_of_follows hears catching goesOn)
  have catchUp : (s.taking codes address b).state.member.catchUp = s.member.catchUp :=
    (takeBulletin_catchUp _ _ _ _).trans (opened_catchUp codes address b s)
  rw [catchUp] at stays
  rw [← (done.lease hears).1] at steps
  generalize ((∀ x ∈ t.table.rows, x.state = .present → x.station ≠ s.me → ∃ h ∈ t.member.heard, h.station = x.station) ∧
    (t.member.leaseNews = true ∨ ∀ h ∈ t.member.heard, h.tagZero = true)) = all at steps stays ⊢
  refine ⟨⟨fun inStep => ?_, fun all => (steps all).1⟩, fun inStep => ?_, fun still => ?_⟩
  · by_cases holds : all
    · exact holds
    · rw [(stays holds).1] at inStep; cases inStep
  · by_cases holds : all
    · exact (steps holds).2
    · rw [(stays holds).1] at inStep; cases inStep
  · by_cases holds : all
    · rw [(steps holds).1] at still; cases still
    · exact (stays holds).2

/-- A station that catches up and finds its own table tag, unexpelled and alone on its address, goes on or enters step. -/
theorem FrameTaken.goesOn (done : FrameTaken codes address b s t) (hears : s.hears address b) (running : s.running = true)
    (catching : s.member.state = .catchingUp) (calm : s.calm address b)
    (matched : (takenBy s.me address.toNat s.tag s.learning s.table b).mismatch = false)
    (spared : ∀ station, b = .expel station → station.toNat ≠ s.me) :
    (t.member.state = .catchingUp ∨ t.member.state = .inStep) ∧
      t.member.heard =
        (s.taking codes address b).state.member.heard.filter (fun h => (t.table.rowOf h.station).state == .present) ∧
      t.member.leaseNews = (s.taking codes address b).state.member.leaseNews := by
  obtain ⟨table, mismatch⟩ := taking_table codes address b s
  have course : (s.coursed codes address b).state = catchUpResponse .catchingUp (s.caught codes address b) :=
    (coursed_of_calm hears calm).trans (memberResponse_caught catching (mismatch.trans matched) spared)
  obtain ⟨heard, news, steps, stays⟩ := done.follows running catching course
  have kept := (caught_frame codes address b s).2.2.2.2.2.2.2
  rw [table, ← done.matchedTable hears matched] at kept
  refine ⟨?_, heard.trans kept, news⟩
  by_cases all : (∀ x ∈ t.table.rows, x.state = .present → x.station ≠ s.me → ∃ h ∈ t.member.heard, h.station = x.station) ∧
    (t.member.leaseNews = true ∨ ∀ h ∈ t.member.heard, h.tagZero = true)
  · exact .inr (steps all).1
  · exact .inl (stays all).1

end

end Sys2Proof.Machine
end

section
/-! Settles O22: ages, expulsion and catching up behind a frame; a frame that the filter holds back. -/

namespace Sys2Proof.Machine

/-! ## A sender that has just been heard is not proposed for expulsion -/

theorem flying_of_grounded {x y : State}
    (same : x.bus.inFlight.map OwnFrame.grounded = y.bus.inFlight.map OwnFrame.grounded) (kind : TxKind) :
    x.flying kind = y.flying kind := by
  have read : ∀ z : State, z.flying kind = ((z.bus.inFlight.map OwnFrame.grounded).map (fun f => f.kind == kind)).getD false := by
    intro z; unfold State.flying; cases z.bus.inFlight <;> rfl
  rw [read, read, same]

section
variable {codes : Sensors} {address : BitVec 4} {b : Bulletin} {s t : State}

theorem coursed_flying (hears : s.hears address b) (kind : TxKind) :
    (s.coursed codes address b).state.flying kind = (s.opened codes address b).flying kind := by
  have law := aloftInvariant ((s.opened codes address b).bus.inFlight.map OwnFrame.grounded)
  have taken := law.takeBulletin (s.ownFrame address.toNat b).isSome address.toNat b (s := s.opened codes address b) rfl
  have settled : (expelSettled (s.ownFrame address.toNat b) (s.taking codes address b).state).bus.inFlight.map OwnFrame.grounded =
      (s.opened codes address b).bus.inFlight.map OwnFrame.grounded :=
    law.same (s := (s.taking codes address b).state) (by simp) taken
  refine flying_of_grounded ?_ kind
  rw [coursed_eq hears]
  exact law.clashResponse _ _ (law.memberResponse _ b
    (c := (s.taking codes address b).mapState (expelSettled (s.ownFrame address.toNat b))) settled)

theorem FrameTaken.spares (done : FrameTaken codes address b s t) (hears : s.hears address b)
    (grounded : s.flying .expel = false) : t.member.expulsion ≠ some address.toNat := by
  have fresh := (done.ages hears).1
  have flying := (coursed_flying (codes := codes) hears .expel).trans (opened_flying grounded)
  have ended := done.ended
  have ages : t.member.ages = (s.coursed codes address b).state.member.ages := by
    rw [← ended, (finishRunning_member _ _ _).2.2.2.2.2.2]
  rw [finishRunning_eq] at ended
  subst ended
  rw [ages] at fresh
  refine checkExpulsion_spares ?_ (by simpa using fresh)
  rw [← flying]
  refine flying_of_flight ?_ .expel
  have served : ((s.coursed codes address b).state.served (s.coursed codes address b).ev (s.heardFrame codes)).flight =
      (s.coursed codes address b).state.flight := flight_of_bus (by simp)
  have fan : ∀ x : State, (refreshFan (s.heardFrame codes) x).flight = x.flight := fun x => flight_of_bus (by simp)
  rw [flight_noteStatus, fan, flight_evaluate, flight_settle, served]

/-! ## Frames that the filter holds back -/

theorem passes_iff (s : State) (n : Nat) (x : Bulletin) : s.passes n x = true ↔
    match x with
    | .allowance .. => n = 9
    | .override .. => n = 8
    | .cancel .. => n = 8
    | .snapshot => 8 ≤ n
    | .query .. => 8 ≤ n
    | .unknown _ => False
    | _ => n ≤ 7 ∧ ∃ e ∈ s.loader.vt.roster, e.station = n := by
  have station : (decide (n ≤ 7) && s.onRoster n) = true ↔ n ≤ 7 ∧ ∃ e ∈ s.loader.vt.roster, e.station = n := by
    simp [State.onRoster]
  cases x with
  | allowance | override | cancel => exact beq_iff_eq
  | snapshot | query => exact decide_eq_true_iff
  | unknown => simp [State.passes]
  | lapse | expel | join | status | claim | ret | draft | report => exact station

end

/-- `y` is `x` but for the proposal of an expulsion and its request. -/
structure ExpelMoves (x y : State) : Prop where
  rest : { y with member := x.member, bus := x.bus } = x
  member : { y.member with expulsion := x.member.expulsion } = x.member
  bus : { y.bus with queue := x.bus.queue, inFlight := x.bus.inFlight } = x.bus
  queue : y.bus.queue.filter (fun e => e.kind != .expel) = x.bus.queue.filter (fun e => e.kind != .expel)
  inFlight : x.flying .expel = false → y.bus.inFlight = x.bus.inFlight

theorem ExpelMoves.refl (x : State) : ExpelMoves x x := ⟨rfl, rfl, rfl, rfl, fun _ => rfl⟩

theorem ExpelMoves.trans {x y z : State} (first : ExpelMoves x y) (last : ExpelMoves y z) : ExpelMoves x z where
  rest := ((congrArg (fun w : State => { w with member := x.member, bus := x.bus }) last.rest :)).trans first.rest
  member := ((congrArg (fun m : Membership => { m with expulsion := x.member.expulsion }) last.member :)).trans first.member
  bus := ((congrArg (fun b : Bus => { b with queue := x.bus.queue, inFlight := x.bus.inFlight }) last.bus :)).trans first.bus
  queue := last.queue.trans first.queue
  inFlight := fun grounded => by
    have aloft := first.inFlight grounded
    refine (last.inFlight ?_).trans aloft
    rw [← grounded]
    simp only [State.flying, aloft]

theorem expelMoves_queueKind (x : State) : ExpelMoves x (queueKind .expel x) := by
  unfold queueKind
  (repeat' split)
  · rename_i flying
    exact ⟨rfl, rfl, rfl, rfl, fun grounded => by rw [grounded] at flying; cases flying⟩
  · exact .refl x
  · exact ⟨rfl, rfl, rfl, by simp, fun _ => rfl⟩
  · exact .refl x

theorem expelMoves_withdrawKind (x : State) : ExpelMoves x (withdrawKind .expel x) := by
  unfold withdrawKind
  split
  · rename_i flying
    exact ⟨rfl, rfl, rfl, rfl, fun grounded => by rw [grounded] at flying; cases flying⟩
  · exact ⟨rfl, rfl, rfl, by simp, fun _ => rfl⟩

theorem expelMoves_checkExpulsion (x : State) : ExpelMoves x (checkExpulsion x) := by
  have noted : ∀ (y : State) (p : Option Nat), ExpelMoves y { y with member := { y.member with expulsion := p } } :=
    fun _ _ => ⟨rfl, rfl, rfl, rfl, fun _ => rfl⟩
  have dropped : ExpelMoves x (dropSettledExpulsion x) := by
    unfold dropSettledExpulsion
    (repeat' split)
    · exact .refl x
    · exact (noted x none).trans (expelMoves_withdrawKind _)
    · exact .refl x
  refine dropped.trans ?_
  unfold checkExpulsion proposeExpulsion
  (repeat' split)
  · exact (noted _ _).trans (expelMoves_queueKind _)
  · exact .refl _
  · exact .refl _

section
variable {codes : Sensors} {address : BitVec 4} {b : Bulletin} {s : State}

theorem filteredFrame_kept (own : Option OwnFrame) (address : Nat) (x : State) :
    (filteredFrame own address x).doors = x.doors ∧
      (filteredFrame own address x).stats.counters = x.stats.counters ∧
      (filteredFrame own address x).stats.snapshot = x.stats.snapshot ∧
      (filteredFrame own address x).member.ages = agesHeard address x.member.ages := by
  have ages : (checkExpulsion (addressed own address x)).member.ages = agesHeard address x.member.ages := by
    rw [← addressed_ages own]; simp
  have clash : ∀ y : State, (setMember .clash y).stats.counters = y.stats.counters ∧
      (setMember .clash y).stats.snapshot = y.stats.snapshot := fun y => by simp
  unfold filteredFrame
  dsimp only
  split
  · have running : (setMember .clash (checkExpulsion (addressed own address x))).running = true :=
      running_setMember .clash _ (by decide)
    rw [finish_of_running running, (finishRunning_member _ _ _).2.2.2.2.2.2, (setMember_ages _ _).1, ages]
    simp only [finishRunning_frame, clash]
    simp
  · rw [ages]
    simp

/-- A foreign frame that the filter holds back leaves the station as it is, but for the age of its sender. -/
theorem filteredFrame_foreign (foreign : s.ownFrame address.toNat b = none)
    (calm : address.toNat ≠ s.me ∨ s.member.state = .clash) :
    ExpelMoves (resetAge address.toNat (s.heardFrame codes))
      (filteredFrame ((s.heardFrame codes).ownFrame address.toNat b) address.toNat (s.heardFrame codes)) := by
  have own : (s.heardFrame codes).ownFrame address.toNat b = none := foreign
  rw [own, filteredFrame_of_other none address.toNat (s.heardFrame codes) calm]
  exact expelMoves_checkExpulsion _

theorem ageZero_left {n : Nat} {a : Age} (mem : a ∈ agesHeard n ages) (mine : a.station = n) : a.left = some 12000 := by
  obtain anew | ⟨other, _⟩ := mem_agesHeard mem
  · rw [anew]; rfl
  · exact absurd mine other

theorem agesHeard_eq (n : Nat) (ages : List Age) :
    agesHeard n ages = ages.map (fun a => if a.station = n then { a with left := some 12000 } else a) := by
  refine List.map_congr_left fun a _ => ?_
  split
  · rename_i mine; subst mine; rfl
  · rfl

/-- A frame that the filter holds back changes no block. -/
theorem filteredFrame_changesNoBlock {c : Instr} (frame : frameOf c = some (codes, address, b)) (running : s.running = true)
    (passes : s.passes address.toNat b = false) :
      ∃ t, exec c s = .next t ∧ t.table = s.table ∧ t.doors = s.doors ∧ t.overrides = s.overrides ∧
        t.supply = s.supply ∧ t.stats.counters = s.stats.counters ∧ t.stats.snapshot = s.stats.snapshot ∧
        (∀ a ∈ t.member.ages, a.station = address.toNat → a.left = some 12000) ∧
        (address.toNat ≠ s.me ∨ s.member.state = .clash → s.ownFrame address.toNat b = none →
          { t with
              moment := s.moment, pins := s.pins, bus := s.bus
              member := { t.member with ages := s.member.ages, expulsion := s.member.expulsion } } = s ∧
            t.pins = { s.pins with sensors := codes } ∧
            t.member.ages =
              s.member.ages.map (fun a => if a.station = address.toNat then { a with left := some 12000 } else a) ∧
            { t.bus with queue := s.bus.queue, inFlight := s.bus.inFlight } =
              { s.bus with idle := false, idleWait := none } ∧
            t.bus.queue.filter (fun e => e.kind != .expel) = s.bus.queue.filter (fun e => e.kind != .expel) ∧
            (s.flying .expel = false → t.bus.inFlight = s.bus.inFlight) ∧
            (s.flying .expel = false → t.member.expulsion ≠ some address.toNat)) := by
  obtain ⟨supply, pins, overrides⟩ := filteredFrame_blocks ((s.heardFrame codes).ownFrame address.toNat b) address.toNat
    (s.heardFrame codes)
  obtain ⟨doors, counters, snapshot, ages⟩ := filteredFrame_kept ((s.heardFrame codes).ownFrame address.toNat b)
    address.toNat (s.heardFrame codes)
  have table := filteredFrame_table ((s.heardFrame codes).ownFrame address.toNat b) address.toNat (s.heardFrame codes)
  have next := exec_of_frameOf frame s
  rw [completeFrame_of_filtered codes address b s running passes] at next
  refine ⟨_, next, table, doors, overrides, supply, counters, snapshot, fun a mem mine => ?_, fun calm foreign => ?_⟩
  · rw [ages] at mem
    exact ageZero_left mem mine
  · have moves := filteredFrame_foreign (codes := codes) foreign calm
    have spares : s.flying .expel = false →
        (filteredFrame ((s.heardFrame codes).ownFrame address.toNat b) address.toNat (s.heardFrame codes)).member.expulsion ≠
          some address.toNat := by
      intro grounded
      have own : (s.heardFrame codes).ownFrame address.toNat b = none := foreign
      rw [own, filteredFrame_of_other none address.toNat (s.heardFrame codes) calm]
      refine checkExpulsion_spares grounded fun a mem mine => ?_
      rw [addressed_ages] at mem
      exact ageZero_left mem mine
    generalize filteredFrame ((s.heardFrame codes).ownFrame address.toNat b) address.toNat (s.heardFrame codes) = t at *
    refine ⟨?_, pins, ages.trans (agesHeard_eq _ _), ?_, moves.queue, moves.inFlight, spares⟩
    · have member : { t.member with ages := s.member.ages, expulsion := s.member.expulsion } = s.member :=
        (congrArg (fun m : Membership => { m with ages := s.member.ages }) moves.member :)
      rw [member]
      exact (congrArg (fun w : State => { w with moment := s.moment, pins := s.pins, bus := s.bus, member := s.member })
        moves.rest :)
    · exact moves.bus

/-- Settles O22: behind a frame that the station takes its sender is heard; one that the filter holds back changes no block. -/
theorem filteredFrameChangesNoBlock : Obligations.FilteredFrameChangesNoBlock := by
  refine ⟨passes_iff, fun c codes address b s frame running passes => ?_, fun c codes address b s frame running passes =>
    filteredFrame_changesNoBlock frame running passes⟩
  obtain ⟨b', t, next, done, hears', same, own⟩ := frame_taken_as frame running passes
  obtain ⟨fresh, kept, stations⟩ := done.ages hears'
  refine ⟨t, next, fresh, kept, stations, done.spares hears', done.catchUpFollows hears' running,
    fun catching hears join status spared calm => ?_⟩
  obtain rfl := same hears
  have matched := takenBy_mismatch_of_tag s.me address.toNat s.learning s.table join status
  obtain ⟨goesOn, heard, news⟩ := done.goesOn hears running catching (calm.imp id .inr) matched spared
  refine ⟨goesOn, fun other => ?_, fun unrenewed unlapsed => ?_⟩
  · rw [heard]
    have taken : (s.taking codes address b').state.member.heard = s.member.heard :=
      (takeBulletin_heard _ _ other _).trans (opened_heard codes address b' s)
    rw [taken]
  · rw [news]
    exact (takeBulletin_leaseNews _ _ unrenewed unlapsed _).trans (opened_leaseNews codes address b' s)

end

end Sys2Proof.Machine
end

section
/-! Settles O28: units aside behind the own RETURN, and what the own frame leaves of the bus. -/

namespace Sys2Proof.Machine

/-! ## Units aside behind a decision about the shares -/

/-- The return timer runs just where units are aside. -/
def State.timesReturn (s : State) : Prop :=
  s.share.returnTimer = if 0 < s.share.aside then .running s.loader.vt.returnTimer else .stopped

theorem timesReturn_setAside {s : State} (units : Nat) (times : s.timesReturn) : (setAside units s).timesReturn := by
  unfold State.timesReturn at times ⊢
  rw [setAside_share, (setAside_frame units s).2.2.2.1]
  dsimp only
  rw [times]
  by_cases before : 0 < s.share.aside
  · by_cases after : 0 < units
    · rw [if_neg (by omega), if_neg (by omega), if_pos before, if_pos after]
    · rw [if_neg (by omega), if_pos ⟨before, by omega⟩, if_neg after]
  · by_cases after : 0 < units
    · rw [if_pos ⟨by omega, after⟩, if_pos after]
    · rw [if_neg (by omega), if_neg (by omega), if_neg before, if_neg after]

theorem timesReturn_adjustAside {before s : State} (times : s.timesReturn) : (adjustAside before s).timesReturn := by
  unfold adjustAside
  (repeat' split)
  · exact timesReturn_setAside _ times
  · exact timesReturn_setAside _ times
  · exact times

/-- A decision about the shares: the commitment and the units aside within their bounds. -/
theorem asideDecided_share (e : State) :
    e.asideDecided.share.commit = e.boundCommit ∧
      (e.supply.state = .shed → e.asideDecided.share.aside = e.ownRow.borrowed) ∧
      (e.borrowedCounts = false → e.asideDecided.share.aside = (setCommit e.boundCommit e).boundAside) ∧
      (e.timesReturn → e.asideDecided.timesReturn) := by
  unfold State.asideDecided
  have share : (setStages e.stagesCut (applyBounds e)).share = (applyBounds e).share := rfl
  have row : (setStages e.stagesCut (applyBounds e)).ownRow = e.ownRow := by simp [State.ownRow, State.me, setStages]
  refine ⟨?_, fun shed => ?_, fun uncounted => ?_, fun times => ?_⟩
  · have commit : (adjustAside e (setStages e.stagesCut (applyBounds e))).share.commit = (applyBounds e).share.commit := by
      unfold adjustAside
      (repeat' split)
      · rw [setAside_commit, share]
      · rw [setAside_commit, share]
      · rw [share]
    rw [commit, applyBounds_commit]
  · refine (adjustAside_of_full ?_ ?_).1.trans (by rw [row])
    · rw [row, share, applyBounds_aside, State.boundAside, if_pos (.inl (by exact shed))]; rfl
    · rw [row, share, applyBounds_commit, State.boundCommit, if_pos shed]
  · have counts : (setStages e.stagesCut (applyBounds e)).borrowedCounts = false := by
      rw [← uncounted]
      simp [State.borrowedCounts, State.inStep, setStages]
    unfold adjustAside
    rw [if_neg (by simp [counts]), share, applyBounds_aside]
  · refine timesReturn_adjustAside (s := setStages e.stagesCut (applyBounds e)) ?_
    exact timesReturn_setAside (s := setCommit e.boundCommit e) _ times

/-! ## The state behind a calm frame -/

section
variable {codes : Sensors} {address : BitVec 4} {b : Bulletin} {s t : State}

/-- Behind a plain taking without mismatch and without clash the member state is the same, or the station enters step. -/
theorem FrameTaken.calmState (done : FrameTaken codes address b s t) (hears : s.hears address b) (calm : s.calm address b)
    (matched : (takenBy s.me address.toNat s.tag s.learning s.table b).mismatch = false) (plain : b.plain) :
    t.member.state = s.member.state ∨ (s.member.state = .catchingUp ∧ t.member.state = .inStep) := by
  have mismatch := (taking_table codes address b s).2.trans matched
  obtain ⟨_, member⟩ := taking_frame codes address b s
  have settled : (expelSettled (s.ownFrame address.toNat b) (s.taking codes address b).state).member.state = s.member.state :=
    (expelSettled_member_state _ _).trans member
  rw [done.memberState, coursed_calm hears calm mismatch plain, settled]
  have synced : (syncHeard (syncAges (expelSettled (s.ownFrame address.toNat b) (s.taking codes address b).state))).member.state =
      s.member.state := settled
  generalize syncHeard (syncAges (expelSettled (s.ownFrame address.toNat b) (s.taking codes address b).state)) = x at synced
  by_cases catching : s.member.state = .catchingUp
  · rw [catching] at synced ⊢
    unfold catchUpResponse checkCatchUp
    rw [if_pos rfl]
    split
    · exact .inr ⟨rfl, setMember_state _ _⟩
    · exact .inl synced
  · rw [catchUpResponse_of_other catching]
    exact .inl synced

/-- The own RETURN, heard: shares are decided anew, from the units settled. -/
theorem returned_share {units safetyUnits : Byte} (done : FrameTaken codes address (.ret units safetyUnits) s t)
    (hears : s.hears address (.ret units safetyUnits)) (running : s.running = true)
    (own : (s.ownFrame address.toNat (.ret units safetyUnits)).isSome = true) :
    ShareDecided (s.takenInto t (s.returnSettled units.toNat)) t ∧
      t.share.commit =
        (if s.supply.state = .shed then t.ownRow.borrowed
        else min (s.share.commit - units.toNat) t.ownRow.borrowed) ∧
      (s.supply.state = .shed ∨ s.member.state = .mismatched → t.share.aside = t.ownRow.borrowed) ∧
      (s.supply.state ≠ .shed → s.member.state ≠ .mismatched → t.borrowedCounts = false →
        t.share.aside = max (min (s.share.aside - units.toNat) t.ownRow.borrowed) t.asideFloor) ∧
      t.share.returnTimer = (if 0 < t.share.aside then .running s.loader.vt.returnTimer else .stopped) := by
  obtain ⟨share, returned⟩ := taking_ret_own (codes := codes) own
  have returnedFlag := (coursed_flags (codes := codes) hears).2.trans returned
  have shared := (coursed_blocks (codes := codes) hears).1.trans share
  have decided : ShareDecided (s.takenInto t (s.returnSettled units.toNat)) t := by
    refine shareDecided_of_taken (takenFrom_coursed codes address _ running) done.ended shared (.inl returnedFlag) (.inr ?_)
    simp [evaluatesShare, returnedFlag]
  have state := done.calmState hears (.inr (.inr own)) (takeReturn_mismatch ..) ⟨nofun, nofun⟩
  have expired := (done.lease hears).1
  rw [share] at expired
  obtain ⟨commit, shed, uncounted, times⟩ := asideDecided_share (s.takenInto t (s.returnSettled units.toNat))
  have row : (s.takenInto t (s.returnSettled units.toNat)).ownRow = t.ownRow := by
    simp only [State.ownRow, done.me]; rfl
  have counts : (s.takenInto t (s.returnSettled units.toNat)).borrowedCounts = t.borrowedCounts := by
    simp only [State.borrowedCounts, expired]; rfl
  have eq := decided.1
  have commitT : t.share.commit = (s.takenInto t (s.returnSettled units.toNat)).asideDecided.share.commit := by rw [eq]
  have asideT : t.share.aside = (s.takenInto t (s.returnSettled units.toNat)).asideDecided.share.aside := by rw [eq]
  have timerT : t.share.returnTimer = (s.takenInto t (s.returnSettled units.toNat)).asideDecided.share.returnTimer := by rw [eq]
  have vt : (s.takenInto t (s.returnSettled units.toNat)).asideDecided.loader = s.loader := by
    simp only [State.asideDecided, adjustAside_frame]; simp [setStages]
  have floor : (setCommit (s.takenInto t (s.returnSettled units.toNat)).boundCommit
      (s.takenInto t (s.returnSettled units.toNat))).asideFloor = t.asideFloor := by
    refine (asideFigures_of_blocks ?_ ?_ ?_ ?_).2
    · exact done.loader.symm
    · rfl
    · rw [commitT, commit]; rfl
    · rfl
  refine ⟨decided, ?_, fun full => ?_, fun unshed matched out => ?_, ?_⟩
  · rw [commitT, commit, State.boundCommit, row]; rfl
  · rw [asideT]
    obtain shedding | mismatched := full
    · rw [shed shedding, row]
    · have stays : t.member.state = .mismatched := by
        obtain same | ⟨catching, _⟩ := state
        · exact same.trans mismatched
        · rw [mismatched] at catching; cases catching
      rw [uncounted (by rw [counts]; simp [State.borrowedCounts, State.inStep, stays]), State.boundAside,
        if_pos (.inr (by exact stays))]
      exact congrArg Row.borrowed row
  · have matchedT : t.member.state ≠ .mismatched := by
      obtain same | ⟨_, steps⟩ := state
      · rw [same]; exact matched
      · rw [steps]; decide
    rw [asideT, uncounted (counts.trans out), State.boundAside, floor]
    refine (if_neg (not_or.mpr ⟨unshed, matchedT⟩)).trans ?_
    exact congrArg (fun n => max (min (s.share.aside - units.toNat) n) t.asideFloor) (congrArg Row.borrowed row)
  · have timed := times (by
      show (if s.share.aside - units.toNat = 0 then ReturnTimer.stopped else .running s.loader.vt.returnTimer) =
        if 0 < s.share.aside - units.toNat then .running s.loader.vt.returnTimer else .stopped
      by_cases none : s.share.aside - units.toNat = 0
      · rw [if_pos none, if_neg (by omega)]
      · rw [if_neg none, if_pos (by omega)])
    rw [timerT, asideT]
    rw [State.timesReturn, vt] at timed
    exact timed

end

end Sys2Proof.Machine
end

section
/-! Settles O28: the own frame, heard on the bus, is completed. -/

namespace Sys2Proof.Machine

/-! ## The bus behind the own frame -/

/-- The wires of the bus unit stand: its standing, its count of failures and what it drives. -/
def State.wiredAs (x y : State) : Prop :=
  y.bus.standing = x.bus.standing ∧ y.bus.failures = x.bus.failures ∧ y.bus.drive = x.bus.drive

theorem wired_takeBulletin (own : Bool) (sender : Nat) (b : Bulletin) (x : State) :
    x.wiredAs (takeBulletin own sender b x).state := by
  unfold State.wiredAs
  cases b with
  | allowance => simp only [takeBulletin, takesAllowance]; split <;> simp
  | lapse => simp only [takeBulletin, takesLapse]; split <;> simp
  | expel => simp only [takeBulletin, takesExpel]; split <;> simp
  | join => simp only [takeBulletin, takesJoin]; (repeat' split) <;> simp
  | status => simp only [takeBulletin, takesStatus]; split <;> simp
  | claim => simp only [takeBulletin, takesClaim]; split <;> simp
  | ret => simp only [takeBulletin, takesReturn]; split <;> simp
  | draft => simp only [takeBulletin, takesDraft]; split <;> simp
  | override kind mask value duration =>
    simp only [takeBulletin, slotCourse, takeOverride]
    (repeat' split) <;> simp
  | cancel kind mask =>
    simp only [takeBulletin, slotCourse, takeCancel]
    (repeat' split) <;> simp
  | report => simp only [takeBulletin]; split <;> simp
  | snapshot | query | unknown => simp [takeBulletin]

theorem wired_setMember {m : MemberState} (noClash : m ≠ .clash) (x : State) : x.wiredAs (setMember m x) := by
  have left : x.wiredAs (if x.member.state = .inStep then leaveInStep x else x) := by
    split
    · simp [State.wiredAs]
    · exact ⟨rfl, rfl, rfl⟩
  unfold setMember
  dsimp only
  generalize (if x.member.state = .inStep then leaveInStep x else x) = w at left
  unfold State.wiredAs at left ⊢
  cases m with
  | clash => exact absurd rfl noClash
  | undecided | unconfigured | listen | joining | catchingUp | inStep | mismatched => simpa [entered] using left

theorem wired_joinResponse (own : Bool) (b : Bulletin) (x : State) : x.wiredAs (joinResponse own b x) := by
  unfold joinResponse
  (repeat' split)
  · exact wired_setMember (by decide) _
  · exact ⟨rfl, rfl, rfl⟩
  · have joining := wired_setMember (m := .joining) (by decide)
      { x with member := { x.member with catchUp := none, heard := [] } }
    unfold State.wiredAs selfExpelled at *
    simpa using joining
  · exact ⟨rfl, rfl, rfl⟩
  · exact ⟨rfl, rfl, rfl⟩

theorem wired_catchUpResponse (m : MemberState) (x : State) : x.wiredAs (catchUpResponse m x) := by
  unfold catchUpResponse checkCatchUp
  (repeat' split)
  · exact wired_setMember (by decide) { x with member := { x.member with catchUp := none } }
  · exact ⟨rfl, rfl, rfl⟩
  · exact ⟨rfl, rfl, rfl⟩

theorem wired_mismatchResponse (c : Course) : c.state.wiredAs (mismatchResponse c).state := by
  have dropped : (dropOwnClaim c).state.bus = c.state.bus := by simp [dropOwnClaim]
  unfold mismatchResponse
  split
  · rw [mapState_state]
    split
    · have entered := wired_setMember (m := .mismatched) (by decide) (noteConfig
        { withdrawKind .join (dropOwnClaim c).state with
          member := { (withdrawKind .join (dropOwnClaim c).state).member with census := none, catchUp := none, heard := [] } })
      unfold State.wiredAs enterMismatch at *
      simpa [noteConfig, dropped] using entered
    · exact ⟨by rw [dropped], by rw [dropped], by rw [dropped]⟩
  · exact ⟨rfl, rfl, rfl⟩

theorem State.wiredAs.trans {x y z : State} (first : x.wiredAs y) (last : y.wiredAs z) : x.wiredAs z :=
  ⟨last.1.trans first.1, last.2.1.trans first.2.1, last.2.2.trans first.2.2⟩

theorem wired_memberResponse (own : Bool) (b : Bulletin) (c : Course) : c.state.wiredAs (memberResponse own b c).state := by
  have joined := wired_joinResponse own b (syncAges (mismatchResponse c).state)
  have caught := wired_catchUpResponse (mismatchResponse c).state.member.state
    (syncHeard (joinResponse own b (syncAges (mismatchResponse c).state)))
  exact (wired_mismatchResponse c).trans (State.wiredAs.trans (x := (mismatchResponse c).state) joined caught)

/-! ## The requests behind the own frame -/

/-- Nothing is on the bus, and what waits of the frame's kind was asked for in this moment, or while the frame flew. -/
def State.askedFor (f : OwnFrame) (moment : Nat) (x : State) : Prop :=
  x.moment = moment ∧ x.bus.inFlight = none ∧ ∀ e ∈ x.bus.queue, e.kind = f.kind → e.age = moment ∨ f.renewal = some e.age

theorem askedFor_withdrawKind {f : OwnFrame} {moment : Nat} {x : State} (kind : TxKind) (asked : x.askedFor f moment) :
    (withdrawKind kind x).askedFor f moment := by
  obtain ⟨now, grounded, ages⟩ := asked
  have free : x.flying kind = false := by simp [State.flying, grounded]
  unfold withdrawKind
  rw [if_neg (by simp [free])]
  exact ⟨now, grounded, fun e mem => ages e (List.mem_filter.mp mem).1⟩

theorem askedFor_invariant (f : OwnFrame) (moment : Nat) : MemberInvariant (State.askedFor f moment) where
  same {s t} same asked := by
    obtain ⟨queue, inFlight, _, _, now⟩ := same
    unfold State.askedFor at *
    rwa [queue, inFlight, now]
  queue kind s _ asked := by
    obtain ⟨now, grounded, ages⟩ := asked
    have free : s.flying kind = false := by simp [State.flying, grounded]
    unfold queueKind
    rw [if_neg (c := s.flying kind = true) (by simp [free])]
    (repeat' split)
    · exact ⟨now, grounded, ages⟩
    · refine ⟨now, grounded, fun e mem same => ?_⟩
      obtain old | new := List.mem_append.mp mem
      · exact ages e old same
      · rw [List.mem_singleton.mp new]; exact .inl now
    · exact ⟨now, grounded, ages⟩
  drop kind s _ asked := askedFor_withdrawKind kind asked
  withdraw kind s _ asked := askedFor_withdrawKind kind asked
  stop asked := askedFor_withdrawKind .status asked
  leave m s asked := askedFor_withdrawKind .expel (askedFor_withdrawKind .lapse (askedFor_withdrawKind .claim asked))
  move m s _ asked := asked
  clash {s} _ asked := by
    obtain ⟨now, grounded, ages⟩ := asked
    refine ⟨now, ?_, fun e mem => absurd mem List.not_mem_nil⟩
    show s.bus.inFlight.map _ = none
    rw [grounded]; rfl

/-- The request waits, and nothing is on the bus. -/
def State.awaits (e : TxEntry) (x : State) : Prop := e ∈ x.bus.queue ∧ x.bus.inFlight = none

theorem awaits_queueKind {e : TxEntry} {x : State} (kind : TxKind) (waits : x.awaits e) : (queueKind kind x).awaits e := by
  obtain ⟨mem, grounded⟩ := waits
  have free : x.flying kind = false := by simp [State.flying, grounded]
  unfold queueKind
  rw [if_neg (c := x.flying kind = true) (by simp [free])]
  (repeat' split)
  · exact ⟨mem, grounded⟩
  · exact ⟨List.mem_append_left _ mem, grounded⟩
  · exact ⟨mem, grounded⟩

theorem awaits_withdrawKind {e : TxEntry} {x : State} {kind : TxKind} (other : e.kind ≠ kind) (waits : x.awaits e) :
    (withdrawKind kind x).awaits e := by
  obtain ⟨mem, grounded⟩ := waits
  have free : x.flying kind = false := by simp [State.flying, grounded]
  unfold withdrawKind
  rw [if_neg (by simp [free])]
  exact ⟨List.mem_filter.mpr ⟨mem, by simpa using other⟩, grounded⟩

/-- Requests that a plain frame leaves: STATUS, DRAFT and REPORT. -/
def TxKind.stands (kind : TxKind) : Prop := kind = .status ∨ kind = .draft ∨ kind = .report

theorem TxKind.stands.ne {kind other : TxKind} (stands : kind.stands) (apart : other ∈ [TxKind.claim, .ret, .expel, .lapse, .join]) :
    kind ≠ other := by
  rintro rfl
  obtain rfl | rfl | rfl := stands <;> simp at apart

theorem awaits_of_bus {e : TxEntry} {x y : State} (same : y.bus = x.bus) (waits : x.awaits e) : y.awaits e := by
  unfold State.awaits at *
  rwa [same]

theorem awaits_invariant {e : TxEntry} (stands : e.kind.stands) : EventInvariant (State.awaits e) where
  same same waits := by
    unfold State.awaits at *
    rwa [same.1, same.2.1]
  queue kind _ _ waits := awaits_queueKind kind waits
  drop kind s event waits := by
    refine awaits_withdrawKind (stands.ne ?_) waits
    simp only [List.mem_cons, List.not_mem_nil, or_false] at event ⊢
    grind

theorem awaits_setMember {e : TxEntry} (stands : e.kind.stands) {m : MemberState} (sends : m = .inStep ∨ m = .mismatched)
    {x : State} (waits : x.awaits e) : (setMember m x).awaits e := by
  have left : (if x.member.state = .inStep then leaveInStep x else x).awaits e := by
    split
    · exact awaits_withdrawKind (stands.ne (by simp)) (awaits_withdrawKind (stands.ne (by simp))
        (awaits_withdrawKind (stands.ne (by simp)) waits))
    · exact waits
  unfold setMember
  dsimp only
  generalize (if x.member.state = .inStep then leaveInStep x else x) = w at left
  have started : (startStatus { w with member := { w.member with state := m } }).awaits e := awaits_queueKind .status left
  obtain rfl | rfl := sends
  · show (enterInStep _).awaits e
    unfold enterInStep
    split
    · exact awaits_queueKind .lapse started
    · exact started
  · exact started

theorem awaits_catchUpResponse {e : TxEntry} (stands : e.kind.stands) (m : MemberState) {x : State} (waits : x.awaits e) :
    (catchUpResponse m x).awaits e := by
  unfold catchUpResponse checkCatchUp
  (repeat' split)
  · exact awaits_setMember stands (.inl rfl) waits
  · exact waits
  · exact waits

theorem awaits_mismatchResponse {e : TxEntry} (stands : e.kind.stands) {c : Course} (waits : c.state.awaits e) :
    (mismatchResponse c).state.awaits e := by
  have dropped : (dropOwnClaim c).state.awaits e := awaits_of_bus (by simp [dropOwnClaim]) waits
  unfold mismatchResponse
  split
  · rw [mapState_state]
    split
    · refine awaits_setMember stands (.inr rfl) ?_
      exact awaits_of_bus (x := withdrawKind .join (dropOwnClaim c).state) (by simp [noteConfig])
        (awaits_withdrawKind (stands.ne (by simp)) dropped)
    · exact dropped
  · exact waits

/-- The bulletins of the requests that a plain frame leaves are plain. -/
theorem plain_of_stands {b : Bulletin} {kind : TxKind} (stands : kind.stands) (sent : b.txKind = some kind) : b.plain := by
  refine ⟨fun tag join => ?_, fun station expel => ?_⟩
  · rw [join] at sent
    obtain rfl | rfl | rfl := stands <;> cases sent
  · rw [expel] at sent
    obtain rfl | rfl | rfl := stands <;> cases sent

theorem awaits_takeBulletin {e : TxEntry} {b : Bulletin} {kind : TxKind} (stands : kind.stands) (sent : b.txKind = some kind)
    (sender : Nat) {x : State} (waits : x.awaits e) : (takeBulletin true sender b x).state.awaits e := by
  cases b with
  | status p =>
    simp only [takeBulletin, takesStatus]
    split <;> exact awaits_of_bus (by simp) waits
  | draft active => exact awaits_of_bus (by simp [takeBulletin, takesDraft]) waits
  | report data =>
    show (reportCompleted x).awaits e
    unfold reportCompleted
    dsimp only
    (repeat' split)
    · exact waits
    · exact waits
    · exact awaits_queueKind .report waits
    · exact waits
  | allowance | override | cancel | snapshot | query | unknown => cases sent
  | lapse | expel | join | claim | ret => obtain rfl | rfl | rfl := stands <;> cases sent

end Sys2Proof.Machine
end

section
/-! Settles O28: the own frame, heard on the bus, is completed. -/

namespace Sys2Proof.Machine

section
variable {codes : Sensors} {address : BitVec 4} {b : Bulletin} {s t : State} {f : OwnFrame}

/-! ## The state in which the own frame is closed -/

theorem addressed_bus (own : Option OwnFrame) (address : Nat) (x : State) :
    (addressed own address x).bus = (closeOwnFrame own x).bus := rfl

/-- Requests of the frame's kind behind its end: its own renewal, and no other. -/
theorem queueAfter_kind {x : State} {e : TxEntry} (mem : e ∈ x.queueAfter f) (same : e.kind = f.kind) :
    x.renewalAge f = some e.age ∧ e = { kind := f.kind, age := e.age } := by
  have left : e ∉ x.bus.queue.filter (fun e => e.kind != f.kind) := fun kept => by
    simp [same] at kept
  unfold State.queueAfter at mem
  dsimp only at mem
  cases renewed : x.renewalAge f with
  | none => rw [renewed] at mem; exact absurd mem left
  | some age =>
    rw [renewed] at mem
    dsimp only at mem
    split at mem
    · obtain kept | own := List.mem_append.mp mem
      · exact absurd kept left
      · rw [List.mem_singleton.mp own]; exact ⟨rfl, rfl⟩
    · exact absurd mem left

theorem mem_queueAfter {x : State} {age : Nat} (renewed : x.renewalAge f = some age) (accepts : x.acceptsRequests = true) :
    ({ kind := f.kind, age } : TxEntry) ∈ x.queueAfter f := by
  unfold State.queueAfter
  rw [renewed]
  simp [accepts]

theorem renewalAge_of_draft {x : State} {active : Byte} (kind : f.kind = .draft) (bulletin : f.bulletin = .draft active) :
    x.renewalAge f =
      if (active = 1 ↔ x.doors.oneShot = .idle) then some (f.renewal.getD x.moment) else f.renewal := by
  have boost := boostActive_iff x
  have stated : ((active == 1) != x.boostActive) = true ↔ (active = 1 ↔ x.doors.oneShot = .idle) := by
    rw [bne_iff_ne, Ne, Bool.eq_iff_iff, beq_iff_eq, boost]
    grind
  unfold State.renewalAge
  rw [kind, bulletin]
  cases f.renewal with
  | some age => simp
  | none =>
    dsimp only
    exact ite_congr (propext stated) (fun _ => rfl) fun _ => rfl

theorem askedFor_closed {x : State} (flying : x.bus.inFlight = some f) (address : Nat) :
    (addressed (some f) address x).askedFor f x.moment := by
  refine ⟨rfl, rfl, fun e mem same => ?_⟩
  have renewed := (queueAfter_kind (x := x) mem same).1
  unfold State.renewalAge at renewed
  cases again : f.renewal with
  | some age => rw [again] at renewed; exact .inr renewed
  | none =>
    rw [again] at renewed
    dsimp only at renewed
    split at renewed
    · split at renewed
      · exact .inl (Option.some.inj renewed).symm
      · cases renewed
    · cases renewed

/-! ## A law behind the course of a frame -/

theorem MemberInvariant.coursed {P : State → Prop} (law : MemberInvariant P) (hears : s.hears address b)
    (opened : P (s.opened codes address b)) : P (s.coursed codes address b).state := by
  have taken : P (s.taking codes address b).state := law.takeBulletin _ _ _ opened
  have settled : P (expelSettled (s.ownFrame address.toNat b) (s.taking codes address b).state) :=
    law.same (s := (s.taking codes address b).state) (by simp) taken
  rw [coursed_eq hears]
  exact law.clashResponse _ _ (law.memberResponse _ b
    (c := (s.taking codes address b).mapState (expelSettled (s.ownFrame address.toNat b))) settled)

/-! ## The end of the command that closes the own frame -/

/-- The own frame closed: what the taking of it begins with. -/
def State.closed (s : State) (codes : Sensors) (address : BitVec 4) (f : OwnFrame) : State :=
  addressed (some f) address.toNat (s.heardFrame codes)

/-- The end `t` of a command keeps of the state `x` what closing the own frame set up. -/
structure OwnFrameKept (b : Bulletin) (f : OwnFrame) (x t : State) : Prop where
  law : ∀ {P : State → Prop}, MemberInvariant P → P x → P t
  wired : x.wiredAs t
  awaits : ∀ {e : TxEntry}, f.kind.stands → b.txKind = some f.kind → e.kind = f.kind → x.awaits e → t.awaits e
  draftless : ∀ {active : Byte}, b = .draft active → x.hasTx .draft = false → t.hasTx .draft = false

theorem opened_bus (own : s.ownFrame address.toNat b = some f) :
    (s.opened codes address b).bus = (s.closed codes address f).bus := by
  unfold State.opened State.closed
  rw [own]
  simp

theorem kept_of_passes (done : FrameTaken codes address b s t) (running : s.running = true) (hears : s.hears address b)
    (own : s.ownFrame address.toNat b = some f) : OwnFrameKept b f (s.closed codes address f) t := by
  have mine : (s.ownFrame address.toNat b).isSome = true := by rw [own]; rfl
  have bus := opened_bus (codes := codes) own
  have runs := (takenFrom_coursed codes address b running).running
  have ended := done.ended
  rw [← finish_of_running runs] at ended
  have course := coursed_of_calm (codes := codes) hears (.inr (.inr mine))
  refine ⟨fun {P} law closed => ?_, ?_, fun {e} stands sent same waits => ?_, fun {active} draft none => ?_⟩
  · rw [← ended]
    refine law.finish _ _ (law.coursed hears (law.same (s := s.closed codes address f) ?_ closed))
    rw [bus]
    unfold State.opened State.closed
    rw [own]
    simp
  · have taken := wired_takeBulletin (s.ownFrame address.toNat b).isSome address.toNat b (s.opened codes address b)
    have settled : (s.taking codes address b).state.wiredAs
        ((s.taking codes address b).mapState (expelSettled (s.ownFrame address.toNat b))).state := by
      simp [State.wiredAs]
    have responded := taken.trans (settled.trans (wired_memberResponse (s.ownFrame address.toNat b).isSome b _))
    rw [← course] at responded
    rw [← ended]
    unfold State.wiredAs at *
    rw [bus] at responded
    simpa using responded
  · have opened : (s.opened codes address b).awaits e := awaits_of_bus bus waits
    have taken : (s.taking codes address b).state.awaits e := by
      unfold State.taking
      rw [mine]
      exact awaits_takeBulletin stands sent _ opened
    rw [← ended]
    refine (awaits_invariant (by rw [same]; exact stands)).finish _ _ ?_
    have standsE : e.kind.stands := by rw [same]; exact stands
    rw [course]
    unfold memberResponse
    rw [mapState_state, joinResponse_of_plain (plain_of_stands stands sent)]
    refine awaits_catchUpResponse standsE _ (awaits_of_bus (x := (mismatchResponse ((s.taking codes address b).mapState
      (expelSettled (s.ownFrame address.toNat b)))).state) rfl ?_)
    refine awaits_mismatchResponse standsE (awaits_of_bus ?_ taken)
    simp
  · subst draft
    have opened : (s.opened codes address (.draft active)).hasTx .draft = false := (hasTx_of_queue (by rw [bus]) _).trans none
    obtain ⟨x, taken, _⟩ := taking_draft codes address active s
    have queued : (s.taking codes address (.draft active)).state.hasTx .draft = false := by
      refine (hasTx_of_queue ?_ _).trans opened
      simp [State.taking, takeBulletin, takesDraft]
      split <;> simp
    rw [← ended, hasTx_finish (by decide),
      coursed_calm_hasTx (by decide) (by decide) hears (.inr (.inr mine)) (by rw [taken]; rfl) ⟨nofun, nofun⟩, queued]

theorem kept_of_filtered (own : s.ownFrame address.toNat b = some f) :
    OwnFrameKept b f (s.closed codes address f)
      (filteredFrame ((s.heardFrame codes).ownFrame address.toNat b) address.toNat (s.heardFrame codes)) := by
  have mine : (s.heardFrame codes).ownFrame address.toNat b = some f := own
  have filtered : filteredFrame ((s.heardFrame codes).ownFrame address.toNat b) address.toNat (s.heardFrame codes) =
      checkExpulsion (s.closed codes address f) := by
    rw [mine]
    unfold filteredFrame
    dsimp only
    rw [if_neg (by simp)]
    rfl
  rw [filtered]
  refine ⟨fun law closed => law.checkExpulsion closed, by simp [State.wiredAs], fun {e} stands _ same waits => ?_,
    fun _ none => ?_⟩
  · exact (awaits_invariant (by rw [same]; exact stands)).checkExpulsion waits
  · rw [hasTx_checkExpulsion (by decide), none]

/-- Settles O28: the own frame heard is closed, asked for again where it has to be, and a RETURN settled. -/
theorem ownFrameCompletes : Obligations.OwnFrameCompletes := by
  intro c codes address b s f frame running hears own
  have mine : (s.ownFrame address.toNat b).isSome = true := by rw [own]; rfl
  obtain ⟨flying, bulletin⟩ : s.bus.inFlight = some f ∧ f.bulletin = b := by
    have heardOwn := hears
    unfold State.hears at heardOwn
    rw [own] at heardOwn
    refine ⟨?_, by simpa using heardOwn⟩
    unfold State.ownFrame at own
    split at own
    · rename_i g aloft
      split at own
      · rw [aloft, Option.some.inj own]
      · cases own
    · cases own
  obtain ⟨t, next, kept, taken⟩ : ∃ t, exec c s = .next t ∧ OwnFrameKept b f (s.closed codes address f) t ∧
      (s.passes address.toNat b = true → FrameTaken codes address b s t) := by
    by_cases passes : s.passes address.toNat b = true
    · obtain ⟨t, next, done⟩ := frame_taken frame running passes hears
      exact ⟨t, next, kept_of_passes done running hears own, fun _ => done⟩
    · have filtered : s.passes address.toNat b = false := by simpa using passes
      refine ⟨_, exec_of_frameOf frame s, ?_, fun passing => absurd passing passes⟩
      rw [completeFrame_of_filtered codes address b s running filtered]
      exact kept_of_filtered own
  have closedQueue : (s.closed codes address f).bus.queue = (s.heardFrame codes).queueAfter f := rfl
  have grounded : (s.closed codes address f).bus.inFlight = none := rfl
  obtain ⟨_, groundedT, ages⟩ := kept.law (askedFor_invariant f (s.moment + 1))
    (askedFor_closed (x := s.heardFrame codes) flying address.toNat)
  obtain ⟨standing, failures, drive⟩ := kept.wired
  have accepts : s.member.state ≠ .clash → (s.heardFrame codes).acceptsRequests = true := fun noClash =>
    acceptsRequests_of_running running noClash
  have stays : ∀ age, (s.heardFrame codes).renewalAge f = some age → s.member.state ≠ .clash → f.kind.stands →
      b.txKind = some f.kind → ({ kind := f.kind, age } : TxEntry) ∈ t.bus.queue := by
    intro age renewed noClash stands sent
    refine (kept.awaits (e := { kind := f.kind, age }) stands sent rfl ⟨?_, grounded⟩).1
    rw [closedQueue]
    exact mem_queueAfter renewed (accepts noClash)
  refine ⟨t, next, groundedT, failures, standing, drive, by simp [State.inFlightReturn, groundedT], ages,
    fun age renewed sent noClash stands => ?_, fun active draft kind noClash => ?_, fun p status passes sends => ?_,
    fun units safetyUnits ret passes => ?_⟩
  · exact stays age (by simp [State.renewalAge, renewed]) noClash stands sent
  · subst draft
    have renewal := renewalAge_of_draft (x := s.heardFrame codes) kind bulletin
    refine ⟨fun asks => ?_, fun stated unasked => ?_⟩
    · rw [if_pos (by exact asks)] at renewal
      have queued := stays _ renewal noClash (.inr (.inl kind)) (by rw [kind]; rfl)
      rwa [kind] at queued
    · rw [if_neg (by exact stated), unasked] at renewal
      refine kept.draftless rfl ?_
      rw [← Bool.not_eq_true]
      intro has
      obtain ⟨e, mem, same⟩ := List.any_eq_true.mp has
      have own := (queueAfter_kind (x := s.heardFrame codes) mem (by rw [kind]; simpa using same)).1
      rw [renewal] at own
      cases own
  · subst status
    exact (taken passes).status_period hears mine sends
  · subst ret
    exact returned_share (taken passes) hears running mine

end

end Sys2Proof.Machine
end

section
/-! Settles O25: the end of the census, and the own JOIN. -/

namespace Sys2Proof.Machine

section
variable {codes : Sensors} {address : BitVec 4} {b : Bulletin} {s t : State}

/-- The own frame, taken, is on the bus no more. -/
theorem FrameTaken.grounded (done : FrameTaken codes address b s t) (running : s.running = true) (hears : s.hears address b)
    (own : (s.ownFrame address.toNat b).isSome = true) : t.bus.inFlight = none := by
  obtain ⟨f, eq⟩ := Option.isSome_iff_exists.mp own
  have flying : (s.heardFrame codes).bus.inFlight = some f := by
    unfold State.ownFrame at eq
    split at eq
    · rename_i g aloft
      split at eq
      · exact aloft.trans (congrArg some (Option.some.inj eq))
      · cases eq
    · cases eq
  exact ((kept_of_passes done running hears eq).law (askedFor_invariant f (s.moment + 1))
    (askedFor_closed flying address.toNat)).2.1

theorem hasTx_of_grounded {kind : TxKind} (grounded : t.bus.inFlight = none) (sends : t.sending kind) :
    t.hasTx kind = true := by
  obtain waits | flies := sends
  · exact waits
  · simp [State.flying, grounded] at flies

theorem setMember_catchingUp_member {x : State} (out : x.member.state ≠ .inStep) :
    (setMember .catchingUp x).member = { x.member with state := .catchingUp, statusPeriod := some 2000 } := by
  unfold setMember
  rw [if_neg out]
  exact startStatus_member _

/-- The own JOIN, taken by a station that joins: it catches up, and nothing more is done. -/
theorem memberResponse_joined {tag : Byte} {c : Course} (matched : c.mismatch = false)
    (joining : c.state.member.state = .joining) :
    (memberResponse true (.join tag) c).state = syncHeard (ownJoinTaken (syncAges c.state)) := by
  have joins : joinResponse true (.join tag) (syncAges c.state) = ownJoinTaken (syncAges c.state) :=
    if_pos (by simp [syncAges, joining])
  unfold memberResponse
  rw [mismatchResponse_of_none c matched, mapState_state, joins]
  exact catchUpResponse_of_still (.inl (by rw [joining]; decide))

theorem ownJoin_taken (running : s.running = true) (passes : s.passes address.toNat (.join s.tag) = true)
    (hears : s.hears address (.join s.tag)) (own : (s.ownFrame address.toNat (.join s.tag)).isSome = true)
    (joining : s.member.state = .joining) :
    ∃ t, exec (.join codes address s.tag) s = .next t ∧ t.member.state = .catchingUp ∧
      t.member.catchUp = some 12000 ∧ t.member.heard = [] ∧ t.member.statusPeriod = some 2000 ∧
      (∀ a ∈ t.member.ages, a.left = some 12000) ∧ t.hasTx .status = true ∧ t.doors.lastStated = false ∧
      (s.doors.oneShot ≠ .idle → t.hasTx .draft = true) := by
  obtain ⟨t, next, done⟩ := frame_taken (c := .join codes address s.tag) rfl running passes hears
  have taken := taking_join codes address s.tag s
  rw [if_pos own] at taken
  obtain ⟨_, member⟩ := taking_frame codes address (.join s.tag) s
  have matched : (s.taking codes address (.join s.tag)).mismatch = false :=
    (taking_table codes address (.join s.tag) s).2.trans
      (takenBy_mismatch_of_tag s.me address.toNat s.learning s.table (fun _ same => (Bulletin.join.inj same).symm) nofun)
  have course := coursed_of_calm (codes := codes) hears (.inr (.inr own))
  rw [own, memberResponse_joined (c := (s.taking codes address (.join s.tag)).mapState
    (expelSettled (s.ownFrame address.toNat (.join s.tag)))) matched ((expelSettled_member_state _ _).trans (member.trans joining))] at course
  have state : (syncAges (expelSettled (s.ownFrame address.toNat (.join s.tag))
      (s.taking codes address (.join s.tag)).state)).member.state = .joining :=
    (expelSettled_member_state _ _).trans (member.trans joining)
  rw [mapState_state] at course
  generalize syncAges (expelSettled (s.ownFrame address.toNat (.join s.tag))
    (s.taking codes address (.join s.tag)).state) = x at course state
  have entered : (ownJoinTaken x).member = _ := setMember_catchingUp_member (x := { x with member := { x.member with
    catchUp := some catchUpTime, heard := [], ages := x.otherPresent.map ageZero } }) (by simp [state])
  have memberC : (s.coursed codes address (.join s.tag)).state.member = (syncHeard (ownJoinTaken x)).member := by rw [course]
  have runs := (takenFrom_coursed codes address (.join s.tag) running).running
  have noClash : t.member.state = .catchingUp := by
    rw [done.memberState, memberC]
    exact congrArg Membership.state entered
  have grounded := done.grounded running hears own
  obtain ⟨_, _, catchUp, period, heard, _, ages⟩ := finishRunning_member (s.coursed codes address (.join s.tag)).ev
    (s.heardFrame codes) (s.coursed codes address (.join s.tag)).state
  rw [done.ended, memberC] at catchUp period heard ages
  refine ⟨t, next, noClash, ?_, ?_, ?_, fun a mem => ?_, ?_, ?_, fun boosts => ?_⟩
  · rw [catchUp]
    exact congrArg Membership.catchUp entered
  · rw [heard]
    have nobody : (ownJoinTaken x).member.heard = [] := congrArg Membership.heard entered
    show (ownJoinTaken x).member.heard.filter _ = []
    rw [nobody]; rfl
  · rw [period]
    exact congrArg Membership.statusPeriod entered
  · have anew : (ownJoinTaken x).member.ages = x.otherPresent.map ageZero := congrArg Membership.ages entered
    rw [ages] at mem
    have mem : a ∈ (ownJoinTaken x).member.ages := mem
    rw [anew] at mem
    obtain ⟨n, _, rfl⟩ := List.mem_map.mp mem
    rfl
  · refine hasTx_of_grounded grounded ?_
    rw [← done.ended, ← finish_of_running runs, course]
    refine finish_keeps _ _ _ _ (by decide) (by decide) (by decide) (sending_of_bus_eq (s := ownJoinTaken x) rfl ?_)
    unfold ownJoinTaken setMember
    rw [if_neg (by simp [state])]
    exact queueKind_sending .status _ (acceptsRequests_of _ .catchingUp rfl (by decide))
  · rw [done.doors, taken, mapState_state, forgetStated_doors]
  · refine hasTx_of_grounded grounded (done.keeps hears running draft_untouched (by decide) (by rw [noClash]; decide) ?_)
    rw [taken]
    refine forgetStated_sending (accepts_of_member (s := s) (by simp) running (by rw [joining]; decide)) ?_
    simpa [dropSpill] using boosts

theorem setMember_joining_census (x : State) : (setMember .joining x).member.census = x.member.census := by
  unfold setMember entered
  dsimp only
  split <;> simp [stopStatus, leaveInStep, dropReport]

theorem censusEnds_eq {r : State} (runs : r.member.census.isSome = true) :
    censusEnds r = finish {} r (queueKind .join (setMember .joining { r with member := { r.member with census := none } })) := by
  obtain ⟨n, timer⟩ := Option.isSome_iff_exists.mp runs
  unfold censusEnds
  rw [timer]

/-- Settles O25: at the end of its census a station joins; with its own JOIN on the bus it catches up. -/
theorem censusAndOwnJoin : Obligations.CensusAndOwnJoin := by
  refine ⟨fun codes s running runs => ?_, fun codes address s running passes hears own joining =>
    ownJoin_taken running passes hears own joining⟩
  have next : exec (.censusTimerExpiry codes) s = .next (whenRunning censusEnds (begin codes s)) := rfl
  rw [whenRunning_of censusEnds (begin codes s) running, censusEnds_eq (r := begin codes s) runs] at next
  refine ⟨_, next, by simp, by simp [setMember_joining_census], ?_, by simp, by simp, by simp, by simp⟩
  refine finish_keeps _ _ _ _ (by decide) (by decide) (by decide) ?_
  exact queueKind_sending .join _ (acceptsRequests_of _ .joining (by simp) (by decide))

end

end Sys2Proof.Machine
end

section
/-! Settles O26: the own expulsion. -/

namespace Sys2Proof.Machine

/-! ## The end of an event out of step -/

theorem checkExpulsion_of_out {x : State} (out : x.member.state ≠ .inStep) (quiet : x.member.expulsion = none) :
    checkExpulsion x = x := by
  have kept : dropSettledExpulsion x = x := by
    unfold dropSettledExpulsion
    rw [quiet]
  unfold checkExpulsion proposeExpulsion
  rw [kept, if_neg (by simp [State.inStep, out])]

section
variable {ev : Ev} {r u : State}

theorem expulsion_finishRunning (out : u.member.state ≠ .inStep) (quiet : u.member.expulsion = none) :
    (finishRunning ev r u).member.expulsion = none := by
  have member : (noteStatus r (refreshFan r (evaluate ev r (settle (u.served ev r))))).member = u.member := by simp
  rw [finishRunning_eq, checkExpulsion_of_out (by rw [member]; exact out) (by rw [member]; exact quiet), member]
  exact quiet

/-- Whoever sends no STATUS asks for none. -/
theorem hasTx_status_finishRunning (silent : u.sendsStatus = false) :
    (finishRunning ev r u).hasTx .status = u.hasTx .status := by
  have unnoted : noteStatus r (refreshFan r (evaluate ev r (settle (u.served ev r)))) =
      refreshFan r (evaluate ev r (settle (u.served ev r))) := by
    have still : (refreshFan r (evaluate ev r (settle (u.served ev r)))).sendsStatus = false := by
      rw [← silent]
      simp [State.sendsStatus]
    unfold noteStatus
    rw [if_neg (by simp [still])]
  rw [finishRunning_eq, hasTx_checkExpulsion (by decide), unnoted,
    hasTx_of_queue (s := evaluate ev r (settle (u.served ev r))) (by simp), hasTx_evaluate (by decide) (by decide),
    hasTx_settle (by decide)]
  exact hasTx_of_queue (by simp) _

theorem spendable_of_out {x : State} (out : x.member.state ≠ .inStep) : x.spendable = x.usable := by
  unfold State.spendable
  rw [if_neg (by simp [State.borrowedCounts, State.inStep, out])]

/-- An event that takes the station out of step: the shares are put within their bounds, and no claim is left. -/
theorem outOfStep_finishRunning (called : evaluates ev r (settle (u.served ev r)) = true) (out : u.member.state ≠ .inStep) :
    (finishRunning ev r u).share.aside = (applyBounds (u.served ev r)).share.aside ∧
      (finishRunning ev r u).share.commit = (applyBounds (u.served ev r)).share.commit ∧
      ((finishRunning ev r u).flying .claim = false → (finishRunning ev r u).hasTx .claim = false) ∧
      (0 < u.share.aside → (finishRunning ev r u).share.aside = 0 → (finishRunning ev r u).flying .ret = false →
        (finishRunning ev r u).hasTx .ret = false) := by
  have at_ := sharedAt_zone called
  have member : (measure ev.periodic (settle (u.served ev r))).member.state ≠ .inStep := by simpa using out
  generalize measure ev.periodic (settle (u.served ev r)) = w at at_ member
  have still : adjustAside r (applyBounds w) = applyBounds w := by
    unfold adjustAside
    rw [if_neg (by simp [State.borrowedCounts, State.inStep, member])]
  have settled : w.share = (applyBounds (u.served ev r)).share := by rw [at_.share]; simp [settle]
  have again := applyBounds_share_again ((sameFigures_settle (u.served ev r)).trans at_.before) settled
  have share := at_.share_eq
  rw [still, again, settled] at share
  have outT : (finishRunning ev r u).member.state ≠ .inStep := by simpa using out
  refine ⟨by rw [share], by rw [share], at_.claim.1 (.inl outT), fun some none grounded => ?_⟩
  have asideW : (claimDecision (setWish (adjustAside r (applyBounds w)))).share.aside = 0 := by
    rw [claimDecision_share, still]
    show (applyBounds w).share.aside = 0
    rw [again, settled, ← none, share]
  have flown : (u.served ev r).flying .ret = false := by
    rw [← grounded]
    refine flying_of_flight ?_ .ret
    rw [flight_finishRunning_settle, flight_settle]
  have withdrawn : (applyBounds (u.served ev r)).hasTx .ret = false := by
    have target : (setCommit (u.served ev r).boundCommit (u.served ev r)).boundAside = 0 := by
      rw [← applyBounds_aside, ← none, share]
    unfold applyBounds
    dsimp only
    rw [target]
    exact setAside_none_withdraws (s := setCommit (u.served ev r).boundCommit (u.served ev r))
      (by show 0 < (u.served ev r).share.aside; simpa using some) flown
  rw [at_.queued .ret (by simp), shareEvaluation]
  unfold triggerReturn queueReturn
  rw [if_neg (c := 0 < _) (by rw [asideW]; omega)]
  rw [ite_self, hasTx_claimDecision (by decide), hasTx_of_queue (s := adjustAside r (applyBounds w)) (by simp), still,
    ← Bool.not_eq_true]
  intro queued
  have atW : w.hasTx .ret = true := hasTx_ret_applyBounds queued
  rw [hasTx_of_queue (s := applyBounds (u.served ev r)) (at_.queue.trans (by simp [settle])), withdrawn] at atW
  cases atW

end

end Sys2Proof.Machine
end

section
/-! Settles O26: the own expulsion. -/

namespace Sys2Proof.Machine

/-! ## A station that joins anew -/

/-- What becoming a joining station does: of step is withdrawn, and STATUS is sent no more. -/
theorem setMember_joining_member (x : State) :
    (setMember .joining x).member =
      { x.member with
        state := .joining, statusPeriod := none
        expulsion := if x.member.state = .inStep then none else x.member.expulsion } := by
  unfold setMember entered
  dsimp only
  by_cases inStep : x.member.state = .inStep
  · rw [if_pos inStep]
    simp [stopStatus, leaveInStep, dropReport, inStep]
  · rw [if_neg inStep]
    simp [stopStatus, dropReport, inStep]

theorem hasTx_status_stopStatus {x : State} (grounded : x.bus.inFlight = none) : (stopStatus x).hasTx .status = false := by
  unfold stopStatus dropReport
  rw [hasTx_withdrawKind_other (by decide)]
  exact withdrawKind_gone .status _ (by simp [State.flying, grounded])

theorem grounded_invariant : MemberInvariant (fun x => x.bus.inFlight = none) := by
  have aloft := aloftInvariant none
  have same : (fun x : State => x.bus.inFlight.map OwnFrame.grounded = none) = fun x => x.bus.inFlight = none := by
    funext x
    simp
  rwa [same] at aloft

theorem hasTx_status_setMember_joining {x : State} (grounded : x.bus.inFlight = none) :
    (setMember .joining x).hasTx .status = false := by
  unfold setMember
  dsimp only
  refine hasTx_status_stopStatus ?_
  show (if x.member.state = .inStep then leaveInStep x else x).bus.inFlight = none
  split
  · exact grounded_invariant.leave x.member.state grounded
  · exact grounded

theorem hasTx_status_selfExpelled {x : State} (grounded : (selfExpelled x).bus.inFlight = none) :
    (selfExpelled x).hasTx .status = false := by
  have aloft := (aloftInvariant (x.bus.inFlight.map OwnFrame.grounded)).selfExpelled (s := x) rfl
  rw [grounded, Option.map_none, eq_comm, Option.map_eq_none_iff] at aloft
  unfold selfExpelled
  rw [hasTx_queueKind_other (by decide)]
  exact hasTx_status_setMember_joining aloft

section
variable {codes : Sensors} {address : BitVec 4} {b : Bulletin} {s t : State}

theorem foreign_of_other (other : address.toNat ≠ s.me) : s.ownFrame address.toNat b = none := by
  unfold State.ownFrame
  split
  · rw [if_neg (fun own => other own.1)]
  · rfl

theorem opened_of_foreign (foreign : s.ownFrame address.toNat b = none) :
    (s.opened codes address b).bus = (s.heardFrame codes).bus := by
  unfold State.opened
  rw [foreign]
  simp [addressed, closeOwnFrame, resetAge]

/-- Where nothing was on the bus, a frame heard brings nothing there. -/
theorem FrameTaken.quiet (done : FrameTaken codes address b s t) (running : s.running = true) (hears : s.hears address b)
    (foreign : s.ownFrame address.toNat b = none) (grounded : s.bus.inFlight = none) :
    (s.coursed codes address b).state.bus.inFlight = none ∧ t.bus.inFlight = none := by
  have opened : (s.opened codes address b).bus.inFlight = none := by
    rw [opened_of_foreign foreign]
    exact grounded
  have course := grounded_invariant.coursed hears opened
  refine ⟨course, ?_⟩
  rw [← done.ended, ← finish_of_running (takenFrom_coursed codes address b running).running]
  exact grounded_invariant.finish _ _ course

/-- A law of the transmit queue holds behind a frame. -/
theorem law_of_frame {P : State → Prop} (law : QueueInvariant P) {c : Instr} (frame : frameOf c = some (codes, address, b))
    (next : exec c s = .next t) (held : P s) : P t := by
  rw [exec_of_frameOf frame] at next
  obtain rfl := Host.Outcome.next.inj next
  exact law.completeFrame codes address b held

/-- Out of step with nothing on the bus, a lawful queue holds no CLAIM, LAPSE and EXPEL. -/
theorem unasked_of_sendLaw {kind : TxKind} (law : SendLaw t) (out : t.member.state ≠ .inStep) (needs : kind.needsStep)
    (grounded : t.bus.inFlight = none) : t.hasTx kind = false := by
  have step : t.inStep = false := by simp [State.inStep, out]
  exact notAsked_of_grounded ((sendLaw_iff t).mp law step kind needs) (by simp [State.flying, grounded])

/-- The frame changes the member state: the zone is evaluated behind it. -/
theorem evaluates_of_moved {ev : Ev} {r u : State} (moved : u.member.state ≠ r.member.state) :
    evaluates ev r (settle (u.served ev r)) = true := by
  have differs : (settle (u.served ev r)).member.state ≠ r.member.state := by simpa using moved
  rw [evaluates_iff, EvaluationCalled]
  grind

end

section
variable {codes : Sensors} {address : BitVec 4} {station : Byte} {s t : State} {r : Row}

/-- A station that has borrowed nothing has nothing aside and nothing committed. -/
theorem applyBounds_of_cleared {p : State} (borrowed : p.ownRow.borrowed = 0) (owed : p.ownRow.owed = 0)
    (safety : p.ownRow.safety = 0) : (applyBounds p).share.aside = 0 ∧ (applyBounds p).share.commit = 0 := by
  have commit : p.boundCommit = 0 := by
    unfold State.boundCommit
    split <;> omega
  have row : (setCommit p.boundCommit p).ownRow = p.ownRow := rfl
  have committed : (setCommit p.boundCommit p).share.commit = p.boundCommit := rfl
  refine ⟨?_, by rw [applyBounds_commit, commit]⟩
  rw [applyBounds_aside]
  unfold State.boundAside State.asideFloor State.releasedSafety
  rw [row, committed, commit]
  split <;> omega

/-- The own row behind the own EXPEL is cleared. -/
theorem ownRow_expelled (done : FrameTaken codes address (.expel station) s t) (hears : s.hears address (.expel station))
    (mine : station.toNat = s.me) (found : s.table.row? s.me = some r) (there : r.state ≠ .absent) :
    t.ownRow.borrowed = 0 ∧ t.ownRow.owed = 0 ∧ t.ownRow.safety = 0 := by
  have table : t.table = (takeExpel s.me station.toNat s.table).table := done.matchedTable hears (takeExpel_mismatch ..)
  rw [mine, takeExpel_of_row found there] at table
  have idle := idleRow_settle s.me false true (idleRow_clearRow s.table s.me .absent)
  rw [← table] at idle
  have row : t.ownRow = Row.cleared .absent r := by
    rw [State.ownRow, done.me]
    refine rowOf_of_row? (idle.1.trans ?_)
    rw [found]; rfl
  rw [row]
  exact ⟨rfl, rfl, rfl⟩

/-- The course of the own EXPEL, for a station that catches up or is in step. -/
theorem coursed_expelled (hears : s.hears address (.expel station)) (other : address.toNat ≠ s.me)
    (mine : station.toNat = s.me) (there : s.member.state = .catchingUp ∨ s.member.state = .inStep) :
    ∃ x : State, (s.coursed codes address (.expel station)).state = syncHeard (selfExpelled x) ∧
      x.member.state = s.member.state ∧ x.running = s.running := by
  obtain ⟨loader, member⟩ := taking_frame codes address (.expel station) s
  have matched : (s.taking codes address (.expel station)).mismatch = false :=
    (taking_table codes address (.expel station) s).2.trans (takeExpel_mismatch ..)
  have state : ((s.taking codes address (.expel station)).mapState
      (expelSettled (s.ownFrame address.toNat (.expel station)))).state.member.state = s.member.state :=
    (expelSettled_member_state _ _).trans member
  refine ⟨_, (coursed_of_calm hears (.inl other)).trans (memberResponse_expelled (c :=
    (s.taking codes address (.expel station)).mapState (expelSettled (s.ownFrame address.toNat (.expel station))))
    matched ?_ (by rw [state]; exact there)), state, running_of_member state⟩
  rw [mine]
  exact ((me_of_loader (by simp)).trans (me_of_loader loader)).symm

/-- Settles O26: a station that is expelled leaves the table, gives all units back, and joins anew. -/
theorem selfExpulsion : Obligations.SelfExpulsion := by
  intro codes address station s r running passes hears other mine found there steps
  obtain ⟨t, next, done⟩ := frame_taken (c := .expel codes address station) rfl running passes hears
  obtain ⟨x, course, stateX, runX⟩ := coursed_expelled (codes := codes) hears other mine steps
  have foreign := foreign_of_other (b := .expel station) other
  have runs := (takenFrom_coursed codes address (.expel station) running).running
  have entered := setMember_joining_member { x with member := { x.member with catchUp := none, heard := [] } }
  have expelledMember : (selfExpelled x).member = _ := (queueKind_frame .join _).2.2.2.2.2.2.2.2.2.2.2.1.trans entered
  have memberC : (s.coursed codes address (.expel station)).state.member = (syncHeard (selfExpelled x)).member := by rw [course]
  have joining : (s.coursed codes address (.expel station)).state.member.state = .joining := by
    rw [memberC]
    exact congrArg Membership.state expelledMember
  have stateT : t.member.state = .joining := done.memberState.trans joining
  have out : t.member.state ≠ .inStep := by rw [stateT]; decide
  have called : evaluates (s.coursed codes address (.expel station)).ev (s.heardFrame codes)
      (settle ((s.coursed codes address (.expel station)).state.served (s.coursed codes address (.expel station)).ev
        (s.heardFrame codes))) = true := by
    refine evaluates_of_moved ?_
    rw [joining]
    show MemberState.joining ≠ s.member.state
    obtain h | h := steps <;> rw [h] <;> decide
  obtain ⟨aside, commit, claim, ret⟩ := outOfStep_finishRunning called (by rw [joining]; decide)
  rw [done.ended] at aside commit claim ret
  obtain ⟨borrowed, owed, safety⟩ := ownRow_expelled done hears mine found there
  have figures : SameFigures ((s.coursed codes address (.expel station)).state.served
      (s.coursed codes address (.expel station)).ev (s.heardFrame codes)) t := by
    rw [← done.ended]; exact (sameFigures_finishRunning _ _ _)
  rw [figures.ownRow] at borrowed owed safety
  obtain ⟨noAside, noCommit⟩ := applyBounds_of_cleared borrowed owed safety
  obtain ⟨_, _, catchUp, period, heard, _, ages⟩ := finishRunning_member (s.coursed codes address (.expel station)).ev
    (s.heardFrame codes) (s.coursed codes address (.expel station)).state
  rw [done.ended, memberC] at catchUp period heard
  have taken := taking_expel codes address station s
  rw [if_pos mine] at taken
  have noClash : t.member.state ≠ .clash := by rw [stateT]; decide
  refine ⟨t, next, stateT, aside.trans noAside, commit.trans noCommit, ?_, ?_, ?_, fun inStep => ?_, ?_,
    spendable_of_out out, ?_, fun boosts => ?_, fun idle law => ?_⟩
  · rw [catchUp]
    exact congrArg Membership.catchUp expelledMember
  · rw [heard]
    have nobody : (selfExpelled x).member.heard = [] := congrArg Membership.heard expelledMember
    show (selfExpelled x).member.heard.filter _ = []
    rw [nobody]; rfl
  · rw [period]
    exact congrArg Membership.statusPeriod expelledMember
  · rw [← done.ended]
    refine expulsion_finishRunning (by rw [joining]; decide) ?_
    rw [memberC]
    refine (congrArg Membership.expulsion expelledMember).trans ?_
    exact if_pos (stateX.trans inStep)
  · rw [← done.ended, ← finish_of_running runs]
    refine finish_keeps _ _ _ _ (by decide) (by decide) (by decide) ?_
    rw [course]
    refine sending_of_bus_eq (s := selfExpelled x) rfl ?_
    exact queueKind_sending .join _ (acceptsRequests_of _ .joining (setMember_state _ _) (by decide))
  · rw [done.doors, taken, mapState_state, forgetStated_doors]
  · refine done.keeps hears running draft_untouched (by decide) noClash ?_
    rw [taken]
    refine forgetStated_sending (accepts_of_member (s := s) (by simp) running ?_) ?_
    · obtain h | h := steps <;> rw [h] <;> decide
    · simpa [dropSpill] using boosts
  · obtain ⟨groundedC, grounded⟩ := done.quiet running hears foreign idle
    have free : ∀ kind, t.flying kind = false := fun kind => by simp [State.flying, grounded]
    have lawT : SendLaw t := law_of_frame sendLaw_invariant (c := .expel codes address station) rfl next law
    refine ⟨claim (free .claim), unasked_of_sendLaw lawT out (by simp [TxKind.needsStep]) grounded,
      unasked_of_sendLaw lawT out (by simp [TxKind.needsStep]) grounded, ?_, fun some => ret ?_ (aside.trans noAside) (free .ret)⟩
    · rw [← done.ended, hasTx_status_finishRunning (by simp [State.sendsStatus, joining]), course]
      exact hasTx_status_selfExpelled (by rw [course] at groundedC; exact groundedC)
    · rw [(coursed_blocks hears).1, taken]
      simpa using some

end

end Sys2Proof.Machine
end

section
/-! Settles O27: another table tag. -/

namespace Sys2Proof.Machine

/-! ## The own entry is taken away -/

/-- The station waits for nothing. -/
def ShareTable.unqueued (t : ShareTable) (n : Nat) : Prop := ∀ e ∈ t.queue, e.station ≠ n

theorem unqueued_grantHead {t : ShareTable} {n : Nat} {e : Entry} {rest : List Entry} (queued : t.queue = e :: rest)
    (free : t.unqueued n) : (t.grantHead e rest).unqueued n := by
  intro x mem
  obtain ⟨y, inRest, grown⟩ := List.mem_map.mp ((queueOrder_perm _).mem_iff.mp mem)
  rw [← grown]
  exact free y (by rw [queued]; exact List.mem_cons_of_mem _ inRest)

theorem unqueued_settle {t : ShareTable} {n : Nat} (me : Nat) (statement round : Bool) (free : t.unqueued n) :
    (t.settle me statement round).table.unqueued n := by
  rw [(tableSettle_frame me statement round t).1]
  cases round with
  | true =>
    exact serviceRound_keeps (fun u => u.unqueued n) (fun _ _ _ _ queued _ free => unqueued_grantHead queued free)
      (fun _ _ free => free) (t.evaluateOverdrawn statement) free
  | false => exact free

theorem hasEntry_iff {t : ShareTable} {n : Nat} : t.hasEntry n = false ↔ t.unqueued n := by
  unfold ShareTable.hasEntry ShareTable.entry? ShareTable.unqueued
  rw [Option.isSome_eq_false_iff, Option.isNone_iff_eq_none, List.find?_eq_none]
  simp

theorem hasEntry_dropOwnEntry (me : Nat) (t : ShareTable) : (dropOwnEntry me t).table.hasEntry me = false := by
  unfold dropOwnEntry
  split
  · exact hasEntry_iff.mpr (unqueued_settle me false true fun e mem => (mem_dropEntry.mp mem).2)
  · rename_i waits
    exact hasEntry_iff.mpr (hasEntry_iff (t := t).mp (by simpa using waits))

/-- A JOIN or STATUS of a station in the table that states another table tag. -/
theorem takenBy_mismatch_of_other {me sender : Nat} {own tag : Byte} {learning : Bool} {t : ShareTable} {b : Bulletin}
    (states : b = .join tag ∨ ∃ p, b = .status p ∧ p.tag = tag) (other : tag ≠ own) (there : (t.row? sender).isSome = true) :
    (takenBy me sender own learning t b).mismatch = true := by
  obtain ⟨r, found⟩ := Option.isSome_iff_exists.mp there
  obtain rfl | ⟨p, rfl, rfl⟩ := states
  · have taken : takenBy me sender own learning t (.join tag) = _ := takeJoin_other other
    rw [taken]
  · have taken : takenBy me sender own learning t (.status p) = _ := takeStatus_other found other
    rw [taken]

/-! ## The station that minds it -/

/-- What being mismatched does: of step is withdrawn, and STATUS is sent. -/
theorem setMember_mismatched_member (x : State) :
    (setMember .mismatched x).member =
      { x.member with
        state := .mismatched, statusPeriod := some 2000
        expulsion := if x.member.state = .inStep then none else x.member.expulsion } := by
  unfold setMember
  dsimp only
  by_cases inStep : x.member.state = .inStep
  · rw [if_pos inStep, if_pos inStep]
    refine (startStatus_member _).trans ?_
    simp [leaveInStep]; rfl
  · rw [if_neg inStep, if_neg inStep]
    exact startStatus_member _

theorem hasTx_setMember_mismatched {kind : TxKind} (other : kind ∉ [TxKind.claim, .lapse, .expel, .status]) (x : State) :
    (setMember .mismatched x).hasTx kind = x.hasTx kind := by
  simp only [List.mem_cons, List.not_mem_nil, or_false, not_or] at other
  obtain ⟨claim, lapse, expel, status⟩ := other
  have left : (if x.member.state = .inStep then leaveInStep x else x).hasTx kind = x.hasTx kind := by
    split
    · unfold leaveInStep
      exact (hasTx_withdrawKind_other (Ne.symm expel) _).trans ((hasTx_withdrawKind_other (Ne.symm lapse) _).trans
        (hasTx_withdrawKind_other (Ne.symm claim) _))
    · rfl
  unfold setMember
  exact (hasTx_startStatus status _).trans left

theorem memberResponse_stays {own : Bool} {b : Bulletin} {c : Course} (mismatched : c.state.member.state = .mismatched) :
    (memberResponse own b c).state.member.state = .mismatched := by
  have dropped : (dropOwnClaim c).state.member = c.state.member := by simp [dropOwnClaim]
  have responded : (mismatchResponse c).state.member.state = .mismatched := by
    unfold mismatchResponse
    split
    · rw [mapState_state, if_neg (by simp [State.mindsMismatch, dropped, mismatched]), dropped]; exact mismatched
    · exact mismatched
  have joined : ∀ x : State, x.member.state = .mismatched → (joinResponse own b x).member.state = .mismatched := by
    intro x state
    unfold joinResponse
    (repeat' split)
    · rename_i joining; simp [state] at joining
    · exact state
    · rename_i expelled; simp [state] at expelled
    · exact state
    · exact state
  unfold memberResponse
  rw [mapState_state, responded, catchUpResponse_of_other (by decide)]
  exact joined (syncAges (mismatchResponse c).state) responded

section
variable {codes : Sensors} {address : BitVec 4} {b : Bulletin} {s t : State}

/-- The course of a frame with another table tag, for a station that minds it. -/
theorem coursed_mismatched (hears : s.hears address b) (other : address.toNat ≠ s.me)
    (mismatch : (takenBy s.me address.toNat s.tag s.learning s.table b).mismatch = true) (minds : s.mindsMismatch = true) :
    ∃ x : State, (s.coursed codes address b).state = syncHeard (syncAges (enterMismatch x)) ∧
      x.member.state = s.member.state ∧ x.running = s.running := by
  obtain ⟨loader, member⟩ := taking_frame codes address b s
  have state : ((s.taking codes address b).mapState (expelSettled (s.ownFrame address.toNat b))).state.member.state =
      s.member.state := (expelSettled_member_state _ _).trans member
  have dropped : (dropOwnClaim ((s.taking codes address b).mapState
      (expelSettled (s.ownFrame address.toNat b)))).state.member.state = s.member.state := by
    rw [← state]; simp [dropOwnClaim]
  refine ⟨_, (coursed_of_calm hears (.inl other)).trans (memberResponse_mismatch (c :=
    (s.taking codes address b).mapState (expelSettled (s.ownFrame address.toNat b)))
    ((taking_table codes address b s).2.trans mismatch) ?_), dropped, running_of_member dropped⟩
  rw [← minds]
  simp only [State.mindsMismatch, state]

/-- The bulletin that brings a mismatch behind it: the station leaves step, and with it its requests. -/
theorem mismatch_ends {c : Instr} (frame : frameOf c = some (codes, address, b)) (next : exec c s = .next t)
    (done : FrameTaken codes address b s t) (running : s.running = true)
    (hears : s.hears address b) (other : address.toNat ≠ s.me)
    (mismatch : (takenBy s.me address.toNat s.tag s.learning s.table b).mismatch = true)
    (matched : s.member.state ≠ .mismatched) (noClash : s.member.state ≠ .clash) :
    t.member.state = .mismatched ∧ t.stats.flags.config = true ∧
      t.member.census = none ∧ t.member.catchUp = none ∧ t.member.heard = [] ∧ t.member.statusPeriod = some 2000 ∧
      t.sending .status ∧ t.share.aside = t.ownRow.borrowed ∧ t.spendable = t.usable ∧
      (s.bus.inFlight = none →
        t.hasTx .join = false ∧ t.hasTx .claim = false ∧
          (s.member.state = .inStep → t.hasTx .lapse = false ∧ t.hasTx .expel = false)) := by
  have minds : s.mindsMismatch = true := by
    unfold State.running at running
    unfold State.mindsMismatch
    cases state : s.member.state <;> simp_all
  obtain ⟨x, course, stateX, runX⟩ := coursed_mismatched (codes := codes) hears other mismatch minds
  have runs := (takenFrom_coursed codes address b running).running
  have entered : (enterMismatch x).member = _ := setMember_mismatched_member (noteConfig { withdrawKind .join x with
    member := { (withdrawKind .join x).member with census := none, catchUp := none, heard := [] } })
  have memberC : (s.coursed codes address b).state.member = (syncHeard (syncAges (enterMismatch x))).member := by rw [course]
  have stateC : (s.coursed codes address b).state.member.state = .mismatched := by
    rw [memberC]
    exact congrArg Membership.state entered
  have stateT : t.member.state = .mismatched := done.memberState.trans stateC
  have out : t.member.state ≠ .inStep := by rw [stateT]; decide
  have called : evaluates (s.coursed codes address b).ev (s.heardFrame codes)
      (settle ((s.coursed codes address b).state.served (s.coursed codes address b).ev (s.heardFrame codes))) = true := by
    refine evaluates_of_moved ?_
    rw [stateC]
    exact matched.symm
  obtain ⟨aside, _, claim, _⟩ := outOfStep_finishRunning called (by rw [stateC]; decide)
  rw [done.ended] at aside claim
  have figures : SameFigures ((s.coursed codes address b).state.served (s.coursed codes address b).ev (s.heardFrame codes)) t := by
    rw [← done.ended]; exact sameFigures_finishRunning _ _ _
  obtain ⟨_, census, catchUp, period, heard, _, _⟩ := finishRunning_member (s.coursed codes address b).ev
    (s.heardFrame codes) (s.coursed codes address b).state
  rw [done.ended, memberC] at census catchUp period heard
  refine ⟨stateT, ?_, ?_, ?_, ?_, ?_, ?_, ?_, spendable_of_out out, fun idle => ?_⟩
  · rw [done.stats, course]
    show (enterMismatch x).stats.flags.config = true
    unfold enterMismatch
    simp [noteConfig]
  · rw [census]
    exact congrArg Membership.census entered
  · rw [catchUp]
    exact congrArg Membership.catchUp entered
  · rw [heard]
    have nobody : (enterMismatch x).member.heard = [] := congrArg Membership.heard entered
    show (enterMismatch x).member.heard.filter _ = []
    rw [nobody]; rfl
  · rw [period]
    exact congrArg Membership.statusPeriod entered
  · rw [← done.ended, ← finish_of_running runs]
    refine finish_keeps _ _ _ _ (by decide) (by decide) (by decide) ?_
    rw [course]
    refine sending_of_bus_eq (s := enterMismatch x) rfl ?_
    unfold enterMismatch setMember
    exact queueKind_sending .status _ (acceptsRequests_of _ .mismatched rfl (by decide))
  · have mismatched : ((s.coursed codes address b).state.served (s.coursed codes address b).ev
        (s.heardFrame codes)).member.state = .mismatched := figures.member.symm.trans stateT
    rw [aside, applyBounds_aside, figures.ownRow]
    exact if_pos (.inr mismatched)
  · obtain ⟨groundedC, grounded⟩ := done.quiet running hears (foreign_of_other other) idle
    have free : ∀ kind, t.flying kind = false := fun kind => by simp [State.flying, grounded]
    refine ⟨?_, claim (free .claim), fun inStep => ?_⟩
    · rw [← done.ended, ← finish_of_running runs, hasTx_finish (by decide), course]
      rw [course] at groundedC
      have aloft := (aloftInvariant (x.bus.inFlight.map OwnFrame.grounded)).enterMismatch (s := x) rfl
      have nothing : (enterMismatch x).bus.inFlight = none := groundedC
      rw [nothing, Option.map_none, eq_comm, Option.map_eq_none_iff] at aloft
      show (enterMismatch x).hasTx .join = false
      unfold enterMismatch
      rw [hasTx_setMember_mismatched (by decide)]
      exact withdrawKind_gone .join x (by simp [State.flying, aloft])
    · have law : SendLaw s := (sendLaw_iff s).mpr fun step => by simp [State.inStep, inStep] at step
      have lawT : SendLaw t := law_of_frame sendLaw_invariant frame next law
      exact ⟨unasked_of_sendLaw lawT out (by simp [TxKind.needsStep]) grounded,
        unasked_of_sendLaw lawT out (by simp [TxKind.needsStep]) grounded⟩

/-- Settles O27: a station in the table that states another table tag takes the own station out of step. -/
theorem otherTagBringsMismatched : Obligations.OtherTagBringsMismatched := by
  intro c codes address b tag s frame states foreignTag running passes hears other there
  obtain ⟨t, next, done⟩ := frame_taken frame running passes hears
  have mismatch := takenBy_mismatch_of_other (me := s.me) (learning := s.learning) states foreignTag there
  have table : t.table.hasEntry s.me = false := by
    rw [done.table, coursed_table hears]
    unfold tableAfter
    rw [if_pos mismatch]
    exact hasEntry_dropOwnEntry _ _
  have stays : s.member.state = .mismatched ∨ s.member.state = .clash → t.member.state = s.member.state := by
    rintro (mismatched | clash)
    · have state : ((s.taking codes address b).mapState (expelSettled (s.ownFrame address.toNat b))).state.member.state =
          .mismatched := (expelSettled_member_state _ _).trans ((taking_frame codes address b s).2.trans mismatched)
      rw [done.memberState, coursed_of_calm hears (.inl other), memberResponse_stays state, mismatched]
    · rw [done.clash hears clash, clash]
  have ends := mismatch_ends frame next done running hears other mismatch
  have fault : t.fault = true := by
    by_cases mismatched : s.member.state = .mismatched
    · simp [State.fault, stays (.inl mismatched), mismatched]
    · by_cases clash : s.member.state = .clash
      · simp [State.fault, stays (.inr clash), clash]
      · simp [State.fault, (ends mismatched clash).1]
  exact ⟨t, next, table, fault, stays, ends⟩

end

end Sys2Proof.Machine
end

section
/-! Settles O18 and O19: what a frame for the override slots hands on, at the end of its command. -/

namespace Sys2Proof.Machine

/-! ## Slots handed on -/

theorem hasTx_setOneShot {kind : TxKind} (other : kind ≠ .draft) (o : OneShot) (tail : Timer) (y : State) :
    (setOneShot o tail y).hasTx kind = y.hasTx kind := by
  unfold setOneShot stateActivity
  dsimp only
  (repeat' split)
  · rfl
  · exact hasTx_queueKind_other other.symm _
  · exact hasTx_withdrawKind_other other.symm _

theorem hasTx_handSlotsOn {kind : TxKind} (other : kind ≠ .draft) (o : Overrides) (y : State) :
    (handSlotsOn o y).hasTx kind = y.hasTx kind := by
  have inhibited := hasTx_setOneShot other .idle none (recomputeSetpoint { y with overrides := o })
  have follows : ∀ z : State, z.hasTx kind = y.hasTx kind →
      (if z.defrostMode = y.defrostMode then z else defrostSeesMode z).hasTx kind = y.hasTx kind := by
    intro z same
    split
    · exact same
    · exact (hasTx_of_queue (by simp) kind).trans same
  unfold handSlotsOn
  refine follows _ ?_
  split
  · exact inhibited
  · rfl

theorem flight_setOneShot (o : OneShot) (tail : Timer) (y : State) : (setOneShot o tail y).flight = y.flight := by
  unfold setOneShot stateActivity
  dsimp only
  (repeat' split)
  · rfl
  · exact flight_queueKind _ _
  · exact flight_withdrawKind _ _

theorem flight_handSlotsOn (o : Overrides) (y : State) : (handSlotsOn o y).flight = y.flight := by
  have inhibited := flight_setOneShot .idle none (recomputeSetpoint { y with overrides := o })
  have follows : ∀ z : State, z.flight = y.flight →
      (if z.defrostMode = y.defrostMode then z else defrostSeesMode z).flight = y.flight := by
    intro z same
    split
    · exact same
    · exact (flight_of_bus (by simp)).trans same
  unfold handSlotsOn
  refine follows _ ?_
  split
  · exact inhibited
  · rfl

/-- `x` is the state in which a frame of the panel is taken, but for slots, setpoint, doors and defrost unit. -/
structure SlotsMoved (y x : State) : Prop where
  pins : x.pins = y.pins
  loader : x.loader = y.loader
  table : x.table = y.table
  share : x.share = y.share
  supply : x.supply = y.supply
  member : x.member = y.member
  zone : y.zone.sameButSetpoint x.zone
  flight : x.flight = y.flight
  ret : x.hasTx .ret = y.hasTx .ret

theorem slotsMoved_refl (y : State) : SlotsMoved y y := ⟨rfl, rfl, rfl, rfl, rfl, rfl, rfl, rfl, rfl⟩

theorem slotsMoved_handSlotsOn (o : Overrides) (y : State) : SlotsMoved y (handSlotsOn o y) :=
  ⟨by simp, by simp, by simp, by simp, by simp, by simp, by simp, flight_handSlotsOn o y, hasTx_handSlotsOn (by decide) o y⟩

/-! ## The command -/

/-- `u` is `x` at the end of the course of a panel's frame in state `s`: the membership unit may have moved on. -/
structure SlotsTaken (codes : Sensors) (s x u : State) : Prop where
  running : u.running = true
  sensors : u.pins.sensors = codes
  loader : u.loader = s.loader
  table : u.table = s.table
  share : u.share = s.share
  supply : u.supply = s.supply
  zone : u.zone = x.zone
  doors : u.doors = x.doors
  overrides : u.overrides = x.overrides
  defrost : u.defrost = x.defrost
  member : u.member.state = s.member.state ∨ (s.member.state = .catchingUp ∧ u.member.state = .inStep)
  flight : u.flight = s.flight
  ret : u.hasTx .ret = s.hasTx .ret
  same : s.zone.sameButSetpoint u.zone

theorem flight_of_grounded {x y : State}
    (same : x.bus.inFlight.map OwnFrame.grounded = y.bus.inFlight.map OwnFrame.grounded) : x.flight = y.flight := by
  have read : ∀ z : State, z.flight = (z.bus.inFlight.map OwnFrame.grounded).map (fun f => (f.kind, f.bulletin)) := by
    intro z; unfold State.flight; cases z.bus.inFlight <;> rfl
  rw [read, read, same]

section
variable {codes : Sensors} {address : BitVec 4} {b : Bulletin} {s t x : State} {evaluate : Bool}

/-- A frame of the panel that is for the slots, taken: the end of its command, and what the course leaves for it. -/
theorem slots_taken (done : FrameTaken codes address b s t) (running : s.running = true) (panel : 8 ≤ address.toNat)
    (plain : b.plain) (taken : s.taking codes address b = slotCourse (evaluate, x))
    (moved : SlotsMoved (s.opened codes address b) x) :
    ∃ u, finishRunning { evaluate := evaluate } (s.heardFrame codes) u = t ∧ SlotsTaken codes s x u := by
  have foreign : s.ownFrame address.toNat b = none := ownFrame_of_panel panel
  have hears := hears_of_foreign foreign
  have calm : s.calm address b := calm_of_panel panel
  have matched : (s.taking codes address b).mismatch = false := by rw [taken]; rfl
  have from_ := takenFrom_coursed codes address b running
  have state : (s.taking codes address b).state = x := by rw [taken]; rfl
  have course := coursed_calm (codes := codes) hears calm matched plain
  have settled : expelSettled (s.ownFrame address.toNat b) (s.taking codes address b).state = x := by
    rw [state, foreign]; rfl
  rw [settled] at course
  obtain ⟨event, _, _, _, table⟩ := coursed_of_matched (codes := codes) hears matched
  obtain ⟨share, doors, overrides⟩ := coursed_blocks (codes := codes) hears
  have flag : (s.coursed codes address b).ev = { evaluate := evaluate } := by rw [event, taken]; rfl
  have opened : (s.opened codes address b).bus = (s.heardFrame codes).bus := opened_of_foreign foreign
  have defrost : (s.coursed codes address b).state.defrost = x.defrost := by
    rw [course, catchUpResponse_defrost]; rfl
  have zone : (s.coursed codes address b).state.zone = x.zone := by
    rw [course]
    simp [syncHeard, syncAges]
  have member : (s.coursed codes address b).state.member.state = s.member.state ∨
      (s.member.state = .catchingUp ∧ (s.coursed codes address b).state.member.state = .inStep) := by
    rw [← done.memberState]
    exact done.calmState hears calm ((taking_table codes address b s).2.symm.trans matched) plain
  have flight : (s.coursed codes address b).state.flight = s.flight := by
    have law := aloftInvariant (x.bus.inFlight.map OwnFrame.grounded)
    have aloft := law.catchUpResponse x.member.state (s := syncHeard (syncAges x)) rfl
    rw [← course] at aloft
    refine (flight_of_grounded aloft).trans (moved.flight.trans (flight_of_bus ?_))
    rw [opened]; rfl
  have ret : (s.coursed codes address b).state.hasTx .ret = s.hasTx .ret := by
    rw [coursed_calm_hasTx (by decide) (by decide) hears calm matched plain, state, moved.ret]
    refine hasTx_of_queue ?_ _
    rw [opened]; rfl
  have ended := done.ended
  rw [flag] at ended
  rw [state] at share doors overrides table
  obtain ⟨loaderO, tableO, shareO, _⟩ := opened_frame s codes address b
  exact ⟨_, ended, from_.running, from_.sensors, from_.loader, table.trans (moved.table.trans tableO),
    share.trans (moved.share.trans shareO), from_.supply, zone, doors, overrides, defrost, member, flight, ret, from_.zone⟩

end

/-! ## The end of the command -/

section
variable {codes : Sensors} {s x u t : State} {evaluate : Bool} (slots : SlotsTaken codes s x u)
  (ended : finishRunning { evaluate := evaluate } (s.heardFrame codes) u = t)
include slots ended

theorem SlotsTaken.blocks : t.table = s.table ∧ t.supply = s.supply ∧ t.doors = x.doors ∧ t.overrides = x.overrides ∧
    t.loader = s.loader ∧ t.member.state = u.member.state ∧ t.zone.setpoint = x.zone.setpoint := by
  rw [← ended]
  simp [slots.table, slots.supply, slots.doors, slots.overrides, slots.loader, slots.zone]

/-- Behind a frame for the slots the defrost unit leaves waiting where its units are held. -/
theorem SlotsTaken.defrost_ended :
    t.defrost =
      if s.isCab = true ∧ x.defrost.state = .waiting ∧ s.loader.vt.defrostUnits ≤ s.safetyHeld then u.rampedDefrost
      else x.defrost := by
  have raised := unraised_of_table (ev := { evaluate := evaluate }) (r := s.heardFrame codes) (u := u) ⟨rfl, rfl⟩
    slots.loader slots.table
  have cab : u.isCab = s.isCab := by simp only [State.isCab, State.entry, State.me, slots.loader]
  have held : u.safetyHeld = s.safetyHeld := by simp only [State.safetyHeld, State.ownRow, State.me, slots.loader, slots.table]
  rw [← ended, finishRunning_defrost_eq, served_of_unraised raised, cab, held, slots.loader, slots.defrost]

theorem SlotsTaken.pendingFlag : t.zone.pendingFlag = x.zone.pendingFlag := by
  obtain ⟨_, _, _, pending⟩ := settle_air (u.served { evaluate := evaluate } (s.heardFrame codes))
  cases called : evaluates { evaluate := evaluate } (s.heardFrame codes)
    (settle (u.served { evaluate := evaluate } (s.heardFrame codes))) with
  | true =>
    rw [← ended, evaluated_pendingFlag called, slots.zone]
    exact Bool.and_true _
  | false =>
    have unmeasured : ∀ q : State, (if evaluatesShare { evaluate := evaluate } (s.heardFrame codes) q = true then
        cutStages (shareEvaluation { evaluate := evaluate } (s.heardFrame codes) q) else q).zone.pendingFlag =
          q.zone.pendingFlag := by
      intro q
      split
      · have cut := congrArg Zone.pendingFlag (cutStages_rest (shareEvaluation { evaluate := evaluate } (s.heardFrame codes) q))
        rw [shareEvaluation_zone] at cut
        exact cut
      · rfl
    rw [← ended, finishRunning_zone_eq, (refreshFan_demand _ _).2.2.2.2.2.1, Machine.evaluate, if_neg (by simp [called]),
      unmeasured, pending, ← slots.zone]
    simp

theorem SlotsTaken.stands {e : State}
    (base : e = { s with
      overrides := t.overrides, defrost := t.defrost, member := t.member
      zone := { s.zone with base := e.zone.base } }) (doors : x.doors = s.doors) :
    StandsFor e (u.served { evaluate := evaluate } (s.heardFrame codes)) := by
  obtain ⟨_, _, _, overrides, _, member, _⟩ := slots.blocks ended
  rw [base]
  refine standsFor_served slots.loader.symm slots.table.symm slots.supply.symm (doors.symm.trans slots.doors.symm)
    (overrides.trans slots.overrides.symm) member (by rw [ended]) slots.share.symm slots.same.parts.1.symm slots.flight.symm

end

end Sys2Proof.Machine
end

section
/-! Settles O19: CANCEL. -/

namespace Sys2Proof.Machine

/-! ## Slots that CANCEL empties -/

/-- The slots behind a CANCEL. -/
def Overrides.cancelled (o : Overrides) (named : Bool) (kind : Byte) : Overrides :=
  if named then
    if kind = 0 then o.allEmptied
    else
      match overrideKindOf kind with
      | some k => o.emptied k
      | none => o
  else o

theorem emptied_of_inactive {k : OverrideKind} {o : Overrides} (idle : o.active k = false) : o.emptied k = o := by
  cases k <;> simp only [Overrides.active, Option.isSome_eq_false_iff, Option.isNone_iff_eq_none] at idle <;>
    simp only [Overrides.emptied, ← idle]

theorem allEmptied_of_inactive {o : Overrides} (idle : o.anyActive = false) : o.allEmptied = o := by
  simp only [Overrides.anyActive, Bool.or_eq_false_iff, Option.isSome_eq_false_iff, Option.isNone_iff_eq_none] at idle
  obtain ⟨⟨⟨⟨⟨setpoint, fan⟩, off⟩, boost⟩, economy⟩, mode⟩ := idle
  cases o
  simp_all [Overrides.allEmptied, Overrides.reset]

theorem emptied_moves {k : OverrideKind} {o : Overrides} (active : o.active k = true) :
    ({ o.emptied k with panelSilence := none } : Overrides) ≠ { o with panelSilence := none } := by
  intro same
  have inactive := congrArg (Overrides.active k) same
  have left : ({ o.emptied k with panelSilence := none } : Overrides).active k = false := by cases k <;> rfl
  have right : ({ o with panelSilence := none } : Overrides).active k = o.active k := by cases k <;> rfl
  rw [left, right, active] at inactive
  exact absurd inactive (by decide)

theorem allEmptied_moves {o : Overrides} (active : o.anyActive = true) :
    ({ o.allEmptied with panelSilence := none } : Overrides) ≠ { o with panelSilence := none } := by
  intro same
  have inactive : false = o.anyActive := congrArg Overrides.anyActive same
  rw [active] at inactive
  cases inactive

/-- A CANCEL finds nothing to empty, or it empties slots and hands them on. -/
theorem takeCancel_cases (kind mask : Byte) (y : State) :
    (takeCancel kind mask y = (false, y) ∧ y.overrides.cancelled (maskHas mask y.me) kind = y.overrides) ∨
      (takeCancel kind mask y = (true, handSlotsOn (y.overrides.cancelled (maskHas mask y.me) kind) y) ∧
        OnlyEmptied y.overrides (y.overrides.cancelled (maskHas mask y.me) kind) ∧
        ({ y.overrides.cancelled (maskHas mask y.me) kind with panelSilence := none } : Overrides) ≠
          { y.overrides with panelSilence := none }) := by
  unfold takeCancel Overrides.cancelled
  cases maskHas mask y.me with
  | false => exact .inl ⟨rfl, rfl⟩
  | true =>
    by_cases all : kind = 0
    · simp only [if_pos all, if_true]
      cases active : y.overrides.anyActive with
      | true => exact .inr ⟨rfl, ⟨.inr rfl, .inr rfl⟩, allEmptied_moves active⟩
      | false => exact .inl ⟨rfl, allEmptied_of_inactive active⟩
    · simp only [if_neg all, if_true]
      cases overrideKindOf kind with
      | none => exact .inl ⟨rfl, rfl⟩
      | some k =>
        dsimp only
        cases active : y.overrides.active k with
        | true => exact .inr ⟨rfl, onlyEmptied_emptied k _, emptied_moves active⟩
        | false => exact .inl ⟨rfl, emptied_of_inactive active⟩

/-! ## The units behind slots that were emptied -/

section
variable {codes : Sensors} {address : BitVec 4} {b : Bulletin} {s t u : State} {o : Overrides}

/-- The setpoint of a station with the slots `o`. -/
theorem setpointNow_eq (s : State) (o : Overrides) :
    ({ s with overrides := o } : State).setpointNow =
      max 20 (min 56 (s.entry.baseSetpoint +
        match o.setpointOffset with
        | some x => x.value
        | none => 0)) := rfl

theorem opened_follows (codes : Sensors) (address : BitVec 4) (b : Bulletin) (s : State) (o : Overrides) :
    SameFigures { s with overrides := o } { s.opened codes address b with overrides := o } := by
  obtain ⟨loader, table, share, supply, zone, doors, defrost, member, _⟩ := opened_frame s codes address b
  exact ⟨loader, table, supply, doors, defrost, rfl, member, congrArg (fun z : Zone => z.stages.map (·.size)) zone⟩

theorem opened_defrostMode (codes : Sensors) (address : BitVec 4) (b : Bulletin) (s : State) :
    (s.opened codes address b).defrostMode = s.defrostMode := by
  have slot : (s.opened codes address b).overrides.defrostMode = s.overrides.defrostMode := by
    rw [opened_overrides]
    split <;> rfl
  simp only [State.defrostMode, slot]

theorem opened_zone_cleared (codes : Sensors) (address : BitVec 4) (b : Bulletin) (s : State) (o : Overrides) :
    (recomputeSetpoint { s.opened codes address b with overrides := o }).zone =
      { s.zone with
        setpoint := some ({ s with overrides := o } : State).setpointNow
        pendingFlag := s.zone.pendingFlag || s.zone.setpoint != some ({ s with overrides := o } : State).setpointNow } := by
  obtain ⟨loader, _, _, _, zone, _⟩ := opened_frame s codes address b
  have setpoint : ({ s.opened codes address b with overrides := o } : State).setpointNow =
      ({ s with overrides := o } : State).setpointNow := by
    rw [setpointNow_eq, setpointNow_eq, State.entry, opened_me, loader]
    rfl
  show ({ (s.opened codes address b).zone with
    setpoint := some ({ s.opened codes address b with overrides := o } : State).setpointNow
    pendingFlag := (s.opened codes address b).zone.pendingFlag ||
      (s.opened codes address b).zone.setpoint != some ({ s.opened codes address b with overrides := o } : State).setpointNow } : Zone) = _
  rw [setpoint, zone]

/-- The defrost unit behind slots that were emptied: it looks where the mode moved. -/
theorem opened_defrost_cleared (codes : Sensors) (address : BitVec 4) (b : Bulletin) (s : State) (o : Overrides) :
    ((s.opened codes address b).slotsCleared o).defrost =
      if s.isCab = true ∧ ({ s with overrides := o } : State).defrostMode ≠ s.defrostMode then
        (checkDefrost { s with overrides := o }).defrost
      else s.defrost := by
  have follows := opened_follows codes address b s o
  have cab : (s.opened codes address b).isCab = s.isCab := by
    simp only [State.isCab, State.entry, opened_me, (opened_frame s codes address b).1]
  have mode : ({ s.opened codes address b with overrides := o } : State).defrostMode =
      ({ s with overrides := o } : State).defrostMode := rfl
  unfold State.slotsCleared
  dsimp only
  rw [cab, mode, opened_defrostMode, follows.checkDefrost_defrost, (opened_frame s codes address b).2.2.2.2.2.2.1]

/-- Slots that a frame emptied are handed on to the units, and the unit is evaluated. -/
theorem slotsHandedOn_of_taken (only : OnlyEmptied (s.opened codes address b).overrides o)
    (changed : ({ o with panelSilence := none } : Overrides) ≠ { s.overrides with panelSilence := none })
    (slots : SlotsTaken codes s ((s.opened codes address b).slotsCleared o) u)
    (ended : finishRunning { evaluate := true } (s.heardFrame codes) u = t) : SlotsHandedOn codes s t := by
  obtain ⟨table, _, doors, overrides, loader, _, setpoint⟩ := slots.blocks ended
  have called := called_of_evaluate (s.heardFrame codes) u
  have read := evaluated_sensors called
  have measured : ZoneMeasured codes _ := zoneMeasured_of_called slots.sensors called
  obtain ⟨_, air0, air1, air2⟩ := slots.same.parts
  rw [ended, slots.sensors, air0, air1, air2] at read
  rw [ended] at measured
  have overrides : t.overrides = o := overrides
  have doorsX : ((s.opened codes address b).slotsCleared o).doors = s.doors := (opened_frame s codes address b).2.2.2.2.2.1
  have zone := opened_zone_cleared codes address b s o
  have setpointT : t.zone.setpoint = some ({ s with overrides := o } : State).setpointNow :=
    setpoint.trans (congrArg Zone.setpoint zone)
  have flag : t.zone.pendingFlag = _ := (slots.pendingFlag ended).trans (congrArg Zone.pendingFlag zone)
  have defrost := slots.defrost_ended ended
  have looked := opened_defrost_cleared codes address b s o
  have row : t.ownRow = s.ownRow := by simp only [State.ownRow, State.me, table, loader]
  have mode : t.defrostMode = ({ s with overrides := o } : State).defrostMode := by
    simp only [State.defrostMode, overrides]
  refine ⟨doors.trans doorsX, fun same => absurd (overrides ▸ same) changed, fun _ => ⟨?_, ?_, read, measured, ?_, ?_,
    fun stays => ?_, fun cab off moved => ?_⟩⟩
  · have handed : t.zone.setpoint = some ({ s with overrides := t.overrides } : State).setpointNow := by
      rw [overrides]; exact setpointT
    exact handed
  · rw [setpointT, flag, bne_comm]
  · exact shareEvaluated_of_ended ended slots.running (slots.stands ended rfl doorsX) (.inl called) rfl
      (by simp [gapBegins, slots.supply]) rfl rfl rfl ⟨slots.loader.symm, slots.table.symm⟩ slots.ret
  · exact stagesRegulated_of_ended ended slots.running (slots.stands ended rfl doorsX) called
  · have same : ((s.opened codes address b).slotsCleared o).defrost = s.defrost := by
      rw [looked]
      split
      · rename_i moved
        obtain saloon | notOff | stands := stays
        · simp [saloon] at moved
        · rw [checkDefrost_of_state (s := { s with overrides := o }) notOff]
        · exact absurd (mode.symm.trans stands) moved.2
      · rfl
    refine defrostSees_of_unraised row ?_
    rw [defrost, same, rampedDefrost_congr (s := s) (t := u) slots.loader (slots.defrost.trans same)]
  · rw [mode] at moved
    rw [if_pos ⟨cab, moved⟩] at looked
    have onlyS : OnlyEmptied s.overrides o := by
      have heard := opened_overrides s codes address b
      refine ⟨?_, ?_⟩
      · have boost := only.boost
        rw [heard] at boost
        split at boost <;> exact boost
      · have kept := only.mode
        rw [heard] at kept
        split at kept <;> exact kept
    refine ⟨mode.trans (defrostMode_of_emptied onlyS moved), ?_⟩
    rw [overrides]
    refine defrostChecked_of_eq cab off ?_
    rw [defrost, looked, if_neg]
    rintro ⟨_, waiting, enough⟩
    have short : s.safetyHeld < s.loader.vt.defrostUnits :=
      (checkDefrost_off_settled (s := { s with overrides := o }) off).1 waiting
    omega

/-- A frame that leaves the slots hands nothing on. -/
theorem slotsHandedOn_of_unmoved {evaluate : Bool} (slots : SlotsTaken codes s (s.opened codes address b) u)
    (ended : finishRunning { evaluate := evaluate } (s.heardFrame codes) u = t) : SlotsHandedOn codes s t := by
  obtain ⟨_, _, doors, overrides, _, _, setpoint⟩ := slots.blocks ended
  obtain ⟨_, _, _, _, zone, doorsO, defrostO, _⟩ := opened_frame s codes address b
  have defrost := slots.defrost_ended ended
  rw [defrostO] at defrost
  have heard := opened_overrides s codes address b
  refine ⟨doors.trans doorsO, fun _ => ⟨by rw [setpoint, zone], fun quiet => ?_⟩, fun changed => absurd ?_ changed⟩
  · rw [defrost, if_neg]
    rintro ⟨cab, waiting, enough⟩
    obtain saloon | idle | short := quiet
    · rw [saloon] at cab; cases cab
    · exact idle waiting
    · omega
  · rw [overrides, heard]
    split <;> rfl

end

/-- Settles O19: CANCEL empties the slots named, and the units follow. -/
theorem cancelTaken : Obligations.CancelTaken := by
  intro codes kind mask s running
  have passes : s.passes (8 : BitVec 4).toNat (.cancel kind mask) = true := rfl
  have hears : s.hears 8 (.cancel kind mask) := hears_of_foreign (ownFrame_of_panel (by decide))
  obtain ⟨t, next, done⟩ := frame_taken (c := .cancel codes 8 kind mask) rfl running passes hears
  have taken : s.taking codes 8 (.cancel kind mask) = slotCourse (takeCancel kind mask (s.opened codes 8 (.cancel kind mask))) := rfl
  have heard := opened_overrides s codes 8 (.cancel kind mask)
  rw [if_pos (by decide)] at heard
  have cases_ := takeCancel_cases kind mask (s.opened codes 8 (.cancel kind mask))
  rw [opened_me, heard] at cases_
  obtain ⟨nothing, kept⟩ | ⟨emptied, only, changed⟩ := cases_
  · rw [nothing] at taken
    obtain ⟨u, ended, slots⟩ := slots_taken done running (by decide) ⟨nofun, nofun⟩ taken (slotsMoved_refl _)
    obtain ⟨table, supply, _, overrides, _⟩ := slots.blocks ended
    exact ⟨t, next, (overrides.trans heard).trans kept.symm, slotsHandedOn_of_unmoved slots ended, table, supply⟩
  · rw [emptied] at taken
    obtain ⟨u, ended, slots⟩ := slots_taken done running (by decide) ⟨nofun, nofun⟩ taken (slotsMoved_handSlotsOn _ _)
    rw [handSlotsOn_emptied (by rw [heard]; exact only)] at slots
    obtain ⟨table, supply, _, overrides, _⟩ := slots.blocks ended
    exact ⟨t, next, overrides, slotsHandedOn_of_taken (by rw [heard]; exact only) changed slots ended, table, supply⟩

end Sys2Proof.Machine
end

section
/-! Settles O18: the slots that an OVERRIDE fills, and what is handed on to the units. -/

namespace Sys2Proof.Machine

/-! ## What the slots hand on -/

theorem handSlotsOn_blocks (o : Overrides) (y : State) :
    (handSlotsOn o y).zone = (recomputeSetpoint { y with overrides := o }).zone ∧ (handSlotsOn o y).overrides = o ∧
      (o.boostInhibit.isSome = true → BoostLaw y → (handSlotsOn o y).doors.oneShot = .idle) ∧
      (({ y with overrides := o } : State).defrostMode = y.defrostMode → (handSlotsOn o y).defrost = y.defrost) := by
  have follows : ∀ z : State, (if z.defrostMode = y.defrostMode then z else defrostSeesMode z).zone = z.zone ∧
      (if z.defrostMode = y.defrostMode then z else defrostSeesMode z).overrides = z.overrides ∧
      (if z.defrostMode = y.defrostMode then z else defrostSeesMode z).doors = z.doors ∧
      (z.defrostMode = y.defrostMode → (if z.defrostMode = y.defrostMode then z else defrostSeesMode z).defrost = z.defrost) := by
    intro z
    split
    · exact ⟨rfl, rfl, rfl, fun _ => rfl⟩
    · rename_i moved
      exact ⟨by simp, by simp, by simp, fun same => absurd same moved⟩
  unfold handSlotsOn
  dsimp only
  by_cases begins : o.boostInhibit.isSome = true ∧ y.overrides.boostInhibit.isNone = true
  · simp only [if_pos begins, follows, setOneShot_frame, setOneShot_doors]
    refine ⟨trivial, rfl, fun _ _ => trivial, fun same => ?_⟩
    have mode : (setOneShot .idle none (recomputeSetpoint { y with overrides := o })).defrostMode = y.defrostMode := by
      rw [← same]
      simp [State.defrostMode, recomputeSetpoint]
    refine ((follows _).2.2.2 mode).trans ?_
    simp [recomputeSetpoint]
  · simp only [if_neg begins, follows]
    refine ⟨trivial, rfl, fun some law => law ?_, fun same => (follows _).2.2.2 same⟩
    rw [not_and, Option.isNone_iff_eq_none, ← ne_eq, Option.ne_none_iff_isSome] at begins
    exact begins some

theorem defrostSeesMode_eq {z : State} (cab : z.isCab = true) :
    (z.defrostMode = .off → (defrostSeesMode z).defrost = { z.defrost with state := .off, phase := none }) ∧
      (z.defrostMode ≠ .off → (z.defrostMode = .auto ∨ z.defrost.state ≠ .trim) →
        (defrostSeesMode z).defrost = (checkDefrost z).defrost) ∧
      (z.defrostMode = .max → z.defrost.state = .trim → (defrostSeesMode z).defrost = z.rampedDefrost) := by
  unfold defrostSeesMode
  rw [if_pos cab]
  refine ⟨fun off => by rw [off]; rfl, fun on looks => ?_, fun max trim => ?_⟩
  · cases mode : z.defrostMode with
    | off => exact absurd mode on
    | auto => rfl
    | max =>
      dsimp only
      rw [if_neg (looks.resolve_left (by rw [mode]; decide))]
  · rw [max]
    dsimp only
    rw [if_pos trim, enterRamp_eq]

/-- Where the mode moves, without an inhibition of the boost that begins, the defrost unit looks at it. -/
theorem handSlotsOn_defrost {o : Overrides} {y : State} (boost : o.boostInhibit = y.overrides.boostInhibit)
    (moved : ({ y with overrides := o } : State).defrostMode ≠ y.defrostMode) :
    (handSlotsOn o y).defrost = (defrostSeesMode (recomputeSetpoint { y with overrides := o })).defrost := by
  unfold handSlotsOn
  dsimp only
  have stands : ¬(o.boostInhibit.isSome = true ∧ y.overrides.boostInhibit.isNone = true) := by
    rw [boost]
    rintro ⟨some, none⟩
    rw [Option.isNone_iff_eq_none.mp none] at some
    cases some
  rw [if_neg stands]
  exact congrArg State.defrost (if_neg moved)

/-! ## OVERRIDE -/

/-- The slots that an OVERRIDE asks for. -/
def State.slotsAsked (s : State) (kind mask value duration : Byte) : Option Overrides :=
  if maskHas mask s.me then
    (overrideKindOf kind).bind (fun k =>
      ({ s.overrides with panelSilence := some 30000 } : Overrides).filled s.isCab k value duration)
  else none

/-- The panel's silence is no slot. -/
theorem filled_silence (o : Overrides) (silence : Timer) (cab : Bool) (k : OverrideKind) (value duration : Byte) :
    ({ o with panelSilence := silence } : Overrides).filled cab k value duration =
      (o.filled cab k value duration).map (fun o => { o with panelSilence := silence }) := by
  cases k <;> simp only [Overrides.filled]
  · split <;> rfl
  · split <;> rfl
  · rfl
  · rfl
  · rfl
  · split
    · cases defrostModeOf value <;> rfl
    · rfl

theorem takeOverride_cases (kind mask value duration : Byte) (y : State) :
    (∀ o, (if maskHas mask y.me then
          (overrideKindOf kind).bind (fun k => y.overrides.filled y.isCab k value duration) else none) = some o →
        takeOverride kind mask value duration y = (true, handSlotsOn o y)) ∧
      ((if maskHas mask y.me then
          (overrideKindOf kind).bind (fun k => y.overrides.filled y.isCab k value duration) else none) = none →
        takeOverride kind mask value duration y = (false, y)) := by
  unfold takeOverride
  by_cases named : maskHas mask y.me = true
  · simp only [if_pos named]
    cases overrideKindOf kind with
    | none => exact ⟨nofun, fun _ => rfl⟩
    | some k =>
      simp only [Option.bind_some]
      cases y.overrides.filled y.isCab k value duration with
      | none => exact ⟨nofun, fun _ => rfl⟩
      | some o => exact ⟨fun _ same => by rw [Option.some.inj same], nofun⟩
  · refine ⟨fun o asked => ?_, fun _ => if_neg named⟩
    rw [if_neg named] at asked
    cases asked

section
variable {codes : Sensors} {kind mask value duration : Byte} {s t u : State} {o : Overrides}

/-- The state in which an OVERRIDE is taken. -/
def State.overriding (s : State) (codes : Sensors) (kind mask value duration : Byte) : State :=
  s.opened codes 8 (.override kind mask value duration)

theorem overriding_overrides (s : State) (codes : Sensors) (kind mask value duration : Byte) :
    (s.overriding codes kind mask value duration).overrides = { s.overrides with panelSilence := some 30000 } := by
  unfold State.overriding
  rw [opened_overrides, if_pos (by decide)]

theorem override_ends (codes : Sensors) (kind mask value duration : Byte) (running : s.running = true) :
    ∃ t, exec (.override codes 8 kind mask value duration) s = .next t ∧
      FrameTaken codes 8 (.override kind mask value duration) s t ∧
      (∀ o, s.slotsAsked kind mask value duration = some o →
        ∃ u, finishRunning { evaluate := true } (s.heardFrame codes) u = t ∧
          SlotsTaken codes s (handSlotsOn o (s.overriding codes kind mask value duration)) u) ∧
      (s.slotsAsked kind mask value duration = none →
        ∃ u, finishRunning { evaluate := false } (s.heardFrame codes) u = t ∧
          SlotsTaken codes s (s.overriding codes kind mask value duration) u) := by
  have passes : s.passes (8 : BitVec 4).toNat (.override kind mask value duration) = true := rfl
  have hears : s.hears 8 (.override kind mask value duration) := hears_of_foreign (ownFrame_of_panel (by decide))
  obtain ⟨t, next, done⟩ := frame_taken (c := .override codes 8 kind mask value duration) rfl running passes hears
  have cab : (s.overriding codes kind mask value duration).isCab = s.isCab := by
    simp only [State.overriding, State.isCab, State.entry, opened_me, (opened_frame s codes 8 _).1]
  obtain ⟨fills, leaves⟩ := takeOverride_cases kind mask value duration (s.overriding codes kind mask value duration)
  have wanted : (if maskHas mask (s.overriding codes kind mask value duration).me then
      (overrideKindOf kind).bind (fun k => (s.overriding codes kind mask value duration).overrides.filled
        (s.overriding codes kind mask value duration).isCab k value duration) else none) =
      s.slotsAsked kind mask value duration := by
    rw [overriding_overrides, cab, State.overriding, opened_me]; rfl
  rw [wanted] at fills leaves
  have taken : s.taking codes 8 (.override kind mask value duration) =
      slotCourse (takeOverride kind mask value duration (s.overriding codes kind mask value duration)) := rfl
  refine ⟨t, next, done, fun o asked => ?_, fun unasked => ?_⟩
  · rw [fills o asked] at taken
    exact slots_taken done running (by decide) ⟨nofun, nofun⟩ taken (slotsMoved_handSlotsOn _ _)
  · rw [leaves unasked] at taken
    exact slots_taken done running (by decide) ⟨nofun, nofun⟩ taken (slotsMoved_refl _)

/-! ## The units behind slots that were filled -/

section
variable (slots : SlotsTaken codes s (handSlotsOn o (s.overriding codes kind mask value duration)) u)
  (ended : finishRunning { evaluate := true } (s.heardFrame codes) u = t)
include slots ended

theorem filled_overrides : t.overrides = o := (slots.blocks ended).2.2.2.1.trans (handSlotsOn_blocks o _).2.1

theorem filled_zone :
    t.zone.setpoint =
        some (max 20 (min 56 (s.entry.baseSetpoint +
          match t.overrides.setpointOffset with
          | some x => x.value
          | none => 0))) ∧
      t.zone.pendingFlag = (s.zone.pendingFlag || t.zone.setpoint != s.zone.setpoint) ∧
      ZoneEvaluated codes s (s.takenInto t s.share) t := by
  have zone : (handSlotsOn o (s.overriding codes kind mask value duration)).zone = _ :=
    (handSlotsOn_blocks o _).1.trans (opened_zone_cleared codes 8 (.override kind mask value duration) s o)
  have setpoint : t.zone.setpoint = some ({ s with overrides := o } : State).setpointNow :=
    (slots.blocks ended).2.2.2.2.2.2.trans (congrArg Zone.setpoint zone)
  have flag : t.zone.pendingFlag = _ := (slots.pendingFlag ended).trans (congrArg Zone.pendingFlag zone)
  refine ⟨?_, ?_, ?_⟩
  · have handed : t.zone.setpoint = some ({ s with overrides := t.overrides } : State).setpointNow := by
      rw [filled_overrides slots ended]; exact setpoint
    exact handed
  · rw [setpoint, flag, bne_comm]
  · exact zoneEvaluated_of_taken ⟨slots.running, slots.loader, slots.supply, slots.sensors, slots.same⟩ ended slots.share
      (.inr rfl) rfl (called_of_evaluate _ _)

theorem filled_inhibits (inhibited : o.boostInhibit.isSome = true) (law : BoostLaw s) : t.doors.oneShot = .idle := by
  rw [(slots.blocks ended).2.2.1]
  refine (handSlotsOn_blocks o _).2.2.1 inhibited fun before => ?_
  rw [overriding_overrides] at before
  exact (congrArg (fun d : DoorUnit => d.oneShot) (opened_frame s codes 8 (.override kind mask value duration)).2.2.2.2.2.1).trans
    (law before)

/-- Economy bars wishes below safety and draft. -/
theorem filled_economises (economises : o.economy.isSome = true) (unclaimed : t.claimFigure = 0)
    (shut : t.draftActive = false) :
    t.share.wishUnits = 0 ∧ t.share.wishRank = .normal ∧
      (s.member.state = .inStep → (∃ e, s.ownEntry = some e ∧ 0 < e.units ∧ e.rank ≠ .safety) → t.sending .claim) := by
  obtain ⟨_, _, _, _, decided, _⟩ := filled_zone slots ended
  obtain ⟨share, claim, _⟩ := decided
  obtain ⟨table, _, _, _, loader, member, _⟩ := slots.blocks ended
  have rank : t.airRank = .normal := by simp [State.airRank, shut]
  have barred : t.normalBarred = true := by
    simp [State.normalBarred, filled_overrides slots ended, economises]
  have wish : t.wish = (0, .normal) := by
    unfold State.wish
    rw [rank, unclaimed, barred]
    simp
  have units : t.share.wishUnits = 0 := by rw [share, wish]
  refine ⟨units, by rw [share, wish], fun inStep own => ?_⟩
  obtain ⟨e, entry, waits, other⟩ := own
  have entryT : t.ownEntry = some e := by
    rw [← entry]
    simp only [State.ownEntry, State.me, table, loader]
  have steps : t.member.state = .inStep := by
    rw [member]
    obtain same | ⟨catching, _⟩ := slots.member
    · exact same.trans inStep
    · rw [inStep] at catching; cases catching
  refine (claim.2 steps ?_ ?_).1 units
  · have unequal : e.units ≠ 0 := by omega
    simp [State.wishMatches, entryT, units, unequal]
  · simp [State.entryStands, State.ownEntrySafety, entryT, other]

end

end

end Sys2Proof.Machine
end

section
/-! Settles O18: OVERRIDE. -/

namespace Sys2Proof.Machine

section
variable {codes : Sensors} {kind mask value duration : Byte} {s t u : State} {o : Overrides}

/-! ## The defrost unit behind a mode that moved -/

/-- What the defrost unit makes of a mode that the slots `o` move. -/
theorem overriding_defrost (boost : o.boostInhibit = s.overrides.boostInhibit) (cab : s.isCab = true)
    (moved : ({ s with overrides := o } : State).defrostMode ≠ s.defrostMode) :
    (({ s with overrides := o } : State).defrostMode = .off →
        (handSlotsOn o (s.overriding codes kind mask value duration)).defrost =
          { s.defrost with state := .off, phase := none }) ∧
      (({ s with overrides := o } : State).defrostMode ≠ .off →
        (({ s with overrides := o } : State).defrostMode = .auto ∨ s.defrost.state ≠ .trim) →
        (handSlotsOn o (s.overriding codes kind mask value duration)).defrost =
          (checkDefrost { s with overrides := o }).defrost) ∧
      (({ s with overrides := o } : State).defrostMode = .max → s.defrost.state = .trim →
        (handSlotsOn o (s.overriding codes kind mask value duration)).defrost = s.rampedDefrost) := by
  have follows : SameFigures ({ s with overrides := o } : State)
      (recomputeSetpoint { s.overriding codes kind mask value duration with overrides := o }) :=
    (opened_follows codes 8 (.override kind mask value duration) s o).trans ⟨rfl, rfl, rfl, rfl, rfl, rfl, rfl, rfl⟩
  have modeY : (s.overriding codes kind mask value duration).defrostMode = s.defrostMode := opened_defrostMode ..
  have boostY : o.boostInhibit = (s.overriding codes kind mask value duration).overrides.boostInhibit := by
    rw [boost, overriding_overrides]
  have handed := handSlotsOn_defrost (o := o) (y := s.overriding codes kind mask value duration) boostY (by
    rw [modeY]; exact moved)
  obtain ⟨off, looks, starts⟩ := defrostSeesMode_eq (follows.isCab.trans cab)
  have mode : (recomputeSetpoint { s.overriding codes kind mask value duration with overrides := o }).defrostMode =
      ({ s with overrides := o } : State).defrostMode := rfl
  have defrost : (recomputeSetpoint { s.overriding codes kind mask value duration with overrides := o }).defrost = s.defrost :=
    follows.defrost
  have ramped : (recomputeSetpoint { s.overriding codes kind mask value duration with overrides := o }).rampedDefrost =
      s.rampedDefrost := rampedDefrost_congr follows.loader defrost
  rw [mode, defrost] at off looks starts
  rw [follows.checkDefrost_defrost] at looks
  rw [ramped] at starts
  rw [handed]
  exact ⟨off, looks, starts⟩

section
variable (slots : SlotsTaken codes s (handSlotsOn o (s.overriding codes kind mask value duration)) u)
  (ended : finishRunning { evaluate := true } (s.heardFrame codes) u = t) (boost : o.boostInhibit = s.overrides.boostInhibit)
  (cab : s.isCab = true) (moved : ({ s with overrides := o } : State).defrostMode ≠ s.defrostMode)
include slots ended boost cab moved

theorem filled_mode_off (off : ({ s with overrides := o } : State).defrostMode = .off) :
    t.defrost.state = .off ∧ t.request = 0 ∧ t.safetyKept = 0 ∧ t.claimFigure = 0 := by
  have defrost := slots.defrost_ended ended
  rw [(overriding_defrost boost cab moved).1 off, if_neg (by rintro ⟨_, waiting, _⟩; cases waiting)] at defrost
  have state : t.defrost.state = .off := by rw [defrost]
  refine ⟨state, ?_, ?_, ?_⟩
  · simp [State.request, state]
  · simp [State.safetyKept, state]
  · simp [State.claimFigure, state]

/-- A mode other than off: a station without defrost checks, trim starts anew under the mode max, and the rest stands. -/
theorem filled_mode_on (on : ({ s with overrides := o } : State).defrostMode ≠ .off) :
    (s.defrost.state = .off → DefrostChecked { s with overrides := o } t) ∧
      (s.defrost.state = .trim → ({ s with overrides := o } : State).defrostMode = .max → t.defrost = s.rampedDefrost) ∧
      (s.defrost.state ≠ .off → (s.defrost.state = .trim → ({ s with overrides := o } : State).defrostMode = .auto) →
        (s.defrost.state = .waiting → s.safetyHeld < s.loader.vt.defrostUnits) → t.defrost = s.defrost) := by
  have defrost := slots.defrost_ended ended
  obtain ⟨_, looks, starts⟩ := overriding_defrost (codes := codes) (kind := kind) (mask := mask) (value := value)
    (duration := duration) boost cab moved
  refine ⟨fun off => ?_, fun trim max => ?_, fun notOff auto short => ?_⟩
  · have settled : (checkDefrost { s with overrides := o }).defrost.state = .waiting →
        s.safetyHeld < s.loader.vt.defrostUnits := (checkDefrost_off_settled (s := { s with overrides := o }) off).1
    refine defrostChecked_of_eq cab off ?_
    rw [defrost, looks on (.inr (by rw [off]; decide)), if_neg]
    rintro ⟨_, waiting, enough⟩
    have := settled waiting
    omega
  · rw [defrost, starts max trim, if_neg]
    exact fun h => (rampedDefrost_state s).1 h.2.1
  · have still : (checkDefrost { s with overrides := o }).defrost = s.defrost := by
      rw [checkDefrost_of_state (s := { s with overrides := o }) notOff]
    have looked : ({ s with overrides := o } : State).defrostMode = .auto ∨ s.defrost.state ≠ .trim := by
      by_cases trim : s.defrost.state = .trim
      · exact .inl (auto trim)
      · exact .inr trim
    rw [defrost, looks on looked, still, if_neg]
    rintro ⟨_, waiting, enough⟩
    have := short waiting
    omega

end

/-- Behind a check, in the words of the statement. -/
theorem states_of_checked (off : s.defrost.state = .off) (checked : DefrostChecked { s with overrides := o } t) :
    (({ s with overrides := o } : State).defrostWanted = false → t.defrost.state = .off) ∧
      (({ s with overrides := o } : State).defrostWanted = true →
        (s.live = false ∨ s.member.state = .clash → t.defrost.state = .paused ∧ t.defrost.pausedKept = 0) ∧
          (s.live = true → s.member.state ≠ .clash → s.safetyHeld < s.loader.vt.defrostUnits → t.defrost.state = .waiting) ∧
          (s.live = true → s.member.state ≠ .clash → s.loader.vt.defrostUnits ≤ s.safetyHeld →
            t.defrost.state = (if s.screenClear = true then .hold else .ramp))) := by
  obtain ⟨stands, follows⟩ := checked
  rw [← defrostWanted_iff] at stands follows
  refine ⟨fun unwanted => ?_, fun wanted => ?_⟩
  · rw [stands (by simp [unwanted])]
    exact off
  · obtain ⟨starts, pauses⟩ := follows wanted
    refine ⟨fun barred => ?_, fun live noClash short => ?_, fun live noClash enough => ?_⟩
    · rw [pauses barred]
      exact ⟨rfl, rfl⟩
    · rw [(starts live noClash).1 short]
    · have ramps := (starts live noClash).2 enough
      rw [defrostRamps_iff] at ramps
      rw [ramps]
      rfl

/-! ## The slots by kind -/

theorem slotsAsked_of_kind {k : OverrideKind} (named : maskHas mask s.me = true) (known : overrideKindOf kind = some k) :
    s.slotsAsked kind mask value duration =
      ({ s.overrides with panelSilence := some 30000 } : Overrides).filled s.isCab k value duration := by
  unfold State.slotsAsked
  rw [if_pos named, known]
  rfl

/-- The defrost mode's slot, filled. -/
theorem slotsAsked_mode (named : maskHas mask s.me = true) (cab : s.isCab = true) {mode : DefrostMode}
    (known : defrostModeOf value = some mode) :
    s.slotsAsked 6 mask value duration =
      some { s.overrides with
        panelSilence := some 30000, defrostMode := some { value := mode, expiry := expiryOf duration } } := by
  rw [slotsAsked_of_kind named (k := .defrostMode) rfl]
  simp only [Overrides.filled, cab, if_true, known, Option.map_some]

end

end Sys2Proof.Machine
end

section
/-! Settles O18: OVERRIDE. -/

namespace Sys2Proof.Machine

section
variable {codes : Sensors} {kind mask value duration : Byte} {s t : State}

/-- The end of the command of an OVERRIDE: with the slots asked for it is evaluated, without them it may be. -/
structure OverrideEnds (codes : Sensors) (kind mask value duration : Byte) (s t : State) : Prop where
  done : FrameTaken codes 8 (.override kind mask value duration) s t
  filled : ∀ o, s.slotsAsked kind mask value duration = some o →
    ∃ u, finishRunning { evaluate := true } (s.heardFrame codes) u = t ∧
      SlotsTaken codes s (handSlotsOn o (s.overriding codes kind mask value duration)) u
  unfilled : s.slotsAsked kind mask value duration = none →
    ∃ u, finishRunning { evaluate := false } (s.heardFrame codes) u = t ∧
      SlotsTaken codes s (s.overriding codes kind mask value duration) u

namespace OverrideEnds
variable (ends : OverrideEnds codes kind mask value duration s t)
include ends

theorem blocks : t.overrides = (s.slotsAsked kind mask value duration).getD { s.overrides with panelSilence := some 30000 } ∧
    t.table = s.table ∧ t.supply = s.supply := by
  cases asked : s.slotsAsked kind mask value duration with
  | some o =>
    obtain ⟨u, ended, slots⟩ := ends.filled o asked
    obtain ⟨table, supply, _⟩ := slots.blocks ended
    exact ⟨filled_overrides slots ended, table, supply⟩
  | none =>
    obtain ⟨u, ended, slots⟩ := ends.unfilled asked
    obtain ⟨table, supply, _, overrides, _⟩ := slots.blocks ended
    exact ⟨overrides.trans (overriding_overrides ..), table, supply⟩

theorem evaluated {o : Overrides} (asked : s.slotsAsked kind mask value duration = some o) :
    t.zone.setpoint =
        some (max 20 (min 56 (s.entry.baseSetpoint +
          match t.overrides.setpointOffset with
          | some x => x.value
          | none => 0))) ∧
      t.zone.pendingFlag = (s.zone.pendingFlag || t.zone.setpoint != s.zone.setpoint) ∧
      ZoneEvaluated codes s (s.takenInto t s.share) t := by
  obtain ⟨u, ended, slots⟩ := ends.filled o asked
  exact filled_zone slots ended

theorem unmoved (unasked : s.slotsAsked kind mask value duration = none) :
    t.zone.setpoint = s.zone.setpoint ∧ t.zone.pendingFlag = s.zone.pendingFlag ∧
      TakingEvaluated codes s (s.takenInto t s.share) t := by
  obtain ⟨u, ended, slots⟩ := ends.unfilled unasked
  have zone : (s.overriding codes kind mask value duration).zone = s.zone := by simp [State.overriding]
  refine ⟨?_, ?_, ends.done.evaluated _ ?_ (.inr rfl)⟩
  · rw [(slots.blocks ended).2.2.2.2.2.2, zone]
  · rw [slots.pendingFlag ended, zone]
  · simp [State.taking, takeBulletin, slotCourse]

theorem setpointOffset (asked : s.slotsAsked kind mask value duration =
      some { s.overrides with
        panelSilence := some 30000
        setpointOffset := some { value := value.toInt, expiry := expiryOf duration } }) :
    t.overrides.setpointOffset =
        some { value := value.toInt, expiry := if duration = 0 then none else some (duration.toNat * 10000) } ∧
      t.zone.setpoint = some (max 20 (min 56 (s.entry.baseSetpoint + value.toInt))) := by
  have slots : t.overrides.setpointOffset = some { value := value.toInt, expiry := expiryOf duration } := by
    rw [ends.blocks.1, asked]
    rfl
  refine ⟨slots, ?_⟩
  rw [(ends.evaluated asked).1, slots]

end OverrideEnds

/-- The mode of the defrost, moved by an OVERRIDE. -/
theorem OverrideEnds.mode_off (ends : OverrideEnds codes 6 mask 0 duration s t) (named : maskHas mask s.me = true)
    (cab : s.isCab = true) (on : s.defrostMode ≠ .off) :
    t.defrost.state = .off ∧ t.request = 0 ∧ t.safetyKept = 0 ∧ t.claimFigure = 0 := by
  obtain ⟨u, ended, slots⟩ := ends.filled _ (slotsAsked_mode (mode := .off) named cab rfl)
  exact filled_mode_off slots ended rfl cab on.symm rfl

theorem OverrideEnds.mode_on {mode : DefrostMode} (ends : OverrideEnds codes 6 mask value duration s t)
    (named : maskHas mask s.me = true) (cab : s.isCab = true) (known : defrostModeOf value = some mode) (on : mode ≠ .off)
    (moved : s.defrostMode ≠ mode) :
    (s.defrost.state = .off → mode = .auto → s.defrost.fog = false ∨ s.coldOutside = false → t.defrost.state = .off) ∧
      (s.defrost.state = .off → mode = .max ∨ (s.defrost.fog = true ∧ s.coldOutside = true) →
        (s.live = false ∨ s.member.state = .clash → t.defrost.state = .paused ∧ t.defrost.pausedKept = 0) ∧
          (s.live = true → s.member.state ≠ .clash → s.safetyHeld < s.loader.vt.defrostUnits → t.defrost.state = .waiting) ∧
          (s.live = true → s.member.state ≠ .clash → s.loader.vt.defrostUnits ≤ s.safetyHeld →
            t.defrost.state = (if s.screenClear = true then .hold else .ramp))) ∧
      (s.defrost.state = .trim → mode = .max →
        t.defrost.state = (if s.screenClear = true then .hold else .ramp) ∧
          t.defrost.phase = some (if s.screenClear = true then s.loader.vt.holdTime else s.loader.vt.rampLimit)) ∧
      (s.defrost.state = .ramp ∨ s.defrost.state = .hold ∨ s.defrost.state = .paused ∨
          (s.defrost.state = .trim ∧ mode = .auto) ∨
          (s.defrost.state = .waiting ∧ s.safetyHeld < s.loader.vt.defrostUnits) →
        t.defrost = s.defrost) := by
  obtain ⟨u, ended, slots⟩ := ends.filled _ (slotsAsked_mode named cab known)
  obtain ⟨checks, starts, stays⟩ := filled_mode_on slots ended rfl cab moved.symm on
  have wanted_auto : mode = .auto → ({ s with
      overrides := { s.overrides with
        panelSilence := some 30000, defrostMode := some { value := mode, expiry := expiryOf duration } } } : State).defrostWanted =
      (s.defrost.fog && s.coldOutside) := fun auto => by subst auto; rfl
  have wanted_max : mode = .max → ({ s with
      overrides := { s.overrides with
        panelSilence := some 30000, defrostMode := some { value := mode, expiry := expiryOf duration } } } : State).defrostWanted =
      true := fun max => by subst max; rfl
  refine ⟨fun off auto quiet => ?_, fun off calls => ?_, fun trim max => ?_, fun state => ?_⟩
  · refine (states_of_checked off (checks off)).1 ?_
    rw [wanted_auto auto]
    obtain clear | warm := quiet
    · simp [clear]
    · simp [warm]
  · refine (states_of_checked off (checks off)).2 ?_
    obtain max | ⟨fog, cold⟩ := calls
    · exact wanted_max max
    · by_cases auto : mode = .auto
      · simp [wanted_auto auto, fog, cold]
      · refine wanted_max ?_
        cases mode with
        | off => exact absurd rfl on
        | auto => exact absurd rfl auto
        | max => rfl
  · rw [starts trim max]
    exact ⟨rfl, rfl⟩
  · refine stays ?_ (fun trim => ?_) (fun waiting => ?_)
    · obtain h | h | h | ⟨h, _⟩ | ⟨h, _⟩ := state <;> rw [h] <;> decide
    · obtain h | h | h | ⟨_, auto⟩ | ⟨h, _⟩ := state
      · rw [h] at trim; cases trim
      · rw [h] at trim; cases trim
      · rw [h] at trim; cases trim
      · exact auto
      · rw [h] at trim; cases trim
    · obtain h | h | h | ⟨h, _⟩ | ⟨_, short⟩ := state
      · rw [h] at waiting; cases waiting
      · rw [h] at waiting; cases waiting
      · rw [h] at waiting; cases waiting
      · rw [h] at waiting; cases waiting
      · exact short

end

/-- Settles O18: OVERRIDE fills a slot, and the units follow it. -/
theorem overrideTaken : Obligations.OverrideTaken := by
  intro codes kind mask value duration s running
  obtain ⟨t, next, done, filled, unfilled⟩ := override_ends codes kind mask value duration running
  have ends : OverrideEnds codes kind mask value duration s t := ⟨done, filled, unfilled⟩
  have asked_of : ∀ {k : OverrideKind}, maskHas mask s.me = true → overrideKindOf kind = some k →
      s.slotsAsked kind mask value duration =
        (s.overrides.filled s.isCab k value duration).map (fun o => { o with panelSilence := some 30000 }) :=
    fun named known => (slotsAsked_of_kind named known).trans (filled_silence ..)
  obtain ⟨overrides, table, supply⟩ := ends.blocks
  refine ⟨t, next, overrides, fun k named known fills => ?_, fun unasked => ends.unmoved ?_, fun named first low high => ?_,
    fun named second small => ?_, fun named third => ?_, fun named fourth law => ?_, fun named fifth unclaimed shut => ?_,
    fun named sixth cab => ⟨fun off on => ?_, fun moves => ?_⟩, table, supply⟩
  · obtain ⟨o, eq⟩ := Option.isSome_iff_exists.mp fills
    exact ends.evaluated ((asked_of named known).trans (by rw [eq]; rfl))
  · obtain unnamed | unknown | ⟨k, known, refused⟩ := unasked
    · simp [State.slotsAsked, unnamed]
    · simp [State.slotsAsked, unknown]
    · by_cases named : maskHas mask s.me = true
      · rw [asked_of named known, refused]; rfl
      · simp [State.slotsAsked, named]
  · subst first
    refine ends.setpointOffset ((slotsAsked_of_kind named (k := .setpointOffset) rfl).trans ?_)
    exact if_pos ⟨low, high⟩
  · subst second
    have asked := (slotsAsked_of_kind (kind := 2) (value := value) (duration := duration) named (k := .fanForce) rfl).trans (if_pos small)
    obtain ⟨_, _, _, measured, _⟩ := ends.evaluated asked
    rw [measured.2.2.2.2.2, overrides, asked]
    rfl
  · subst third
    have asked := slotsAsked_of_kind (kind := 3) (value := value) (duration := duration) named (k := .zoneOff) rfl
    obtain ⟨_, _, _, measured, _⟩ := ends.evaluated asked
    rw [measured.2.2.1, overrides, asked]
    rfl
  · subst fourth
    obtain ⟨u, ended, slots⟩ := filled _ (slotsAsked_of_kind (value := value) (duration := duration) named (k := .boostInhibit) rfl)
    exact filled_inhibits slots ended rfl law
  · subst fifth
    obtain ⟨u, ended, slots⟩ := filled _ (slotsAsked_of_kind (value := value) (duration := duration) named (k := .economy) rfl)
    exact filled_economises slots ended rfl unclaimed shut
  · subst sixth off
    exact ends.mode_off named cab on
  · subst sixth
    obtain ⟨rfl, moved⟩ | ⟨rfl, moved⟩ := moves
    · obtain ⟨stays, checks, _, stands⟩ := ends.mode_on (mode := .auto) named cab rfl (by decide) moved
      refine ⟨fun off _ quiet => stays off rfl quiet, fun off calls => checks off (.inr ?_), fun _ two => absurd two (by decide),
        fun state => stands ?_⟩
      · exact calls.resolve_left (by decide)
      · simpa using state
    · obtain ⟨_, checks, starts, stands⟩ := ends.mode_on (mode := .max) named cab rfl (by decide) moved
      refine ⟨fun _ one => absurd one (by decide), fun off _ => checks off (.inl rfl), fun trim _ => starts trim rfl,
        fun state => stands ?_⟩
      simpa using state

end Sys2Proof.Machine
end
